-- ==== Sys2Proof/Word.lean ====
section
/-! DEFINITION. Bytes, little-endian byte strings, clamping and rounding, and the check sums of the
spec: the plain arithmetic that every chapter uses. -/

namespace Sys2Proof

/-- One byte of a value, a frame or a record. -/
abbrev Byte := BitVec 8

/-- The `n` little-endian bytes of `v`, two's complement for a negative `v` (00 R2, 16 R407). -/
def leBytes : Nat → Int → List Byte
  | 0, _ => []
  | n + 1, v => BitVec.ofInt 8 v :: leBytes n (v / 256)

/-- The unsigned value of little-endian bytes (00 R2). -/
def ofLe : List Byte → Nat
  | [] => 0
  | b :: bs => b.toNat + 256 * ofLe bs

/-- The two's complement value of little-endian bytes (16 R407). -/
def ofLeSigned (bs : List Byte) : Int :=
  let v := ofLe bs
  if bs.length = 0 then 0
  else if 2 ^ (8 * bs.length - 1) ≤ v then (v : Int) - 2 ^ (8 * bs.length) else v

/-- Bytes `off … off + n − 1` of a packed value. -/
def field (v : Int) (off n : Nat) : Nat := (v.toNat / 256 ^ off) % 256 ^ n

/-- The same bytes read as two's complement. -/
def fieldS (v : Int) (off n : Nat) : Int :=
  let x := field v off n
  if 2 ^ (8 * n - 1) ≤ x then (x : Int) - 2 ^ (8 * n) else x

/-- Bits `lo … lo + n − 1` of a packed word. -/
def bits (v : Nat) (lo n : Nat) : Nat := (v / 2 ^ lo) % 2 ^ n

/-- Bit `i` of a non-negative word. -/
def bit (v : Int) (i : Nat) : Bool := bits v.toNat i 1 == 1

/-- `v` with bit `i` set. -/
def setBit (v : Int) (i : Nat) : Int := if bit v i then v else v + 2 ^ i

/-- `v` with bit `i` cleared. -/
def clearBit (v : Int) (i : Nat) : Int := if bit v i then v - 2 ^ i else v

/-- `v` held inside `lo … hi`. -/
def clampI (lo hi v : Int) : Int := max lo (min hi v)

/-- The same for exact numbers. -/
def clampQ (lo hi v : Rat) : Rat := max lo (min hi v)

/-- `v` saturated into an unsigned field of `n` bits. -/
def satU (n : Nat) (v : Int) : Int := clampI 0 (2 ^ n - 1) v

/-- `v` saturated into a two's complement field of `n` bits. -/
def satS (n : Nat) (v : Int) : Int := clampI (-(2 ^ (n - 1))) (2 ^ (n - 1) - 1) v

/-- Nearest integer, ties upward, where the spec rounds to the nearest unit. -/
def roundQ (q : Rat) : Int := (q + 1 / 2).floor

/-- One, or zero. -/
def b2i (b : Bool) : Int := if b then 1 else 0

/-- The element at `i` of a list of numbers, 0 beyond its end. -/
def sel (i : Nat) (l : List Int) : Int := l.getD i 0

/-- One byte of a CRC-16 with polynomial 0x1021, most significant bit first. -/
def crc16Byte (crc : BitVec 16) (b : Byte) : BitVec 16 :=
  (List.range 8).foldl
    (fun c _ => if c.getLsbD 15 then (c <<< 1) ^^^ 0x1021#16 else c <<< 1)
    (crc ^^^ (b.setWidth 16 <<< 8))

/-- CRC-16 of the feed link, initial value 0xFFFF (05 R123). -/
def crc16 (bs : List Byte) : BitVec 16 := bs.foldl crc16Byte 0xFFFF#16

/-- One byte of the reflected CRC-32C (19 R474). -/
def crc32cByte (crc : BitVec 32) (b : Byte) : BitVec 32 :=
  (List.range 8).foldl
    (fun c _ => if c.getLsbD 0 then (c >>> 1) ^^^ 0x82F63B78#32 else c >>> 1)
    (crc ^^^ b.setWidth 32)

/-- CRC-32C: reflected 0x1EDC6F41, initial value and final XOR 0xFFFFFFFF (19 R474). -/
def crc32c (bs : List Byte) : Nat := ((bs.foldl crc32cByte 0xFFFFFFFF#32) ^^^ 0xFFFFFFFF#32).toNat

/-- A list with the element at `i` replaced by its image; unchanged where `i` is out of the list. -/
def modAt {α : Type} (l : List α) (i : Nat) (f : α → α) : List α :=
  match l, i with
  | [], _ => []
  | a :: as, 0 => f a :: as
  | a :: as, n + 1 => a :: modAt as n f

end Sys2Proof
end

