-- ==== Sys2Proof/Operand.lean ====
section
/-! DEFINITION. The types of the commands' operands. Measured quantities are exact integers in the unit that
their docstring names. -/

namespace Sys2Proof

/-- State of SDA at the check before a PMBus transaction, or after a recovery (07 R184, R185): high; low and
freed by the recovery; low after its 16th pulse. -/
inductive Sda where
  | high | freed | stuck
  deriving DecidableEq, Repr

/-- How a PMBus transaction ended (07 R188): a NACK is one of the address or of a later byte. -/
inductive Reply where
  | ok (data : List Byte)
  | nack (address : Bool)
  | pec
  deriving DecidableEq, Repr

/-- An operation of a request, or of the management window (15 R391, 17 R444). -/
inductive Op where
  | read (index : BitVec 16) (sub : Byte)
  | write (index : BitVec 16) (sub : Byte) (data : List Byte)
  | nop
  | wait (index : BitVec 16) (sub : Byte) (compare mask timeout : BitVec 32)
  deriving DecidableEq, Repr

/-- Index and sub of an operation, if it has them. -/
def Op.address : Op → Option (Nat × Nat)
  | .read i s => some (i.toNat, s.toNat)
  | .write i s _ => some (i.toNat, s.toNat)
  | .wait i s _ _ _ => some (i.toNat, s.toNat)
  | .nop => none

/-- An operation is a WAIT. -/
def Op.isWait : Op → Bool
  | .wait _ _ _ _ _ => true
  | _ => false

/-- What the board does at a release of the power-on reset (20 R498). -/
structure PowerUp where
  /-- ADDR2..ADDR0 as sampled at the reset (17 R432). -/
  pins : Fin 8
  /-- State of SDA at the check of each PMBus port (07 R184). -/
  sda : List Sda
  /-- Learned-record slots (2n + slot) whose CRC does not match (09 R258). -/
  badLearned : List Nat
  /-- Ledger slots, 0 for A and 1 for B, whose CRC does not match (11 R289). -/
  badLedger : List Nat
  /-- Stored objects, by address, that fail their checks (16 R422). -/
  badStored : List Nat
  /-- Engines that do not load or do not pass their self-test (20 R499). -/
  badEngines : List Nat
  deriving DecidableEq, Repr

/-- A frame of a session (15 R383, R388): the session's entry, the port and the source MAC that it has come from, and SEQ. -/
structure FrameIn where
  session : Fin 16
  port : Fin 2
  mac : BitVec 48
  seq : BitVec 32
  deriving DecidableEq, Repr

/-- How the tag of a received OPEN verifies, with the 1 s interval of the crystal from power-on in which it came (15 R384,
R387). -/
structure OpenTag where
  verified : Bool
  second : Nat
  deriving DecidableEq, Repr

/-- A phase of the line at one conversion (02 R32): the voltage in mV and the current in mA. -/
structure LinePhase where
  v : Int
  i : Int
  deriving DecidableEq, Repr

/-- The monitor samples of an inrush of a tray gate (06 R155, R158): I_TG in mA, the codes of V_TS and of V_DS. -/
structure Inrush where
  k : Fin 16
  samples : List (Int × BitVec 12 × BitVec 12)
  deriving DecidableEq, Repr

/-- Changes over a step of the rectifier current (06 R175): V_bb in µV and I_R in mA. -/
structure BarStep where
  dv : Int
  di : Int
  deriving DecidableEq, Repr

/-- The two wires that tell whether string n is there (08 R214, R215): STHn and SIDn in µV. -/
structure StringWires where
  n : Fin 4
  sth : Int
  sid : Int
  deriving DecidableEq, Repr

/-- CHISn of a charger channel in mA (08 R220): at the firing, its largest in the pulse, its smallest before the next. -/
structure ChargerCurrent where
  fire : Int
  peak : Int
  low : Int
  deriving DecidableEq, Repr

/-- The output of the charger channel of string n: CHVOn in µV (08 R222). -/
structure ChargerOutput where
  n : Fin 4
  chvo : Int
  deriving DecidableEq, Repr

/-- One sample of a string's gauge converter with what the voltage converter has by then (09 R240, R242, R256): the
converter's output; the mean of SV9 input 3 + n over the 250 µs and its latest conversion in µV; the latest conversions of
the charger current in mA, of the bus voltage in µV and of the bus currents of groups A and B in mA. -/
structure GaugeIn where
  code : BitVec 24
  v : Int
  vLast : Int
  ch : Int
  vBus : Int
  iA : Int
  iB : Int
  deriving DecidableEq, Repr

/-- What has been measured over the lap that ends (02 R27). -/
structure LapData where
  /-- Duration of the lap in ns. -/
  duration : Nat
  /-- Line frequency in µHz. -/
  freq : Int
  /-- The negative-sequence fundamental exceeded the positive-sequence one in the lap mean (02 R31). -/
  negative : Bool
  /-- Mean of |V_AB| and amplitude of its fundamental, in mV (02 R38). -/
  absAb : Int
  fundAb : Int
  /-- RMS of the LA, LB and LC currents in mA (07 R193). -/
  rms : List Int
  /-- Mean of SV9 input 0 in µV (08 R223, 10 R272). -/
  vBus : Int
  /-- Per string, the samples of STHn in µV (08 R214). -/
  therm : List (List Int)
  /-- Per tray gate, means of V_TS, V_fb and V_DS in µV and of I_TG in mA (06 R174). -/
  trays : List (Int × Int × Int × Int)
  /-- Means of V_AK of ORA, ORB, SG0–SG3 in mV (06 R178). -/
  drops : List Int
  deriving DecidableEq, Repr

/-- Means of one feed over a split interval: power in mW, voltage in mV, mean and peak current in mA (02 R51). -/
structure FeedSplit where
  power : Int
  v : Int
  i : Int
  iPeak : Int
  deriving DecidableEq, Repr

/-- What has been measured over the interval that ends at a firing of slot 0 (02 R51). -/
structure SplitData where
  /-- Interval in ns; mean line frequency in µHz. -/
  duration : Nat
  freq : Int
  /-- RMS of V_AB, V_BC, V_CA in mV, of LA, LB, LC currents in mA, positive-sequence peak in mV. -/
  rmsV : List Int
  rmsI : List Int
  peak : Int
  /-- Bus: minimum, mean, maximum at the sense point, mean at the far end in mV; mean currents A, B in mA. -/
  bus : List Int
  feeds : List FeedSplit
  /-- Per string: mean and minimum V_str in mV, mean I_n in mA. -/
  strings : List (Int × Int × Int)
  /-- Total output power of the rectifiers in W. -/
  rectPower : Int
  deriving DecidableEq, Repr

/-- What a slot of the scheduler finds when it fires: for slot 1 the samples of SV9 input 0 since its last firing, oldest
first, in µV, each with its age in au at the firing; the split for slot 0 (07 R194, 02 R51). -/
structure FireData where
  bus : List (Int × Nat)
  split : SplitData
  deriving DecidableEq, Repr

/-- What a burst of memory holds (18 R453): a cell of item i of a lane; a link of a lane after its n-th item; the split
of a lap; a photo-finish slot; the ledger; a learned-record slot of a string; the journal entry of an object; the record
at a position; the image of an engine class in a bank; a slot of the key store; nothing of these. -/
inductive Region where
  | laneCell (q : Fin 128) (i : Nat)
  | laneLink (q : Fin 128) (n : Nat)
  | history (lap : Nat)
  | capture (slot : Fin 16)
  | ledger
  | learned (n : Fin 4) (b : Bool)
  | journal (key : Nat)
  | record (pos : Nat)
  | image (cls : Fin 7) (bank : Bool)
  | key (slot : Fin 8)
  | other
  deriving DecidableEq, Repr

end Sys2Proof
end

