-- ==== Sys2Proof/Syntax.lean ====
section
/-! DEFINITION. The commands of the block: one constructor per row of the command table, with the operands that the
rule of the row gives it. -/

namespace Sys2Proof

/-- The commands of the block, one per row of the command table. -/
inductive Instr where
  /-- POWER_ON (R498). Release of the VDD power-on reset starts the controller's start-up sequence: clocks, engine loads, configuration restore, NE and shelf-core roles. -/
  | powerOn (m : PowerUp)
  /-- VDD_RESET (R523). VDD falls below its power-on-reset threshold; every output goes inert and the controller is held in reset (a power cycle). -/
  | vddReset
  /-- BROWNOUT_WARNING (R24). VAON falls below the warning level; MRAM writes already started complete and writes not yet started are deferred. -/
  | brownoutWarning
  /-- BROWNOUT_CLEAR (R260). The brown-out warning clears without loss of supply; deferred write-backs are made at once. -/
  | brownoutClear
  /-- AON_LOSS (R523). VAON falls below 2.70 V; every output is inert and the controller is in reset. -/
  | aonLoss
  /-- SUPPLY_OUT_OF_RANGE (R520). A rail stays outside its operating range for 10 µs; a class-C event of block 86 is raised. -/
  | supplyOutOfRange (rail : Fin 5)
  /-- CRYSTAL_FAILURE (R20). No XTAL_IN edge arrives for 2 µs; GD declares a class-A fault. -/
  | crystalFailure
  /-- GD_LOCKSTEP_MISMATCH (R14). The two GD cores disagree, which is a class-A fault of the controller. -/
  | gdLockstepMismatch
  /-- AON_RECALIBRATION (R18). Once per second while CORE runs, the AON oscillator is recalibrated against the crystal. -/
  | aonRecalibration
  /-- LAP_BOUNDARY (R27). The angle passes from 65 535 to 0 and the lap count increments; all per-lap policy work of the boundary runs. -/
  | lapBoundary (m : LapData)
  /-- LINE_SAMPLE (R32). SV10 converts the line inputs at a 32-au trigger; line amplitude, deviation and the DPLL are evaluated. -/
  | lineSample (k : Fin 2048) (a b c : LinePhase) (phi : BitVec 16)
  /-- LINE_LOSS (R33). The amplitude stays below the loss level for the loss dwell; the timebase enters HOLDOVER. -/
  | lineLoss
  /-- LINE_PRESENT (R33). The amplitude stays at or above the return level for a full lap; the line is present and RELOCK is entered on an AC line. -/
  | linePresent
  /-- HOLDOVER_EXPIRED (R34). The hold-over laps elapse without a line; the timebase enters VIRTUAL and ramps to nominal. -/
  | holdoverExpired
  /-- LOCK_ACHIEVED (R34). |e| stays within the lock threshold for the lock laps; the timebase enters LOCKED. -/
  | lockAchieved
  /-- LOCK_LOST (R34). |e| exceeds 4 × the lock threshold for a whole lap; the timebase returns to RELOCK. -/
  | lockLost
  /-- ROTATION_CHANGE (R31). Negative sequence dominates for 16 present laps; the reported rotation changes and the rows are exchanged. -/
  | rotationChange
  /-- DEV_START (R42). K consecutive samples lie outside the template window; DEV_START is raised with two stamps. -/
  | devStart
  /-- DEV_END (R42). K consecutive samples lie inside the window after a DEV_START; DEV_END is raised. -/
  | devEnd
  /-- LINE_TRACK_ENABLE (R28). Writing LineTrackEnable 1 starts tracking, classification and the template; the frequency ramps to nominal. -/
  | lineTrackEnable (path : Fin 17)
  /-- LINE_TRACK_DISABLE (R34). Writing LineTrackEnable 0 takes the timebase to VIRTUAL with the frequency word held. -/
  | lineTrackDisable (path : Fin 17)
  /-- TEMPLATE_RESET (R41). Writing TemplateReset 1 resets the template and marks it invalid. -/
  | templateReset (path : Fin 17)
  /-- SCHEDULER_SLOT_WRITE (R46). A slot word write is checked and takes effect at the next lap boundary. -/
  | schedulerSlotWrite (path : Fin 17) (slot : Fin 64) (word : BitVec 64)
  /-- SLOT_FIRE (R45). An enabled scheduler slot fires at its angle in its lap, pulses its line and notifies the engines. -/
  | slotFire (slot : Fin 64) (m : FireData)
  /-- PMBUS_TRANSACTION_DONE (R188). A PMBus transaction completes or errs; its reply is processed, with repeats on error. -/
  | pmbusTransactionDone (p : Fin 4) (sda : Sda) (reply : Reply)
  /-- PMBUS_CLOCK_TIMEOUT (R186). SCL is held low for 35 ms; the transaction ends as an error. -/
  | pmbusClockTimeout (p : Fin 4) (sclLow : Bool)
  /-- PMBUS_STUCK_RETRY (R185). Every 1 s a STUCK port repeats its recovery and re-checks identities after success. -/
  | pmbusStuckRetry (p : Fin 4) (sda : Sda)
  /-- RECT_PROBE (R189). Every 1 s an EMPTY enabled slot is probed with PMBUS_REVISION. -/
  | rectProbe (r : Fin 32)
  /-- RECT_ADD_TIMEOUT (R202). An ADDING slot not ONLINE within AddSettleLaps enters FAULTED with the cause add timeout. -/
  | rectAddTimeout (r : Fin 32)
  /-- RECT_SHED_RAMP_END (R203). The shed ramp of a SHEDDING slot ends and the OPERATION 0x40 is placed. -/
  | rectShedRampEnd (r : Fin 32)
  /-- RECT_RETRY_DELAY_END (R205). After RectRetryDelay laps a FAULTED slot receives CLEAR_FAULTS and enters STANDBY. -/
  | rectRetryDelayEnd (r : Fin 32)
  /-- RECT_ENABLE (R192). Writing RectEnable 1 starts discovery, regulation and policy. -/
  | rectEnable (path : Fin 17)
  /-- RECT_DISABLE (R192). Writing RectEnable 0 stops all port commands; rectifiers keep their last VOUT_COMMAND. -/
  | rectDisable (path : Fin 17)
  /-- SLOT_ENABLE (R189). Writing SlotEnable 1 starts discovery of the slot. -/
  | slotEnable (r : Fin 32) (path : Fin 17)
  /-- SLOT_DISABLE (R192). Writing SlotEnable 0 sends OPERATION 0x40 to a running rectifier and ends traffic to the slot. -/
  | slotDisable (r : Fin 32) (path : Fin 17)
  /-- GROUP_ENABLE (R208). Writing GroupEnable 1 lifts the ORing force and makes the group's STANDBY slots available. -/
  | groupEnable (b : Bool) (path : Fin 17)
  /-- GROUP_DISABLE (R208). Writing GroupEnable 0 sheds every ONLINE slot of the group and then forces its ORing gate OFF. -/
  | groupDisable (b : Bool) (path : Fin 17)
  /-- RECT_ACK (R205). Writing RectAck 1 takes a LATCHED slot to STANDBY with a retry count of 0. -/
  | rectAck (r : Fin 32) (path : Fin 17)
  /-- TRIGGER_FIRE (R63). The feed trigger fires when y ≤ U and a cell is free, selecting a cell and timing its pulse. -/
  | triggerFire (k : Fin 16) (dt : Nat) (rearmed : List Nat)
  /-- PULSE_END (R64). The cell's on-time expires; PWMn goes high to mid and then to low after DT_HL. -/
  | pulseEnd (n : Fin 96) (dt : Nat) (iStart iEnd : Int)
  /-- CURRENT_LIMIT_TRIP (R72). IMON exceeds I_thr after the blank; the pulse ends and is counted as capped or over-current. -/
  | currentLimitTrip (n : Fin 96) (dt : Nat)
  /-- HICCUP_ENTRY (R74). HiccupRounds consecutive limited rounds occur; the feed enters HICCUP_OFF and its cells go SAFE. -/
  | hiccupEntry (k : Fin 16)
  /-- HICCUP_RESTART (R74). HiccupTime expires; the pre-start test runs and the feed restarts into RECOVERING. -/
  | hiccupRestart (k : Fin 16)
  /-- RECOVERY_COMPLETE (R74). RecoveryQual passes without an over-current pulse; OcState returns to NORMAL. -/
  | recoveryComplete (k : Fin 16)
  /-- DE_ENTRY (R68). The mean current per cell stays below DeEntry for DeDwell; the feed enters diode emulation. -/
  | deEntry (k : Fin 16)
  /-- DE_EXIT (R68). An SV7 sample exceeds DeExit; the feed leaves diode emulation. -/
  | deExit (k : Fin 16)
  /-- ZERO_CURRENT_DETECT (R69). In diode emulation IMON falls below ZcdThreshold; the low side is turned off. -/
  | zeroCurrentDetect (n : Fin 96) (dt : Nat)
  /-- FLOOR_PULSE (R70). In diode emulation no firing for 1 ÷ FloorFreq; one OnTimeMin pulse is fired. -/
  | floorPulse (k : Fin 16) (dt : Nat) (rearmed : List Nat)
  /-- PRESTART_TEST_PASS (R76). The 6 µs shorted-high-side test passes on every cell; the start proceeds. -/
  | prestartTestPass (k : Fin 16)
  /-- PRESTART_TEST_FAIL (R77). A cell's switch node exceeds V_thr; the feed is latched off as class A and its tray gate is driven off. -/
  | prestartTestFail (k : Fin 16) (positions : BitVec 12)
  /-- OPEN_PHASE (R78). Eight consecutive measured pulses show no current rise; the cell fails open. -/
  | openPhase (n : Fin 96)
  /-- IMON_RANGE_FAULT (R79). IMON lies outside 24–1176 mV for 3 samples; the cell has a sense fault. -/
  | imonRangeFault (n : Fin 96)
  /-- SUM_CHECK_JUDGEMENT (R79). After 16 samples beyond SumTolerance the sum check suspects a cell or the feed current sense. -/
  | sumCheckJudgement (k : Fin 16)
  /-- CAPACITY_LIMIT (R81). The 1 ms mean current exceeds the capacity C; the capacity limit takes effect and a cap notice follows. -/
  | capacityLimit (k : Fin 16) (mean : Int)
  /-- READMIT (R82). Writing Readmit 1 returns a RETIRED cell, tested and added per FeedState. -/
  | readmit (n : Fin 96) (path : Fin 17)
  /-- PHASE_MAP_WRITE (R57). A phase-map write is checked whole and applied to a disabled feed. -/
  | phaseMapWrite (k : Fin 16) (path : Fin 17) (map : List Byte)
  /-- LOOP_SAMPLE (R89). The loop engine runs one control-law sample: pacer, PI, filters, notches, feed-forward and fault checks. -/
  | loopSample (k : Fin 16) (dt : Nat) (vfb : List (Int × Int)) (iF : List Int) (vbus : Int) (imon : List (List Int))
  /-- REACHED (R96). The output meets its target for SettleTime; Reached is set and a start enters RUNNING. -/
  | reached (k : Fin 16)
  /-- SHED_START (R100). The shed dwell is met; the highest listed ACTIVE cell enters DRAINING. -/
  | shedStart (k : Fin 16)
  /-- DRAIN_COMPLETE (R101). The D-th drain pulse ends; the cell enters PARKED and ShedCount is incremented. -/
  | drainComplete (k : Fin 16)
  /-- PHASE_ADD (R102). The current stays above AddLevel for AddDwell; the lowest PARKED cell enters ACTIVE. -/
  | phaseAdd (k : Fin 16)
  /-- STEP_ES_WINDOW_CLOSE (R106). The Hint window closes unruled; the step early start is a false start and is reverted. -/
  | stepEsWindowClose (k : Fin 16)
  /-- FEED_ENABLE (R112). Writing FeedEnable 1 starts the feed: pre-start test, pacer from V_fb and soft start. -/
  | feedEnable (k : Fin 16) (path : Fin 17)
  /-- FEED_DISABLE (R113). Writing FeedEnable 0 ramps the feed to StopFloor or takes it to SAFE at once. -/
  | feedDisable (k : Fin 16) (path : Fin 17)
  /-- STOP_COMPLETE (R113). V_set reaches StopFloor; the cells enter SAFE and DRVENk is deasserted. -/
  | stopComplete (k : Fin 16)
  /-- TARGET_VOLTAGE_WRITE (R95). A host TargetVoltage write is checked for ownership and range and is applied by FeedState. -/
  | targetVoltageWrite (k : Fin 16) (path : Fin 17) (mv : BitVec 16)
  /-- START_TIMEOUT (R112). Reached is not set within StartTimeout of PRETEST; the feed latches. -/
  | startTimeout (k : Fin 16)
  /-- OUTPUT_OV (R114). V_fb exceeds the OV threshold at 2 samples; the feed latches as class B. -/
  | outputOv (k : Fin 16)
  /-- OUTPUT_UV (R114). V_fb stays below the UV threshold for UvTime; the feed latches as class B. -/
  | outputUv (k : Fin 16)
  /-- SENSE_OPEN (R114). V_fb is implausible for 3 samples; the feed latches as class B. -/
  | senseOpen (k : Fin 16)
  /-- BUS_OUT_OF_RANGE (R114). V_bus lies outside 32–60 V at 4 samples; the feed goes SAFE and WAITING. -/
  | busOutOfRange (k : Fin 16)
  /-- BUS_RESTART (R114). V_bus stays within BusRestart–60 V for 10 ms; a WAITING feed enters PRETEST. -/
  | busRestart (k : Fin 16)
  /-- TRANSFER_COMMIT (R115). At the first sample at or after boundary B, the feed triggers take U from the new engine. -/
  | transferCommit (same : Bool)
  /-- ENGINE_FAILURE (R512). GD declares an engine failed and hands its duties on, reloads it once, and retires it on a second failure. -/
  | engineFailure (e : Fin 16)
  /-- ZFL_SET_VOLTAGE (R138). A tray SetVoltage is checked, executed once and answered; its target is in force from the next sample. -/
  | zflSetVoltage (k : Fin 16) (seq : Byte) (payload : List Byte)
  /-- ZFL_HINT (R140). A tray Hint is acknowledged and may start a step early start. -/
  | zflHint (k : Fin 16) (seq : Byte) (payload : List Byte)
  /-- ZFL_QUERY (R141). A tray Query is answered with a Report of one committed item. -/
  | zflQuery (k : Fin 16) (seq : Byte) (payload : List Byte)
  /-- ZFL_IDLE (R143). A tray Idle frame fills its turn and is not answered. -/
  | zflIdle (k : Fin 16) (seq : Byte) (payload : List Byte)
  /-- ZFL_TRAY_ACK (R136). A tray Ack closes the unanswered controller notice. -/
  | zflTrayAck (k : Fin 16) (seq : Byte) (payload : List Byte)
  /-- ZFL_CORRUPT_FRAME (R126). A tray frame with a wrong CRC or cut short is discarded and counted. -/
  | zflCorruptFrame (k : Fin 16)
  /-- ZFL_ALERT (R131). ZALRTk_N goes low; the controller schedules a Grant. -/
  | zflAlert (k : Fin 16)
  /-- ZFL_BEAT (R131). BeatPeriod passes; a heartbeat Grant is sent. -/
  | zflBeat (k : Fin 16)
  /-- ZFL_TURN_MISSED (R129). No start byte arrives within 64 bit times of a Grant; the turn is void. -/
  | zflTurnMissed (k : Fin 16)
  /-- ZFL_NOTICE_TIMEOUT (R136). A notice goes unanswered for NoticeTimeout; it is resent, or after the last retry the link is lost. -/
  | zflNoticeTimeout (k : Fin 16)
  /-- ZFL_TRAINING_START (R146). TGk has been closed 10 ms, or 1 ms has passed after a loss; the link enters TRAINING. -/
  | zflTrainingStart (k : Fin 16)
  /-- ZFL_TRAINING_COMPLETE (R147). The sample-phase sweep ends; with a run of 5 taps the link enters UP, otherwise it retries. -/
  | zflTrainingComplete (k : Fin 16) (tap : Fin 16)
  /-- ZFL_TRAINING_RETRY (R147). 1 ms after a failed sweep, the sweep repeats. -/
  | zflTrainingRetry (k : Fin 16)
  /-- ZFL_LINK_ENABLE_WRITE (R146). Writing LinkEnable 0 holds the link DOWN; writing 1 allows training. -/
  | zflLinkEnableWrite (k : Fin 16) (path : Fin 17) (on : Bool)
  /-- PRESENCE_QUALIFIED (R157). TGPk_N stays low for PresenceDeglitch; the gate enters INSERTING. -/
  | presenceQualified (k : Fin 16)
  /-- PRESENCE_LOSS (R157). TGPk_N is high for 10 µs; the gate opens to ABSENT. -/
  | presenceLoss (k : Fin 16)
  /-- INSERT_DELAY_MET (R157). The insertion delay ends; the gate waits for the feed conditions. -/
  | insertDelayMet (k : Fin 16)
  /-- INRUSH_START (R157). The closing conditions hold; the gate enters INRUSH with power and current regulation. -/
  | inrushStart (k : Fin 16)
  /-- INRUSH_DONE (R158). V_DS stays below InrushDoneDrop for 10 µs; the gate enters CLOSED. -/
  | inrushDone (k : Fin 16) (samples : List (Int × BitVec 12 × BitVec 12))
  /-- INRUSH_TIMEOUT (R158). CLOSED is not reached within InrushTimeout; the gate trips. -/
  | inrushTimeout (m : Inrush)
  /-- TG_SHORT (R159). I_TG reaches ShortCurrent; the hardware comparator turns TGGk off and the gate trips. -/
  | tgShort (k : Fin 16)
  /-- FOLDBACK_ENTRY (R159). V_DS exceeds FoldbackDrop; constant-power regulation resumes and the fold-back timer starts. -/
  | foldbackEntry (k : Fin 16)
  /-- FOLDBACK_TIMEOUT (R159). The fold-back persists for FoldbackTime; the gate trips. -/
  | foldbackTimeout (k : Fin 16)
  /-- TG_OPEN_NO_TRIP (R160). The feed leaves the gate window or its running states; the gate opens to WAIT_FEED without a trip. -/
  | tgOpenNoTrip (k : Fin 16) (window : Bool)
  /-- COOLDOWN_END (R161). CoolDown ends; the gate re-enters INRUSH or waits in WAIT_FEED. -/
  | cooldownEnd (k : Fin 16)
  /-- TG_RETRY_RESET (R161). The gate stays CLOSED for RetryReset; the retry count returns to 0. -/
  | tgRetryReset (k : Fin 16)
  /-- TG_ACK (R163). Writing TgAck 1 takes a LATCHED gate to ABSENT or DISABLED. -/
  | tgAck (k : Fin 16) (path : Fin 17)
  /-- TG_ENABLE (R157). Writing TgEnable 1 starts the presence process. -/
  | tgEnable (k : Fin 16) (path : Fin 17)
  /-- TG_DISABLE (R160). Writing TgEnable 0 turns the gate off to DISABLED and clears its retries. -/
  | tgDisable (k : Fin 16) (path : Fin 17)
  /-- GATE_REQUEST_DIODE (R165). Writing GateRequest DIODE enters PRECHARGE or DIODE within 10 µs. -/
  | gateRequestDiode (g : Fin 6) (path : Fin 17) (vak : Int)
  /-- GATE_REQUEST_OFF (R165). Writing GateRequest OFF turns both banks off. -/
  | gateRequestOff (g : Fin 6) (path : Fin 17)
  /-- PRECHARGE_DONE (R167). V_AK falls below 500 mV in PRECHARGE; the gate passes to DIODE. -/
  | prechargeDone (g : Fin 6)
  /-- PRECHARGE_TIMEOUT (R167). Precharge does not finish in time; the gate is forced OFF with GateFault b2. -/
  | prechargeTimeout (g : Fin 6)
  /-- REVERSE_TURN_OFF (R166). V_AK falls below −RevThreshold; the diode bank turns off in hardware. -/
  | reverseTurnOff (g : Fin 6)
  /-- DIODE_TURN_ON (R166). V_AK reaches OnThreshold (for 1 µs after a reverse-off); the diode bank enhances. -/
  | diodeTurnOn (g : Fin 6)
  /-- DROP_FAULT (R171). The drop exceeds DropFault for DropFaultTime; the gate is forced OFF with GateFault b0. -/
  | dropFault (g : Fin 6)
  /-- BANK_SHORTED (R171). Reverse current persists with the bank off; the gate is forced OFF with GateFault b1. -/
  | bankShorted (g : Fin 6)
  /-- GATE_ACK (R171). Writing GateAck 1 acknowledges and releases a faulted ideal-diode gate. -/
  | gateAck (g : Fin 6) (path : Fin 17)
  /-- BUS_BAR_MEASURE (R175). After a rectifier-current step, the bus-bar resistance is updated from the means around it. -/
  | busBarMeasure (step : Int) (m : BarStep)
  /-- STRING_QUALIFIED (R216). STHn and SIDn stay in range for StringDeglitch; the string enters IDENTIFYING. -/
  | stringQualified (w : StringWires)
  /-- IDENTITY_READ_DONE (R216). An identity read completes valid or invalid; the learned values are restored, or the string learns afresh or is anonymous. -/
  | identityReadDone (n : Fin 4) (sync : Byte) (rest : List Byte)
  /-- IDENTITY_REREAD (R216). Every 10 s, or 50 ms after a failed try, the identity is read again. -/
  | identityReread (n : Fin 4)
  /-- STRING_REMOVAL (R217). An open or short at STHn or SIDn removes the string: charger stopped, gate forced OFF, gauge frozen. -/
  | stringRemoval (w : StringWires)
  /-- CHARGER_FIRE (R220). The charger channel fires a constant-on-time pulse at its valley or period trigger. -/
  | chargerFire (n : Fin 4) (dt : Nat) (i : ChargerCurrent) (mean : Option Int)
  /-- CHARGER_WINDOW_TRIP (R222). CHVOn leaves its window; CHPWMn goes to mid and CHDRVENn is deasserted in hardware. -/
  | chargerWindowTrip (o : ChargerOutput)
  /-- CHARGER_FAULT (R222). No removal follows a window trip within 10 µs; the string enters FAULT with ChargerFault b0. -/
  | chargerFault (n : Fin 4)
  /-- CHARGER_SENSE_FAULT (R222). Shunt and charger currents disagree for 5 s; the string enters FAULT with b1. -/
  | chargerSenseFault (n : Fin 4)
  /-- QUALIFY_PASS (R227). The cell voltage stays at or above QualifyVoltage for 10 s; QUALIFY passes to FAST. -/
  | qualifyPass (n : Fin 4)
  /-- QUALIFY_TIMEOUT (R227). QUALIFY does not pass within QualifyTimeout; the string enters FAULT with b2. -/
  | qualifyTimeout (n : Fin 4)
  /-- CHARGE_END_EVALUATION (R228). Every second in FAST, the −ΔV and dT/dt criteria are evaluated. -/
  | chargeEndEvaluation (n : Fin 4) (v : Int) (therm : List Int)
  /-- BACKUP_STOP (R229). The timer or the maximum voltage stops the charge; the string enters MAINTAIN. -/
  | backupStop (n : Fin 4) (causes : BitVec 4)
  /-- TOPOFF_END (R230). TopoffTime ends; the string enters MAINTAIN. -/
  | topoffEnd (n : Fin 4)
  /-- RECHARGE (R230). Removed charge or low voltage takes a MAINTAIN string back to FAST. -/
  | recharge (n : Fin 4)
  /-- CUTOFF (R233). V_cut stays below V_eod for CutoffTime; CutoffHold is set and the gate is forced OFF. -/
  | cutoff (n : Fin 4)
  /-- CUTOFF_RELEASE (R233). The string voltage recovers for 10 s; CutoffHold clears. -/
  | cutoffRelease (n : Fin 4)
  /-- STRING_ACK (R219). Writing StringAck 1 clears ChargerFault and takes a FAULT string to IDLE. -/
  | stringAck (n : Fin 4) (path : Fin 17)
  /-- STRING_ENABLE (R218). Writing StringEnable 1 starts string management from ABSENT. -/
  | stringEnable (n : Fin 4) (path : Fin 17)
  /-- STRING_DISABLE (R237). Writing StringEnable 0 stops the charger, forces the gate OFF and enters DISABLED. -/
  | stringDisable (n : Fin 4) (path : Fin 17)
  /-- CHARGE_ENABLE (R227). A write of ChargeEnable allows charging, or with 0 takes charge states to IDLE. -/
  | chargeEnable (path : Fin 17) (on : Bool)
  /-- GAUGE_SAMPLE (R243). Each 4 kS/s gauge output is scaled and integrated into the coulomb accumulator. -/
  | gaugeSample (n : Fin 4) (m : GaugeIn)
  /-- SHUNT_OVERLOAD_EVENT (R241). Eight consecutive overload samples raise a class-C event of the string. -/
  | shuntOverloadEvent (n : Fin 4)
  /-- KALMAN_STEP (R248). Every 10 ms the two-state Kalman filter predicts and updates each present string. -/
  | kalmanStep (v0 v1 v2 v3 : Int)
  /-- RESISTANCE_STEP (R251). A current step gives a resistance sample and R_25 is updated. -/
  | resistanceStep (n : Fin 4) (old new : Int)
  /-- REST_ANCHOR (R253). A rest of RestTime at a steep OCV slope anchors the string from its rested voltage. -/
  | restAnchor (n : Fin 4) (v : Int)
  /-- DISAGREE_SET (R255). The two SoC estimates differ beyond DisagreeLimit for 60 s; Disagree is set. -/
  | disagreeSet (n : Fin 4)
  /-- DISAGREE_CLEAR (R255). The difference stays below half the limit for 60 s; Disagree clears. -/
  | disagreeClear (n : Fin 4)
  /-- FORGET_LEARNED (R261). Writing ForgetLearned 1 resets the learned values and takes an insertion anchor. -/
  | forgetLearned (n : Fin 4) (path : Fin 17)
  /-- CONFIRM_ANGLE_EXPIRY (R268). ConfirmAngle passes from a DEV_START's first sample with no DEV_END; the dropout is confirmed. -/
  | confirmAngleExpiry
  /-- BUS_DROPOUT (R268). An armed bus lies below HoldupThreshold for HoldupSamples; the dropout is confirmed. -/
  | busDropout
  /-- RETURN_COMMIT (R278). In an open exchange zone with the return conditions met, the return is committed and the restarts are placed. -/
  | returnCommit
  /-- RETURN_TIMEOUT (R283). The return does not complete within ReturnLaps; the shelf returns to HOLDUP. -/
  | returnTimeout
  /-- HOLDUP_ENABLE (R285). A write of HoldupEnable starts the hold-up states, or is refused outside NORMAL. -/
  | holdupEnable (path : Fin 17) (on : Bool)
  /-- CREDIT_OFFER (R300). An incoming OFFER is accepted into escrow-in or refused by reason, or is answered from its record. -/
  | creditOffer (fr : FrameIn) (sender receiver : BitVec 16) (id : BitVec 64) (amount : BitVec 32)
  /-- CREDIT_ACCEPT (R299). An incoming ACCEPT makes the giver's settle commit and sends SETTLE. -/
  | creditAccept (fr : FrameIn) (sender receiver : BitVec 16) (id : BitVec 64)
  /-- CREDIT_REFUSE (R299). An incoming REFUSE returns the escrowed credits to the giver's pool. -/
  | creditRefuse (fr : FrameIn) (sender receiver : BitVec 16) (id : BitVec 64) (reason : BitVec 16)
  /-- CREDIT_SETTLE (R299). An incoming SETTLE releases the taker's escrow-in to its pool and sends CLOSE. -/
  | creditSettle (fr : FrameIn) (sender receiver : BitVec 16) (id : BitVec 64)
  /-- CREDIT_CLOSE (R299). An incoming CLOSE takes the giver record to CLOSED. -/
  | creditClose (fr : FrameIn) (sender receiver : BitVec 16) (id : BitVec 64)
  /-- CREDIT_WITHDRAW (R300). An incoming WITHDRAW is answered with ACCEPT or REFUSE by the taker. -/
  | creditWithdraw (fr : FrameIn) (sender receiver : BitVec 16) (id : BitVec 64) (amount : BitVec 32)
  /-- TRANSFER_OFFER (R306). A host TransferOffer write makes an offer commit and sends OFFER. -/
  | transferOffer (path : Fin 17) (data : List Byte)
  /-- TRANSFER_WITHDRAW (R306). A host TransferWithdraw write moves an OFFERED record to WITHDRAWING. -/
  | transferWithdraw (path : Fin 17) (id : BitVec 64)
  /-- ESCROW_RETURN (R306). EscrowResolve RETURN moves a stale giver escrow back to the pool. -/
  | escrowReturn (path : Fin 17) (id : BitVec 64)
  /-- ESCROW_SETTLE (R306). EscrowResolve SETTLE removes a stale giver escrow from the allotment. -/
  | escrowSettle (path : Fin 17) (id : BitVec 64)
  /-- ESCROW_RELEASE (R306). EscrowResolve RELEASE moves a stale taker escrow to the pool. -/
  | escrowRelease (path : Fin 17) (id : BitVec 64)
  /-- ESCROW_DROP (R306). EscrowResolve DROP removes a stale taker escrow from the allotment. -/
  | escrowDrop (path : Fin 17) (id : BitVec 64)
  /-- LEDGER_ADJUST (R306). A LedgerAdjust write adds a signed amount to the pool and the allotment. -/
  | ledgerAdjust (path : Fin 17) (amount : BitVec 32)
  /-- LEDGER_ACK (R291). Writing LedgerAck 1 clears the ledger freeze if the check passes. -/
  | ledgerAck (path : Fin 17)
  /-- SEQ_POWER_UP (R322). Writing SeqEnable 1 starts power-up of the rails in dependency order. -/
  | seqPowerUp (path : Fin 17)
  /-- SEQ_POWER_DOWN (R323). Writing SeqEnable 0 takes the rails down in reverse order. -/
  | seqPowerDown (path : Fin 17)
  /-- RAIL_START (R322). A rail's predecessors are UP and its StartDelay is met; its enable is asserted. -/
  | railStart (r : Fin 24)
  /-- PG_RISE (R319). A deglitched power-good rise starts qualification. -/
  | pgRise (r : Fin 24)
  /-- RAIL_QUALIFIED (R319). Power-good stays high for QualTime; the rail enters UP. -/
  | railQualified (r : Fin 24)
  /-- PG_FALL (R324). A deglitched power-good fall counts chatter, fails or holds the rail, or completes its discharge. -/
  | pgFall (r : Fin 24)
  /-- PG_TIMEOUT (R320). A rail does not reach UP within PgTimeout; it fails with cause b0. -/
  | pgTimeout (r : Fin 24)
  /-- RAIL_STOP_STEP (R323). A rail's dependants are OFF and its StopDelay is met; its enable goes off. -/
  | railStopStep (r : Fin 24)
  /-- DISCHARGE_TIMEOUT (R323). A stopping rail is not discharged in time; it counts as OFF with a notice. -/
  | dischargeTimeout (r : Fin 24)
  /-- RETRY_DELAY_END (R325). RetryDelay or SeqRetryDelay ends; the subtree or the whole sequence powers up again. -/
  | retryDelayEnd (root : Option (Fin 24))
  /-- SEQ_RETRY_COUNT_RESET (R326). Rails stay UP for RetryReset; the retry counts return to 0. -/
  | seqRetryCountReset (root : Option (Fin 24))
  /-- SEQ_ACK (R325). Writing SeqAck 1 in LATCHED takes the sequencer to OFF with counts cleared. -/
  | seqAck (path : Fin 17)
  /-- SEQ_FLT_LOW (R332). A deglitched low on SEQ_FLT_N, not driven by the controller, starts a shared shutdown. -/
  | seqFltLow
  /-- SEQ_FLT_RELEASE_MET (R332). The line stays high for SeqFltRelease; the sequencer restarts or goes OFF. -/
  | seqFltReleaseMet
  /-- SEQ_FLT_STUCK (R333). The line stays low for SeqFltStuckTime after release; a class-C notice is recorded. -/
  | seqFltStuck
  /-- RST_STRETCH_DONE (R331). A reset output's condition holds for RstStretch; it is released. -/
  | rstStretchDone (i : Fin 8)
  /-- WINDOW_DECISION (R344). At its tick a window unit samples its node and updates its count, output and edge flags. -/
  | windowDecision (tick : Fin 22) (codes : List Int)
  /-- ROUTER_TIMER_EXPIRY (R348). Timer TMRj expires and pulses its router source. -/
  | routerTimerExpiry (j : Fin 4)
  /-- EVO_PULSE_END (R349). An EVO pulse of EvoWidth ends. -/
  | evoPulseEnd (j : Fin 4)
  /-- WINDOW_CLEAR (R344). Writing Clear 1 sets a unit's output and count to 0. -/
  | windowClear (u : Fin 64) (path : Fin 17)
  /-- LATCH_CLEAR_MASK_WRITE (R344). Writing LatchClearMask clears every unit whose bit is set. -/
  | latchClearMaskWrite (path : Fin 17) (mask : BitVec 64)
  /-- EDGE_CLEAR (R345). Writing EdgeClear clears a privileged unit's edge flags. -/
  | edgeClear (u : Fin 8) (path : Fin 17) (flags : Byte)
  /-- ROUTE_HOLD (R347). A RouteHold write holds or releases a unit's router source; release with output 1 raises an edge. -/
  | routeHold (u : Fin 64) (path : Fin 17) (hold : Bool)
  /-- ROUTER_ENABLE (R351). Writing RouterEnable 1 makes the masks in force act on later edges. -/
  | routerEnable (path : Fin 17)
  /-- FAULT_ACK (R361). Writing FaultAck 1 acknowledges a block's open B and C entries. -/
  | faultAck (b : Fin 96) (path : Fin 17)
  /-- FAULT_N_PULSE_END (R368). The hardware pulse ends; GD holds or releases FAULT_N by the hold mask. -/
  | faultNPulseEnd
  /-- THERMAL_SAMPLE (R370). Every 1 ms GD samples the diode sensor and updates Tj. -/
  | thermalSample (sample : Option Int)
  /-- RISE_RATE_EVALUATION (R371). Every 100 ms the rise rate is evaluated for warning or shutdown. -/
  | riseRateEvaluation
  /-- THERMAL_SHUTDOWN (R371). The 140 °C comparator trips; the controller enters its class-A safe state. -/
  | thermalShutdown
  /-- THERMAL_CORE_STOP (R366). After a thermal class A, CORE stops and the controller stays in standby. -/
  | thermalCoreStop
  /-- IOP_OPEN (R387). A verified OPEN is answered with OPEN_ACK, opening or refusing a session. -/
  | iopOpen (p : Fin 2) (mac : BitVec 48) (slot mode : Byte) (nonce : List Byte) (tag : OpenTag)
  /-- IOP_OPEN_ACK (R387). A peer's OPEN_ACK to the controller's OPEN yields the session key and a CONFIRM. -/
  | iopOpenAck (h : Fin 16) (p : Fin 2) (mac : BitVec 48) (id : BitVec 32) (result mode : Byte) (nonceC nonceH : List Byte)
  /-- IOP_CONFIRM (R387). A verified CONFIRM opens the session. -/
  | iopConfirm (h : Fin 16) (p : Fin 2) (mac : BitVec 48)
  /-- IOP_REQUEST (R391). A REQUEST is accepted, checked for rights and format, executed and answered. -/
  | iopRequest (h : Fin 16) (p : Fin 2) (mac : BitVec 48) (seq : BitVec 32) (fence retry soon : Bool) (body : List Byte)
  /-- OP_READ (R392). A READ operation returns the object value at its instant. -/
  | opRead (h : Fin 16) (seq : BitVec 32) (i : Fin 16)
  /-- OP_WRITE (R392). A WRITE operation is checked and applied by the object's apply class. -/
  | opWrite (h : Fin 16) (seq : BitVec 32) (i : Fin 16) (stored : Bool)
  /-- OP_NOP (R388). A NOP operation does nothing and keeps the session alive. -/
  | opNop (h : Fin 16) (seq : BitVec 32) (i : Fin 16)
  /-- OP_WAIT (R397). A WAIT operation starts waiting for an object to match under a mask. -/
  | opWait (h : Fin 16) (seq : BitVec 32) (i : Fin 16)
  /-- WAIT_COMPLETE (R397). The waited object matches; the WAIT completes with its value. -/
  | waitComplete (h : Fin 16) (seq : BitVec 32) (i : Fin 16)
  /-- WAIT_TIMEOUT (R397). A WAIT reaches its timeout and completes with the timeout error. -/
  | waitTimeout (h : Fin 16) (seq : BitVec 32) (i : Fin 16)
  /-- IOP_NOTIFY_ACK (R399). A NOTIFY_ACK releases an unacknowledged notification. -/
  | iopNotifyAck (h : Fin 16) (p : Fin 2) (mac : BitVec 48) (seq acked : BitVec 32)
  /-- IOP_CLOSE (R388). A CLOSE ends the session; pending operations are abandoned. -/
  | iopClose (h : Fin 16) (p : Fin 2) (mac : BitVec 48) (seq : BitVec 32) (reason : Byte)
  /-- IOP_BAD_FRAME (R384). A frame whose tag or header fails is discarded and counted in TagErrors. -/
  | iopBadFrame (p : Fin 2) (second : Nat)
  /-- FOREIGN_FRAME (R381). A non-IOP or misaddressed frame is counted and ignored. -/
  | foreignFrame (p : Fin 2)
  /-- SESSION_CONFIRM_TIMEOUT (R387). No CONFIRM verifies within 100 ms; the session entry is freed. -/
  | sessionConfirmTimeout (h : Fin 16)
  /-- SESSION_IDLE_CLOSE (R388). No verified frame for SessionIdle; the session is closed with reason 2. -/
  | sessionIdleClose (h : Fin 16)
  /-- NOTIFY_RETRY (R399). An unacknowledged notification is resent each NotifyRetry, then dropped. -/
  | notifyRetry (h : Fin 16) (seq : BitVec 32)
  /-- PEER_SESSION_OPEN (R400). Every 1 s the lower ShelfId tries to open a peer session. -/
  | peerSessionOpen (i : Fin 16)
  /-- BEACON_LOSS (R378). A follower sees no BEACON for BeaconLossTime and falls back to CSMA/CD. -/
  | beaconLoss (p : Fin 2)
  /-- BEACON_RECEIVED (R378). A BEACON returns a fallen-back follower to PLCA. -/
  | beaconReceived (p : Fin 2)
  /-- PORT_SILENT (R379). A port receives no good frame for PortLossTime and becomes SILENT. -/
  | portSilent (p : Fin 2)
  /-- SEGMENT_MEASURE (R382). Writing SegmentMeasure 1 sends a test pulse for a reflection measurement. -/
  | segmentMeasure (p : Fin 2) (path : Fin 17)
  /-- SEGMENT_MEASURE_DONE (R382). The reflection is timed and the length and fault type are set. -/
  | segmentMeasureDone (p : Fin 2) (echo : Option Nat) (fault : Fin 3)
  /-- WALL_CLOCK_SYNC (R401). A WallClockSync write stores the UTC-and-stamp pair. -/
  | wallClockSync (path : Fin 17) (pair : List Byte)
  /-- KEY_WRITE (R386). A key write stores a long-term key and closes its slot's sessions. -/
  | keyWrite (slot : Fin 8) (path : Fin 17) (key : List Byte)
  /-- KEY_CLEAR (R386). Writing KeyClear erases a key and closes its slot's sessions. -/
  | keyClear (slot : Fin 8) (path : Fin 17)
  /-- RIGHTS_WRITE (R386). A Rights write changes a slot's rights and closes its sessions. -/
  | rightsWrite (slot : Fin 8) (path : Fin 17) (rights : BitVec 16)
  /-- OBJECT_WRITE (R411). A write to an object without a row of its own is checked and applied by its class. -/
  | objectWrite (path : Fin 17) (index : BitVec 16) (sub : Byte) (data : List Byte) (stored : Bool)
  /-- STAGING_BEGIN (R417). Commit 1 opens a staging set for the path. -/
  | stagingBegin (path : Fin 17)
  /-- STAGING_COMMIT (R418). Commit 2 checks the staged set and applies it at one edge. -/
  | stagingCommit (path : Fin 17)
  /-- STAGING_DISCARD (R417). Commit 3 discards the path's staging set. -/
  | stagingDiscard (path : Fin 17)
  /-- STAGING_TIMEOUT (R417). A set receives no write for StagingTimeout and is discarded. -/
  | stagingTimeout
  /-- FENCE (R395). A write to 0x1F00 orders the session's operations. -/
  | fence (path : Fin 17) (value : Byte)
  /-- SNAPSHOT_CAPTURE (R427). A SnapshotFence write captures the state mirror at one edge. -/
  | snapshotCapture (path : Fin 17) (value : Byte)
  /-- FACTORY_RESTORE (R424). Writing the FACT value restores the RWS defaults and discards the apply queue. -/
  | factoryRestore (path : Fin 17) (value : BitVec 32)
  /-- MGMT_WRITE_TRANSACTION (R438). A management write transaction's bytes take effect together at its STOP or repeated START. -/
  | mgmtWriteTransaction (data : List Byte)
  /-- MGMT_WAKE (R435). An address match in standby stretches SCL and wakes the controller. -/
  | mgmtWake (ns : Nat) (m : PowerUp)
  /-- WAKE_FAILURE (R435). CORE does not run within 1 ms; SCL is released and the wake abandoned. -/
  | wakeFailure
  /-- MGMT_STUCK_RELEASE (R434). SCL stays low 35 ms while the port holds SDA; SDA is released. -/
  | mgmtStuckRelease
  /-- WINDOW_OP_READ (R444). OP 1 in the window starts a dictionary READ into the data area. -/
  | windowOpRead
  /-- WINDOW_OP_WRITE (R444). OP 2 in the window starts a dictionary WRITE from the data area. -/
  | windowOpWrite (stored : Bool)
  /-- WINDOW_OP_DONE (R444). A window operation completes; STATE, STATUS, DISP and OPSTAMP are set and WindowDone is raised. -/
  | windowOpDone
  /-- ALERT_CAUSE_CLEAR (R441). Writing 1s to AlertCause clears those bits and updates ALERT_N. -/
  | alertCauseClear (mask : BitVec 16)
  /-- FAST_STATUS_REFRESH (R442). Every 100 µs GD refreshes the fast status page. -/
  | fastStatusRefresh
  /-- DDR_TRAINING_DONE (R448). DDR4 training passes to READY or fails to FAILED. -/
  | ddrTrainingDone (ok : Bool)
  /-- DDR_TRAINING_RETRY (R448). 60 s after FAILED or LOST, training is tried again. -/
  | ddrTrainingRetry
  /-- CA_PARITY_ERROR (R449). A DDR4 parity alert repeats the command sequence, or after 3 repeats takes DDR4 to LOST. -/
  | caParityError (again : Bool)
  /-- PATROL_SCRUB (R452). A patrol scrubber reads the next burst and decodes it. -/
  | patrolScrub (mram : Bool) (upset : List Byte) (holds : Region) (inSecond : Nat)
  /-- DDR_REFRESH (R454). A DDR4 all-bank refresh is issued at the interval of the band. -/
  | ddrRefresh
  /-- ZQ_CALIBRATION (R454). Every 128 ms and at band changes a short ZQ calibration runs. -/
  | zqCalibration
  /-- PUSH_SEGMENT (R464). A PushSegment write appends words to a lane packet, with FIRST, LAST or ABORT. -/
  | pushSegment (q : Fin 128) (path : Fin 17) (data : List Byte)
  /-- LANE_CLAIM (R465). Writing Claim 1 moves the oldest committed item to in flight. -/
  | laneClaim (q : Fin 128) (path : Fin 17)
  /-- LANE_RELEASE (R465). Writing the claimed sequence number to Release frees the item's cells. -/
  | laneRelease (q : Fin 128) (path : Fin 17) (seq : BitVec 32)
  /-- LANE_FLUSH (R470). Writing LaneEnable 0 flushes the lane's items and rewinds its packet. -/
  | laneFlush (q : Fin 128) (path : Fin 17)
  /-- LANE_IDLE (R467). A lane unclaimed for IdleTime sets LaneIdle and raises a notice. -/
  | laneIdle (q : Fin 128)
  /-- RECORD_WRITE (R477). BE takes the next queued event and writes, merges, freezes or refuses it. -/
  | recordWrite
  /-- FREEZE (R480). Writing Freeze 1 freezes the recorder. -/
  | freeze (path : Fin 17)
  /-- UNFREEZE (R480). Writing Freeze 0 releases the recorder. -/
  | unfreeze (path : Fin 17)
  /-- FREEZE_TIMEOUT (R480). FreezeTimeout passes; the recorder is released with event 0x000B. -/
  | freezeTimeout
  /-- CLEAR_KEY_WRITE (R485). A ClearKey write stores the clear key and voids any challenge. -/
  | clearKeyWrite (path : Fin 17) (key : List Byte)
  /-- CLEAR_REQUEST (R486). Writing ClearRequest 1 draws a 16-byte challenge. -/
  | clearRequest (path : Fin 17)
  /-- CLEAR_RESPONSE (R487). A matching ClearResponse clears the recorder in one commit with a clear record. -/
  | clearResponse (path : Fin 17) (mac : List Byte)
  /-- CLEAR_CHALLENGE_EXPIRY (R486). A challenge is valid for 60 s and then void. -/
  | clearChallengeExpiry
  /-- PF_FRAME (R488). At each frame tick one photo-finish frame is stored. -/
  | pfFrame (words : List Nat)
  /-- PF_TRIGGER (R490). Writing PfTrigger 1 (or a target-49 edge) starts a capture's post-trigger recording. -/
  | pfTrigger (path : Fin 17)
  /-- PF_CAPTURE_FROZEN (R490). The last post-trigger frame freezes the slot and may re-arm the next. -/
  | pfCaptureFrozen
  /-- PF_ENABLE (R490). Writing PfEnable 1 starts live recording into the lowest free slot. -/
  | pfEnable (path : Fin 17)
  /-- PF_DISABLE (R490). Writing PfEnable 0 finishes any post-trigger recording and discards the live ring. -/
  | pfDisable (path : Fin 17)
  /-- PF_RELEASE (R492). Writing PfRelease frees a frozen slot. -/
  | pfRelease (path : Fin 17) (slot : Byte)
  /-- AUTOSTART_STEP (R501). The autostart profile applies the stored enables of its next step once the previous wait holds. -/
  | autostartStep
  /-- AUTOSTART_LOCK_WAIT_EXPIRY (R501). LockWaitLaps pass without lock; a notice is recorded and step 4 runs without its wait. -/
  | autostartLockWaitExpiry
  /-- BRINGUP_TIMEOUT (R502). BringUpTimeout expires; the autostart profile fails with cause 1. -/
  | bringupTimeout
  /-- STANDBY_REQUEST (R500). Writing StandbyRequest 1 records and stops CORE into standby. -/
  | standbyRequest (path : Fin 17)
  /-- PACKAGE_WRITE (R505). A PackageWrite piece is stored in the staging buffer. -/
  | packageWrite (path : Fin 17) (data : List Byte)
  /-- PACKAGE_VERIFY (R505). Writing PackageVerify 1 starts the package checks. -/
  | packageVerify (path : Fin 17)
  /-- PACKAGE_VERIFY_DONE (R505). Verification ends with the package verified or rejected. -/
  | packageVerifyDone
  /-- PACKAGE_INSTALL (R506). Writing PackageInstall 1 starts copying a verified image into the free bank. -/
  | packageInstall (path : Fin 17)
  /-- PACKAGE_INSTALL_DONE (R506). The copy is read back and the bank is made valid, or the install fails. -/
  | packageInstallDone (ok : Bool)
  /-- PACKAGE_DISCARD (R505). Writing PackageDiscard empties the staging buffer. -/
  | packageDiscard (path : Fin 17)
  /-- ENGINE_UPDATE (R509). Writing EngineUpdate loads a bank into an engine that meets its preconditions. -/
  | engineUpdate (e : Fin 16) (path : Fin 17) (bank : Byte)
  /-- ENGINE_LOAD_DONE (R509). An engine load completes or fails its self-test and is reloaded from its old bank. -/
  | engineLoadDone (e : Fin 16) (ok : Bool)
  /-- ENGINE_RETIRE (R512). Writing EngineRetire 1 retires an engine on request. -/
  | engineRetire (e : Fin 16) (path : Fin 17)
  /-- PAIR_MOVE (R507). A PairMove write schedules a pair transfer to or from LE8 at boundary B. -/
  | pairMove (path : Fin 17) (data : List Byte)
  /-- SWAP_LAP (R507). A SwapLap write schedules a shelf-core role exchange at a lap boundary. -/
  | swapLap (path : Fin 17) (lap : BitVec 64)
  /-- ZFL_UNKNOWN_TYPE (R126). A tray frame with a correct CRC but an unknown TYPE, or a controller-only TYPE, is refused with reason 0x08. -/
  | zflUnknownType (k : Fin 16) (type seq : Byte) (payload : List Byte)
  /-- FCS_ERROR_FRAME (R381). A field-network frame with a wrong FCS is counted in FcsErrors and has no other effect. -/
  | fcsErrorFrame (p : Fin 2)
  /-- COLLISION (R378). A collision on the medium is counted in Collisions and voids and repeats a segment measurement in progress. -/
  | collision (p : Fin 2)
  /-- FOLDBACK_RECOVERY (R159). In fold-back, V_DS falls below InrushDoneDrop before FoldbackTime; the gate stays CLOSED and the fold-back timer clears. -/
  | foldbackRecovery (k : Fin 16)
  /-- SEQ_FLT_ROUTE_PULSE_END (R334). The 100 µs hardware low on SEQ_FLT_N driven by a router target-44 route ends and the line is released. -/
  | seqFltRoutePulseEnd
  /-- SEQ_FLT_RISE (R332). A deglitched rise of SEQ_FLT_N is a sequencer event with a snapshot and starts the SeqFltRelease wait. -/
  | seqFltRise
  /-- AON_POWER_UP (R440). VAON comes inside its operating conditions; the port page is served, the address pins are sampled and the port counters start. -/
  | aonPowerUp (pins : Fin 8)
  /-- SUPPLY_IN_RANGE (R520). A rail that was out of range returns inside its operating conditions, and the guarantees that depend on them apply again. -/
  | supplyInRange (rail : Fin 5)
  /-- WATCHDOG_RESET (R484). A watchdog reset of the controller releases SDA, resets the controller and gives reset cause 2 in the power-on record. -/
  | watchdogReset
  deriving DecidableEq, Repr

end Sys2Proof
end

