-- ==== Sys2Proof/Decode.lean ====
section
/-! DEFINITION. The commands that a word of the command table spells. The table gives no row any bits: a command
reaches the block as a write, an edge, a frame, a measurement or a timer, not as a word. -/

namespace Sys2Proof

/-- The command that a word of `nbits` bits spells by the table's bits: none, since no row of the table has bits. -/
def decodeTableWord (_nbits _w : Nat) : Option Instr := none

end Sys2Proof
end

