-- ==== Sys2Proof/Config.lean ====
section
/-! DEFINITION. What one unit fixes (factory values) and what the spec leaves open: constants without a
body, so that nothing can be proved of their values. -/

namespace Sys2Proof.Config

/-- Stepping number of the silicon, set at manufacture (16 R429).
DESIGN CHOICE 14 (notes/assumptions). -/
opaque siliconStepping : Int
/-- Serial number of the unit (16 R429).
DESIGN CHOICE 14 (notes/assumptions). -/
opaque serialNumber : Int
/-- MAC of port NA (15 R404).
DESIGN CHOICE 14 (notes/assumptions). -/
opaque macBase : Int
/-- Identifier of the package verification key (20 R515).
DESIGN CHOICE 14 (notes/assumptions). -/
opaque vendorKeyId : Int
/-- Firmware version in bank 0 of an engine class at manufacture (20 R515).
DESIGN CHOICE 14 (notes/assumptions). -/
opaque factoryVersion : Nat → Int
/-- Image in bank 0 of an engine class at manufacture (20 R506).
DESIGN CHOICE 14 (notes/assumptions). -/
opaque factoryImage : Nat → List Byte
/-- Security floor of an engine class at manufacture (20 R515).
DESIGN CHOICE 14 (notes/assumptions). -/
opaque factorySecurity : Nat → Int
/-- The n-th free value: a value that the spec leaves open (notes/assumptions/3.md).
DESIGN CHOICE 3 (notes/assumptions). -/
opaque freeInt : Nat → Int
/-- The n-th free value where the open value is a number with a fraction.
DESIGN CHOICE 3 (notes/assumptions). -/
opaque freeRat : Nat → Rat
/-- Whether a fraction shown in whole units is shown by the unit above it, where no rule rounds it.
DESIGN CHOICE 4 (notes/assumptions). -/
opaque roundUp : Rat → Bool
/-- The n-th byte string drawn by the on-chip random generator (19 R486, 15 R387): `randomBytes n len`.
DESIGN CHOICE 3 (notes/assumptions). -/
opaque randomBytes : Nat → Nat → List Byte
/-- The number π where a rule writes it.
DESIGN CHOICE 10 (notes/assumptions). -/
opaque pi : Rat
/-- e to the power of the argument, where a rule writes an exponential.
DESIGN CHOICE 10 (notes/assumptions). -/
opaque exp : Rat → Rat
/-- The square root, where a rule writes one.
DESIGN CHOICE 10 (notes/assumptions). -/
opaque sqrt : Rat → Rat
/-- The natural logarithm, where a rule writes one.
DESIGN CHOICE 10 (notes/assumptions). -/
opaque ln : Rat → Rat
/-- The charger's trim δ after a 1 ms mean of CHISn, from the trim before and the error (08 R220): its law is not stated.
DESIGN CHOICE 193 (notes/assumptions). -/
opaque chargerTrim : Rat → Rat → Rat
/-- The charger's period with the trim applied, from the period, δ and I_r (08 R220): how is not stated.
DESIGN CHOICE 193 (notes/assumptions). -/
opaque trimmedPeriod : Rat → Rat → Rat → Rat
/-- Bytes that a slot whose CRC does not match holds, from those that were to be written to it (09 R257, R265).
DESIGN CHOICE 63 (notes/assumptions). -/
opaque damagedBytes : List Byte → List Byte
/-- A quotient by zero, where a rule divides by a measured or configured value that is 0.
DESIGN CHOICE 12 (notes/assumptions). -/
opaque overZero : Rat → Rat
/-- A LINEAR11 word of a value: several words spell one value, and no rule says which is written (07 R183).
PRESUMED 51 (notes/assumptions). -/
opaque linear11 : Rat → Nat
/-- Bytes that a journal entry of so many value bytes takes in MRAM (18 R458).
DESIGN CHOICE 111 (notes/assumptions). -/
opaque journalEntry : Nat → Nat
/-- HMAC-SHA-256 of a message under a key.
DESIGN CHOICE 9 (notes/assumptions). -/
opaque hmacSha256 : List Byte → List Byte → List Byte
/-- SHA-256 of a message.
DESIGN CHOICE 9 (notes/assumptions). -/
opaque sha256 : List Byte → List Byte
/-- Verification of an Ed25519 signature under the vendor key.
DESIGN CHOICE 9 (notes/assumptions). -/
opaque ed25519Ok : List Byte → List Byte → Bool

end Sys2Proof.Config
end

