-- ==== Sys2Proof/Machine/ObjType.lean ====
section
/-! DEFINITION. What an object of the dictionary is: type, access, apply class, default and range
(16 R405–R410, R414–R417). -/

namespace Sys2Proof.Machine

/-- The types of R407. `str n`: text of 1 to n bytes; `dom n`: n bytes; `domUpTo n`: at most n bytes. -/
inductive Ty where
  | bool | u8 | u16 | u32 | u64 | i16 | i32 | i64 | q15 | q31 | q1616 | angle | stamp
  | str (n : Nat) | dom (n : Nat) | domUpTo (n : Nat)
  deriving DecidableEq, Repr

/-- The access rights of R409. -/
inductive Access where
  | ro | rw | wo | rws | const
  deriving DecidableEq, Repr

/-- The apply classes of R414–R416; `none` for an object that no write reaches. -/
inductive Apply where
  | L | Q | A | none
  deriving DecidableEq, Repr

/-- One object: where it lies, and what its row of the object tables says. `id` is the number of its
row (base index and first sub of the row), the same for every repetition of the row. -/
structure Obj where
  index : Nat
  sub : Nat
  id : Nat
  ty : Ty
  access : Access
  apply : Apply
  dflt : Int
  /-- The stated range of the raw code, if the row states one. -/
  range : Option (Int × Int)
  /-- Values allowed beside the range. -/
  alts : List Int
  deriving DecidableEq, Repr

/-- An object from the columns of its row. -/
abbrev mkObj (index sub id : Nat) (ty : Ty) (access : Access) (apply : Apply) (dflt : Int)
    (range : Option (Int × Int)) (alts : List Int) : Obj :=
  ⟨index, sub, id, ty, access, apply, dflt, range, alts⟩

/-- The key of an object in the register file: its address (R405). -/
abbrev Obj.key (o : Obj) : Nat := o.index * 256 + o.sub

/-- A run of indexes that hold the same rows: `count` indexes from `base` on, `stride` apart, the first
of them with number `first`. -/
structure Fam where
  base : Nat
  stride : Nat
  count : Nat
  first : Nat
  objs : Nat → List Obj

/-- The number of the repetition that an index names, if the run holds the index. -/
def Fam.number (f : Fam) (index : Nat) : Option Nat :=
  if f.base ≤ index ∧ (index - f.base) % f.stride = 0 ∧ (index - f.base) / f.stride < f.count then
    some (f.first + (index - f.base) / f.stride)
  else none

/-- Size in bytes of a type of fixed length; `none` for a type of varying length (R407). -/
def Ty.size : Ty → Option Nat
  | .bool | .u8 => some 1
  | .u16 | .i16 | .q15 | .angle => some 2
  | .u32 | .i32 | .q31 | .q1616 => some 4
  | .u64 | .i64 | .stamp => some 8
  | .dom n => some n
  | .str _ | .domUpTo _ => none

/-- Whether a type is two's complement (R407). -/
def Ty.signed : Ty → Bool
  | .i16 | .i32 | .i64 | .q15 | .q31 | .q1616 => true
  | _ => false

/-- The value that bytes of a type spell (R407); a byte string is its little-endian value. -/
def Ty.decode (t : Ty) (bs : List Byte) : Int := if t.signed then ofLeSigned bs else ofLe bs

/-- The bytes of a value of a type (R407). -/
def Ty.encode (t : Ty) (v : Int) : List Byte := leBytes (t.size.getD 0) v

/-- Whether the length of a written value fits the type (R408). -/
def Ty.lengthOk (t : Ty) (n : Nat) : Bool :=
  match t with
  | .str m => decide (1 ≤ n ∧ n ≤ m)
  | .domUpTo m => decide (n ≤ m)
  | _ => t.size == some n

/-- The default phase map of a feed: cells 6k … 6k + 5, count 6, no reserve (03 R56). -/
def phaseMapDefault (k : Nat) : Int :=
  ofLe ((List.range 6).map (fun j => BitVec.ofNat 8 (6 * k + j)) ++
    List.replicate 6 0xFF#8 ++ [6#8, 0xFF#8, 0#8, 0#8])

/-- The class of an engine (20 R504): 0 shelf core, 1 loop engine, 2 AE, 3 GE, 4 NE, 5 BE, 6 GD. -/
def engineClass (e : Nat) : Nat :=
  if e < 2 then 0 else if e < 11 then 1 else e - 9

end Sys2Proof.Machine
end

