-- ==== Sys2Proof/Machine/Objects.lean ====
section
/-! DEFINITION. The objects of the dictionary (16 R405–R429 and the object rule of every chapter), one
definition each, with its type, access, apply class, default and stated range, and the table of index
families in which an access finds them. -/

namespace Sys2Proof.Machine.O

/-- 0x2001 sub 0, BOOL RWS (02 R52). 1 enables tracking, classification and template -/
abbrev lineTrackEnable : Obj :=
  mkObj (0x2001) (0) 0x200100 (.bool) .rws (.L) (0) (none) []

/-- 0x2010 sub 1, Q16.16 RWS (02 R52). Hz, 45–66 -/
abbrev nominalFreq : Obj :=
  mkObj (0x2010) (1) 0x201001 (.q1616) .rws (.Q) (3276800) (some (2949120, 4325376)) []

/-- 0x2010 sub 2, U16 RWS (02 R52). V line-to-line RMS, or V DC, 200–480 -/
abbrev nominalVoltage : Obj :=
  mkObj (0x2010) (2) 0x201002 (.u16) .rws (.Q) (400) (some (200, 480)) []

/-- 0x2010 sub 3, U16 RWS (02 R52). au per lap, 16–512 -/
abbrev slewLimit : Obj :=
  mkObj (0x2010) (3) 0x201003 (.u16) .rws (.L) (512) (some (16, 512)) []

/-- 0x2010 sub 4, U16 RWS (02 R52). laps, 1–1000 -/
abbrev holdoverLaps : Obj :=
  mkObj (0x2010) (4) 0x201004 (.u16) .rws (.L) (50) (some (1, 1000)) []

/-- 0x2010 sub 5, U16 RWS (02 R52). mHz per lap, 1–1000 -/
abbrev virtualRamp : Obj :=
  mkObj (0x2010) (5) 0x201005 (.u16) .rws (.L) (10) (some (1, 1000)) []

/-- 0x2010 sub 6, Q16.16 RWS (02 R52). Hz, 1–50 -/
abbrev bandwidthUtility : Obj :=
  mkObj (0x2010) (6) 0x201006 (.q1616) .rws (.L) (655360) (some (65536, 3276800)) []

/-- 0x2010 sub 7, Q16.16 RWS (02 R52). Hz, 1–50 -/
abbrev bandwidthGenerator : Obj :=
  mkObj (0x2010) (7) 0x201007 (.q1616) .rws (.L) (1638400) (some (65536, 3276800)) []

/-- 0x2010 sub 8, U16 RWS (02 R52). au, 16–4096 -/
abbrev lockThreshold : Obj :=
  mkObj (0x2010) (8) 0x201008 (.u16) .rws (.L) (182) (some (16, 4096)) []

/-- 0x2010 sub 9, U8 RWS (02 R52). laps, 4–255 -/
abbrev lockLaps : Obj :=
  mkObj (0x2010) (9) 0x201009 (.u8) .rws (.L) (16) (some (4, 255)) []

/-- 0x2011 sub 1, Q15 RWS (02 R52). Fraction of nominal peak (0.50) -/
abbrev lossLevel : Obj :=
  mkObj (0x2011) (1) 0x201101 (.q15) .rws (.L) (16384) (none) []

/-- 0x2011 sub 2, ANGLE RWS (02 R52). au, 256–32 768 -/
abbrev lossDwell : Obj :=
  mkObj (0x2011) (2) 0x201102 (.angle) .rws (.L) (4096) (some (256, 32768)) []

/-- 0x2011 sub 3, Q15 RWS (02 R52). Fraction of nominal peak (0.85) -/
abbrev returnLevel : Obj :=
  mkObj (0x2011) (3) 0x201103 (.q15) .rws (.L) (27853) (none) []

/-- 0x2012 sub 1, U32 RWS (02 R52). mHz² -/
abbrev varThreshold : Obj :=
  mkObj (0x2012) (1) 0x201201 (.u32) .rws (.L) (2500) (none) []

/-- 0x2012 sub 2, U8 RWS (02 R52). laps, 16–255 -/
abbrev varReleaseLaps : Obj :=
  mkObj (0x2012) (2) 0x201202 (.u8) .rws (.L) (64) (some (16, 255)) []

/-- 0x2012 sub 3, U16 RWS (02 R52). V -/
abbrev dcMinLevel : Obj :=
  mkObj (0x2012) (3) 0x201203 (.u16) .rws (.L) (150) (none) []

/-- 0x2013 sub 1, U8 RWS (02 R52). m, 1–8 -/
abbrev learnShift : Obj :=
  mkObj (0x2013) (1) 0x201301 (.u8) .rws (.L) (4) (some (1, 8)) []

/-- 0x2013 sub 2, Q15 RWS (02 R52). w, fraction of A_T (0.10) -/
abbrev devWindow : Obj :=
  mkObj (0x2013) (2) 0x201302 (.q15) .rws (.L) (3277) (none) []

/-- 0x2013 sub 3, U8 RWS (02 R52). K, samples, 1–16 -/
abbrev devCount : Obj :=
  mkObj (0x2013) (3) 0x201303 (.u8) .rws (.L) (3) (some (1, 16)) []

/-- 0x2013 sub 4, U8 RWS (02 R52). laps, 4–255 -/
abbrev minLearnLaps : Obj :=
  mkObj (0x2013) (4) 0x201304 (.u8) .rws (.L) (16) (some (4, 255)) []

/-- 0x2013 sub 5, BOOL WO (02 R52). Writing 1 resets the template -/
abbrev templateReset : Obj :=
  mkObj (0x2013) (5) 0x201305 (.bool) .wo (.L) (0) (none) []

/-- 0x2014 sub 1, U16 RWS (02 R52). mHz -/
abbrev qualFreqTol : Obj :=
  mkObj (0x2014) (1) 0x201401 (.u16) .rws (.L) (500) (none) []

/-- 0x2014 sub 2, Q15 RWS (02 R52). Upper amplitude limit, fraction of nominal peak, Q15 scaled by 2 (1.16) -/
abbrev qualUpperLevel : Obj :=
  mkObj (0x2014) (2) 0x201402 (.q15) .rws (.L) (19005) (none) []

/-- 0x2020 sub 1, ANGLE RWS (02 R52). au; applied at slot 6 -/
abbrev zoneOpen : Obj :=
  mkObj (0x2020) (1) 0x202001 (.angle) .rws (.A) (0) (none) []

/-- 0x2020 sub 2, U16 RWS (02 R52). au, 256–32 768; applied at slot 6 -/
abbrev zoneLength : Obj :=
  mkObj (0x2020) (2) 0x202002 (.u16) .rws (.A) (8192) (some (256, 32768)) []

/-- 0x2021 sub 1, ANGLE RWS (02 R52). au; applied at slot 6 -/
abbrev splitAngle : Obj :=
  mkObj (0x2021) (1) 0x202101 (.angle) .rws (.A) (0) (none) []

/-- 0x2021 sub 2, U8 RWS (02 R52). Lane number 0–127 -/
abbrev splitLane : Obj :=
  mkObj (0x2021) (2) 0x202102 (.u8) .rws (.Q) (0) (some (0, 127)) []

/-- 0x2022 sub 1, ANGLE RWS (02 R52). au; angle of slot 6, applied at its own next firing -/
abbrev applyAngle : Obj :=
  mkObj (0x2022) (1) 0x202201 (.angle) .rws (.A) (0) (none) []

/-- 0x2030 sub 0, DOMAIN RO (02 R52). Latest 512-byte split -/
abbrev lastSplit : Obj :=
  mkObj (0x2030) (0) 0x203000 (.dom 512) .ro (.none) (0) (none) []

/-- 0x2040–0x2047 sub 0, U64 RO (02 R52). Layout as in R44 -/
abbrev systemSlot (k : Nat) : Obj :=
  mkObj (0x2040 + k) (0) 0x204000 (.u64) .ro (.none) (0) (none) []

/-- 0x2048–0x207F sub 0, U64 RWS (02 R52). Layout as in R44; effective at the next lap boundary -/
abbrev slotWord (k : Nat) : Obj :=
  mkObj (0x2040 + k) (0) 0x204800 (.u64) .rws (.L) (0) (none) []

/-- 0x2080 sub 1, U8 RO (02 R52). 0 VIRTUAL, 1 HOLDOVER, 2 RELOCK, 3 LOCKED -/
abbrev timebaseState : Obj :=
  mkObj (0x2080) (1) 0x208001 (.u8) .ro (.none) (0) (none) []

/-- 0x2080 sub 2, U8 RO (02 R52). 0 NONE, 1 UTILITY, 2 GENERATOR, 3 DC -/
abbrev sourceClass : Obj :=
  mkObj (0x2080) (2) 0x208002 (.u8) .ro (.none) (0) (none) []

/-- 0x2080 sub 3, Q16.16 RO (02 R52). Hz, last lap -/
abbrev lineFreq : Obj :=
  mkObj (0x2080) (3) 0x208003 (.q1616) .ro (.none) (3276800) (none) []

/-- 0x2080 sub 4, I16 RO (02 R52). e, au -/
abbrev phaseError : Obj :=
  mkObj (0x2080) (4) 0x208004 (.i16) .ro (.none) (0) (none) []

/-- 0x2080 sub 5, U8 RO (02 R52). 0 ABC, 1 ACB -/
abbrev rotation : Obj :=
  mkObj (0x2080) (5) 0x208005 (.u8) .ro (.none) (0) (none) []

/-- 0x2080 sub 6, BOOL RO (02 R52). Template valid -/
abbrev templateValid : Obj :=
  mkObj (0x2080) (6) 0x208006 (.bool) .ro (.none) (0) (none) []

/-- 0x2080 sub 7, U16 RO (02 R52). Consecutive qualified laps, saturating at 65 535 -/
abbrev qualifiedLaps : Obj :=
  mkObj (0x2080) (7) 0x208007 (.u16) .ro (.none) (0) (none) []

/-- 0x2080 sub 8, STAMP RO (02 R52). Stamp at the read -/
abbrev stampNow : Obj :=
  mkObj (0x2080) (8) 0x208008 (.stamp) .ro (.none) (0) (none) []

/-- 0x2081 sub 1, U32 RO (02 R52). Count since power-on -/
abbrev lineLosses : Obj :=
  mkObj (0x2081) (1) 0x208101 (.u32) .ro (.none) (0) (none) []

/-- 0x2081 sub 2, U32 RO (02 R52). Entries into RELOCK since power-on -/
abbrev relocks : Obj :=
  mkObj (0x2081) (2) 0x208102 (.u32) .ro (.none) (0) (none) []

/-- 0x2081 sub 3, U32 RO (02 R52). DEV_START events since power-on -/
abbrev devStarts : Obj :=
  mkObj (0x2081) (3) 0x208103 (.u32) .ro (.none) (0) (none) []

/-- 0x2410–0x241F sub 0, DOMAIN RWS (03 R85). Layout as in R56 -/
abbrev phaseMap (k : Nat) : Obj :=
  mkObj (0x2410 + k) (0) 0x241000 (.dom 16) .rws (.Q) (phaseMapDefault k) (none) []

/-- 0x2420 sub 1–8, U16 RWS (03 R85). ps, 0–20 000, per band as in R84 -/
abbrev deadTime (i : Nat) : Obj :=
  mkObj (0x2420) (1 + i) 0x242001 (.u16) .rws (.L) (sel i [8000, 10000, 6000, 8000, 7000, 9000, 8000, 11000]) (some (0, 20000)) []

/-- 0x2500 sub 1, U8 RO (03 R85). As in R59 -/
abbrev cellState (k : Nat) : Obj :=
  mkObj (0x2500 + 0x10 * k) (1) 0x250001 (.u8) .ro (.none) (1) (none) []

/-- 0x2500 sub 2, U8 RO (03 R85). Feed number, 0xFF if unassigned -/
abbrev cellFeed (k : Nat) : Obj :=
  mkObj (0x2500 + 0x10 * k) (2) 0x250002 (.u8) .ro (.none) (k / 6) (none) []

/-- 0x2500 sub 3, U8 RO (03 R85). Position in the map; for a reserve cell, its position of R58 whether or not it is brought in; 0xFF if unassigned -/
abbrev mapPosition (k : Nat) : Obj :=
  mkObj (0x2500 + 0x10 * k) (3) 0x250003 (.u8) .ro (.none) (k % 6) (none) []

/-- 0x2500 sub 4, Q15 RO (03 R85). b_i -/
abbrev balanceTrim (k : Nat) : Obj :=
  mkObj (0x2500 + 0x10 * k) (4) 0x250004 (.q15) .ro (.none) (0) (none) []

/-- 0x2500 sub 5, U16 RO (03 R85). eu, last pulse -/
abbrev lastOnTime (k : Nat) : Obj :=
  mkObj (0x2500 + 0x10 * k) (5) 0x250005 (.u16) .ro (.none) (0) (none) []

/-- 0x2500 sub 6, U8 RO (03 R85). b0 open, b1 IMON range, b2 sum suspect -/
abbrev retireCause (k : Nat) : Obj :=
  mkObj (0x2500 + 0x10 * k) (6) 0x250006 (.u8) .ro (.none) (0) (none) []

/-- 0x2500 sub 7, STAMP RO (03 R85). Stamp of the retirement -/
abbrev retireStamp (k : Nat) : Obj :=
  mkObj (0x2500 + 0x10 * k) (7) 0x250007 (.stamp) .ro (.none) (0) (none) []

/-- 0x2500 sub 8, BOOL WO (03 R85). Writing 1 re-admits, as in R82 -/
abbrev readmit (k : Nat) : Obj :=
  mkObj (0x2500 + 0x10 * k) (8) 0x250008 (.bool) .wo (.L) (0) (none) []

/-- 0x2500 sub 9, U16 RWS (03 R85). mV at 0 A, 100–600; subject to R55 -/
abbrev imonZero (k : Nat) : Obj :=
  mkObj (0x2500 + 0x10 * k) (9) 0x250009 (.u16) .rws (.Q) (300) (some (100, 600)) []

/-- 0x2500 sub 10, U16 RWS (03 R85). µV/A -/
abbrev imonGain (k : Nat) : Obj :=
  mkObj (0x2500 + 0x10 * k) (10) 0x25000a (.u16) .rws (.Q) (5000) (none) []

/-- 0x2500 sub 11, U32 RO (03 R85). Limited pulses since power-on -/
abbrev limitedPulses (k : Nat) : Obj :=
  mkObj (0x2500 + 0x10 * k) (11) 0x25000b (.u32) .ro (.none) (0) (none) []

/-- 0x3020 sub 1, U32 RWS (03 R85). Hz per phase, 300 000–1 200 000 -/
abbrev switchFreq (k : Nat) : Obj :=
  mkObj (0x3020 + 0x100 * k) (1) 0x302001 (.u32) .rws (.Q) (400000) (some (300000, 1200000)) []

/-- 0x3020 sub 2, U16 RWS (03 R85). ns, 20–2000 -/
abbrev onTimeMin (k : Nat) : Obj :=
  mkObj (0x3020 + 0x100 * k) (2) 0x302002 (.u16) .rws (.L) (20) (some (20, 2000)) []

/-- 0x3020 sub 3, U16 RWS (03 R85). ns, 20–2000 -/
abbrev onTimeMax (k : Nat) : Obj :=
  mkObj (0x3020 + 0x100 * k) (3) 0x302003 (.u16) .rws (.L) (2000) (some (20, 2000)) []

/-- 0x3020 sub 4, U16 RWS (03 R85). ns, 20–500 -/
abbrev offTimeMin (k : Nat) : Obj :=
  mkObj (0x3020 + 0x100 * k) (4) 0x302004 (.u16) .rws (.L) (60) (some (20, 500)) []

/-- 0x3020 sub 5, U16 RWS (03 R85). ns, 20–500 -/
abbrev trigMinInterval (k : Nat) : Obj :=
  mkObj (0x3020 + 0x100 * k) (5) 0x302005 (.u16) .rws (.L) (40) (some (20, 500)) []

/-- 0x3020 sub 6, U16 RWS (03 R85). µΩ, 0–20 000 -/
abbrev lossResistance (k : Nat) : Obj :=
  mkObj (0x3020 + 0x100 * k) (6) 0x302006 (.u16) .rws (.L) (1500) (some (0, 20000)) []

/-- 0x3020 sub 7, U16 RWS (03 R85). nH, 50–2000 -/
abbrev phaseInductance (k : Nat) : Obj :=
  mkObj (0x3020 + 0x100 * k) (7) 0x302007 (.u16) .rws (.Q) (470) (some (50, 2000)) []

/-- 0x3020 sub 8, U16 RWS (03 R85). µΩ (V of ripple per A), 0–5000 -/
abbrev rippleGain (k : Nat) : Obj :=
  mkObj (0x3020 + 0x100 * k) (8) 0x302008 (.u16) .rws (.L) (500) (some (0, 5000)) []

/-- 0x3020 sub 9, U16 RWS (03 R85). µs, τ_r, 2–200 -/
abbrev rippleLeak (k : Nat) : Obj :=
  mkObj (0x3020 + 0x100 * k) (9) 0x302009 (.u16) .rws (.L) (20) (some (2, 200)) []

/-- 0x3020 sub 10, Q15 RWS (03 R85). k_b (1/256) -/
abbrev balanceGain (k : Nat) : Obj :=
  mkObj (0x3020 + 0x100 * k) (10) 0x30200a (.q15) .rws (.L) (128) (none) []

/-- 0x3020 sub 11, Q15 RWS (03 R85). B (0.125), at most 0x2000 -/
abbrev balanceClamp (k : Nat) : Obj :=
  mkObj (0x3020 + 0x100 * k) (11) 0x30200b (.q15) .rws (.L) (4096) (some (-32768, 8192)) []

/-- 0x3020 sub 12, U16 RWS (03 R85). 0.1 A continuous, 100–1200 -/
abbrev phaseRating (k : Nat) : Obj :=
  mkObj (0x3020 + 0x100 * k) (12) 0x30200c (.u16) .rws (.Q) (1200) (some (100, 1200)) []

/-- 0x3020 sub 13, U16 RWS (03 R85). 0.1 A peak, 100–1500 -/
abbrev phaseLimit (k : Nat) : Obj :=
  mkObj (0x3020 + 0x100 * k) (13) 0x30200d (.u16) .rws (.L) (1300) (some (100, 1500)) []

/-- 0x3020 sub 14, U16 RWS (03 R85). 0.1 A, 0–500 -/
abbrev peakAllowance (k : Nat) : Obj :=
  mkObj (0x3020 + 0x100 * k) (14) 0x30200e (.u16) .rws (.L) (250) (some (0, 500)) []

/-- 0x3020 sub 15, Q15 RWS (03 R85). Fraction of I_thr (0.85) -/
abbrev rearmLevel (k : Nat) : Obj :=
  mkObj (0x3020 + 0x100 * k) (15) 0x30200f (.q15) .rws (.L) (27853) (none) []

/-- 0x3020 sub 16, U8 RWS (03 R85). ns, 5–50 -/
abbrev leadingBlank (k : Nat) : Obj :=
  mkObj (0x3020 + 0x100 * k) (16) 0x302010 (.u8) .rws (.L) (15) (some (5, 50)) []

/-- 0x3020 sub 17, U8 RWS (03 R85). Consecutive limited rounds, 1–255 -/
abbrev hiccupRounds (k : Nat) : Obj :=
  mkObj (0x3020 + 0x100 * k) (17) 0x302011 (.u8) .rws (.L) (16) (some (1, 255)) []

/-- 0x3020 sub 18, U16 RWS (03 R85). ms, 1–1000 -/
abbrev hiccupTime (k : Nat) : Obj :=
  mkObj (0x3020 + 0x100 * k) (18) 0x302012 (.u16) .rws (.L) (50) (some (1, 1000)) []

/-- 0x3020 sub 19, U16 RWS (03 R85). ms, 10–10 000 -/
abbrev recoveryQual (k : Nat) : Obj :=
  mkObj (0x3020 + 0x100 * k) (19) 0x302013 (.u16) .rws (.L) (100) (some (10, 10000)) []

/-- 0x3020 sub 20, BOOL RWS (03 R85). Diode emulation allowed -/
abbrev deEnable (k : Nat) : Obj :=
  mkObj (0x3020 + 0x100 * k) (20) 0x302014 (.bool) .rws (.L) (1) (none) []

/-- 0x3020 sub 21, U16 RWS (03 R85). 0.1 A mean per ACTIVE cell -/
abbrev deEntry (k : Nat) : Obj :=
  mkObj (0x3020 + 0x100 * k) (21) 0x302015 (.u16) .rws (.L) (30) (none) []

/-- 0x3020 sub 22, U16 RWS (03 R85). 0.1 A mean per ACTIVE cell, above DeEntry -/
abbrev deExit (k : Nat) : Obj :=
  mkObj (0x3020 + 0x100 * k) (22) 0x302016 (.u16) .rws (.L) (60) (none) []

/-- 0x3020 sub 23, U16 RWS (03 R85). µs, 10–65 535 -/
abbrev deDwell (k : Nat) : Obj :=
  mkObj (0x3020 + 0x100 * k) (23) 0x302017 (.u16) .rws (.L) (500) (some (10, 65535)) []

/-- 0x3020 sub 24, I16 RWS (03 R85). 0.1 A, −20 to +50 -/
abbrev zcdThreshold (k : Nat) : Obj :=
  mkObj (0x3020 + 0x100 * k) (24) 0x302018 (.i16) .rws (.L) (5) (some (-20, 50)) []

/-- 0x3020 sub 25, U32 RWS (03 R85). Hz, 0 (off) or 20 000–200 000 -/
abbrev floorFreq (k : Nat) : Obj :=
  mkObj (0x3020 + 0x100 * k) (25) 0x302019 (.u32) .rws (.L) (30000) (some (20000, 200000)) [0]

/-- 0x3020 sub 26, Q15 RWS (03 R85). Fraction of expected rise (0.25) -/
abbrev openRiseFrac (k : Nat) : Obj :=
  mkObj (0x3020 + 0x100 * k) (26) 0x30201a (.q15) .rws (.L) (8192) (none) []

/-- 0x3020 sub 27, U16 RWS (03 R85). 0.1 A per feed -/
abbrev sumTolerance (k : Nat) : Obj :=
  mkObj (0x3020 + 0x100 * k) (27) 0x30201b (.u16) .rws (.L) (200) (none) []

/-- 0x3021 sub 1, U8 RO (03 R85). As in R74 -/
abbrev ocState (k : Nat) : Obj :=
  mkObj (0x3021 + 0x100 * k) (1) 0x302101 (.u8) .ro (.none) (0) (none) []

/-- 0x3021 sub 2, U8 RO (03 R85). N_act -/
abbrev activePhases (k : Nat) : Obj :=
  mkObj (0x3021 + 0x100 * k) (2) 0x302102 (.u8) .ro (.none) (0) (none) []

/-- 0x3021 sub 3, U16 RO (03 R85). Bit j: map position j retired -/
abbrev retiredMask (k : Nat) : Obj :=
  mkObj (0x3021 + 0x100 * k) (3) 0x302103 (.u16) .ro (.none) (0) (none) []

/-- 0x3021 sub 4, U32 RO (03 R85). Since power-on -/
abbrev limitedRounds (k : Nat) : Obj :=
  mkObj (0x3021 + 0x100 * k) (4) 0x302104 (.u32) .ro (.none) (0) (none) []

/-- 0x3021 sub 5, U32 RO (03 R85). Since power-on -/
abbrev cappedRounds (k : Nat) : Obj :=
  mkObj (0x3021 + 0x100 * k) (5) 0x302105 (.u32) .ro (.none) (0) (none) []

/-- 0x3021 sub 6, U32 RO (03 R85). Entries to HICCUP_OFF since power-on -/
abbrev hiccups (k : Nat) : Obj :=
  mkObj (0x3021 + 0x100 * k) (6) 0x302106 (.u32) .ro (.none) (0) (none) []

/-- 0x3021 sub 7, U16 RO (03 R85). Bit j: map position j failed the last pre-start test -/
abbrev hsTestFail (k : Nat) : Obj :=
  mkObj (0x3021 + 0x100 * k) (7) 0x302107 (.u16) .ro (.none) (0) (none) []

/-- 0x3021 sub 8, U16 RO (03 R85). C in 0.1 A per feed; 0xFFFF while no cell is retired (R81) -/
abbrev capacity (k : Nat) : Obj :=
  mkObj (0x3021 + 0x100 * k) (8) 0x302108 (.u16) .ro (.none) (65535) (none) []

/-- 0x3021 sub 9, BOOL RO (03 R85). Feed in diode emulation -/
abbrev deActive (k : Nat) : Obj :=
  mkObj (0x3021 + 0x100 * k) (9) 0x302109 (.bool) .ro (.none) (0) (none) []

/-- 0x8020–0x802F sub 1, U8 RO (04 R109). 0 none, 1 unruled -/
abbrev stepEsState (k : Nat) : Obj :=
  mkObj (0x8020 + k) (1) 0x802001 (.u8) .ro (.none) (0) (none) []

/-- 0x8020–0x802F sub 2, STAMP RO (04 R109). Early-start stamp -/
abbrev stepEsStamp (k : Nat) : Obj :=
  mkObj (0x8020 + k) (2) 0x802002 (.stamp) .ro (.none) (0) (none) []

/-- 0x8020–0x802F sub 3, STAMP RO (04 R109). Stamp at which the window closes -/
abbrev stepEsWindowEnd (k : Nat) : Obj :=
  mkObj (0x8020 + k) (3) 0x802003 (.stamp) .ro (.none) (0) (none) []

/-- 0x8020–0x802F sub 4, U16 RO (04 R109). Bit j: map position j switching as ACTIVE -/
abbrev specActiveMask (k : Nat) : Obj :=
  mkObj (0x8020 + k) (4) 0x802004 (.u16) .ro (.none) (0) (none) []

/-- 0x8020–0x802F sub 5, I32 RO (04 R109). P, µV -/
abbrev specPreBias (k : Nat) : Obj :=
  mkObj (0x8020 + k) (5) 0x802005 (.i32) .ro (.none) (0) (none) []

/-- 0x3000 sub 1, BOOL RWS (04 R118). 1 starts the feed (R112); 0 stops it (R113) -/
abbrev feedEnable (k : Nat) : Obj :=
  mkObj (0x3000 + 0x100 * k) (1) 0x300001 (.bool) .rws (.L) (0) (none) []

/-- 0x3000 sub 2, U8 RO (04 R118). As in R111 -/
abbrev feedState (k : Nat) : Obj :=
  mkObj (0x3000 + 0x100 * k) (2) 0x300002 (.u8) .ro (.none) (0) (none) []

/-- 0x3000 sub 3, U8 RWS (04 R118). 0 ramped, 1 immediate -/
abbrev stopMode (k : Nat) : Obj :=
  mkObj (0x3000 + 0x100 * k) (3) 0x300003 (.u8) .rws (.L) (0) (some (0, 1)) []

/-- 0x3000 sub 4, U16 RWS (04 R118). mV, 200–5000 -/
abbrev stopFloor (k : Nat) : Obj :=
  mkObj (0x3000 + 0x100 * k) (4) 0x300004 (.u16) .rws (.L) (1000) (some (200, 5000)) []

/-- 0x3000 sub 5, U16 RWS (04 R118). ms, 5–1000 -/
abbrev startTimeout (k : Nat) : Obj :=
  mkObj (0x3000 + 0x100 * k) (5) 0x300005 (.u16) .rws (.L) (50) (some (5, 1000)) []

/-- 0x3000 sub 6, U8 RWS (04 R118). 0: 250 kS/s, 1: 500 kS/s, 2: 1 MS/s -/
abbrev loopRate (k : Nat) : Obj :=
  mkObj (0x3000 + 0x100 * k) (6) 0x300006 (.u8) .rws (.Q) (2) (some (0, 2)) []

/-- 0x3000 sub 7, U8 RO (04 R118). Loop engine running the feed, 0–8 -/
abbrev controlEngine (k : Nat) : Obj :=
  mkObj (0x3000 + 0x100 * k) (7) 0x300007 (.u8) .ro (.none) (k / 2) (none) []

/-- 0x3000 sub 8, BOOL RO (04 R118). As in R96 -/
abbrev reached (k : Nat) : Obj :=
  mkObj (0x3000 + 0x100 * k) (8) 0x300008 (.bool) .ro (.none) (0) (none) []

/-- 0x3000 sub 9, U16 RO (04 R118). b0 OV, b1 UV, b2 sense open, b3 over-current latch, b4 shorted high side, b5 start timeout, b6 bus range, b7 feed current sense, b8 credit overrun (R310), b9 route (R349), b10 escalation to class A (R358), b11 no phases left (R81); b15..b12 reserved; cleared as R114 states -/
abbrev faultCause (k : Nat) : Obj :=
  mkObj (0x3000 + 0x100 * k) (9) 0x300009 (.u16) .ro (.none) (0) (none) []

/-- 0x3001 sub 1, U16 RWS (04 R118). mV, 10 800–13 200; passes through the pacer; in force as R95 states -/
abbrev targetVoltage (k : Nat) : Obj :=
  mkObj (0x3001 + 0x100 * k) (1) 0x300101 (.u16) .rws (.L) (12000) (some (10800, 13200)) []

/-- 0x3001 sub 2, U8 RWS (04 R118). 0–3 -/
abbrev hostSlewClass (k : Nat) : Obj :=
  mkObj (0x3001 + 0x100 * k) (2) 0x300102 (.u8) .rws (.L) (1) (some (0, 3)) []

/-- 0x3001 sub 3, U8 RWS (04 R118). 0 host, 1 tray -/
abbrev setpointOwner (k : Nat) : Obj :=
  mkObj (0x3001 + 0x100 * k) (3) 0x300103 (.u8) .rws (.Q) (1) (some (0, 1)) []

/-- 0x3001 sub 4, U16 RWS (04 R118). µs, 10–10 000 -/
abbrev settleTime (k : Nat) : Obj :=
  mkObj (0x3001 + 0x100 * k) (4) 0x300104 (.u16) .rws (.L) (200) (some (10, 10000)) []

/-- 0x3001 sub 5, U16 RO (04 R118). mV, V_tgt -/
abbrev targetInForce (k : Nat) : Obj :=
  mkObj (0x3001 + 0x100 * k) (5) 0x300105 (.u16) .ro (.none) (0) (none) []

/-- 0x3002 sub 1–4, U16 RWS (04 R118). 0.01 mV/µs, 5–5000 -/
abbrev paceRate (k i : Nat) : Obj :=
  mkObj (0x3002 + 0x100 * k) (1 + i) 0x300201 (.u16) .rws (.L) (sel i [50, 100, 1000, 10]) (some (5, 5000)) []

/-- 0x3002 sub 5, U32 RO (04 R118). µV, V_set -/
abbrev pacerPosition (k : Nat) : Obj :=
  mkObj (0x3002 + 0x100 * k) (5) 0x300205 (.u32) .ro (.none) (0) (none) []

/-- 0x3003 sub 0, DOMAIN RWS (04 R118). Layout as in R97 -/
abbrev compensator (k : Nat) : Obj :=
  mkObj (0x3003 + 0x100 * k) (0) 0x300300 (.dom 36) .rws (.L) (0xf4240fff0bdc00007a120fff85ee07fffffff7fffffff00000000001b4bb600004000) (none) []

/-- 0x3004 sub 0, DOMAIN RWS (04 R118). Layout as in R98 -/
abbrev notch1 (k : Nat) : Obj :=
  mkObj (0x3004 + 0x100 * k) (0) 0x300400 (.dom 24) .rws (.L) (0x4000000000000000) (none) []

/-- 0x3005 sub 0, DOMAIN RWS (04 R118). Layout as in R98 -/
abbrev notch2 (k : Nat) : Obj :=
  mkObj (0x3005 + 0x100 * k) (0) 0x300500 (.dom 24) .rws (.L) (0x4000000000000000) (none) []

/-- 0x3006 sub 1, Q16.16 RWS (04 R118). K_ff, V of U per V of bus, 0–1 -/
abbrev ffGain (k : Nat) : Obj :=
  mkObj (0x3006 + 0x100 * k) (1) 0x300601 (.q1616) .rws (.L) (262) (some (0, 65536)) []

/-- 0x3006 sub 2, U16 RWS (04 R118). Hz, 10–5000 -/
abbrev ffCorner (k : Nat) : Obj :=
  mkObj (0x3006 + 0x100 * k) (2) 0x300602 (.u16) .rws (.L) (500) (some (10, 5000)) []

/-- 0x3007 sub 1, BOOL RWS (04 R118). Shedding allowed -/
abbrev shedEnable (k : Nat) : Obj :=
  mkObj (0x3007 + 0x100 * k) (1) 0x300701 (.bool) .rws (.L) (1) (none) []

/-- 0x3007 sub 2, U8 RWS (04 R118). 1–12 -/
abbrev minPhases (k : Nat) : Obj :=
  mkObj (0x3007 + 0x100 * k) (2) 0x300702 (.u8) .rws (.L) (2) (some (1, 12)) []

/-- 0x3007 sub 3, U16 RWS (04 R118). 0.1 A mean per ACTIVE cell -/
abbrev shedLevel (k : Nat) : Obj :=
  mkObj (0x3007 + 0x100 * k) (3) 0x300703 (.u16) .rws (.L) (300) (none) []

/-- 0x3007 sub 4, U16 RWS (04 R118). 0.1 A mean per ACTIVE cell, at least 2 × ShedLevel -/
abbrev addLevel (k : Nat) : Obj :=
  mkObj (0x3007 + 0x100 * k) (4) 0x300704 (.u16) .rws (.L) (700) (none) []

/-- 0x3007 sub 5, U16 RWS (04 R118). ms, 1–1000 -/
abbrev shedDwell (k : Nat) : Obj :=
  mkObj (0x3007 + 0x100 * k) (5) 0x300705 (.u16) .rws (.L) (20) (some (1, 1000)) []

/-- 0x3007 sub 6, U16 RWS (04 R118). µs, 1–1000 -/
abbrev addDwell (k : Nat) : Obj :=
  mkObj (0x3007 + 0x100 * k) (6) 0x300706 (.u16) .rws (.L) (10) (some (1, 1000)) []

/-- 0x3007 sub 7, U8 RWS (04 R118). Pulses, 4–255 -/
abbrev drainCycles (k : Nat) : Obj :=
  mkObj (0x3007 + 0x100 * k) (7) 0x300707 (.u8) .rws (.L) (16) (some (4, 255)) []

/-- 0x3007 sub 8, U16 RWS (04 R118). mV, 10–500 -/
abbrev undershootWindow (k : Nat) : Obj :=
  mkObj (0x3007 + 0x100 * k) (8) 0x300708 (.u16) .rws (.L) (60) (some (10, 500)) []

/-- 0x3007 sub 9, U16 RWS (04 R118). 0.1 A per feed, 100–5000 -/
abbrev riseThreshold (k : Nat) : Obj :=
  mkObj (0x3007 + 0x100 * k) (9) 0x300709 (.u16) .rws (.L) (1000) (some (100, 5000)) []

/-- 0x3007 sub 10, U8 RWS (04 R118). µs, 1–32 -/
abbrev riseSpan (k : Nat) : Obj :=
  mkObj (0x3007 + 0x100 * k) (10) 0x30070a (.u8) .rws (.L) (4) (some (1, 32)) []

/-- 0x3007 sub 11, U32 RO (04 R118). Since power-on -/
abbrev shedAborts (k : Nat) : Obj :=
  mkObj (0x3007 + 0x100 * k) (11) 0x30070b (.u32) .ro (.none) (0) (none) []

/-- 0x3007 sub 12, U32 RO (04 R118). Completed sheds since power-on -/
abbrev shedCount (k : Nat) : Obj :=
  mkObj (0x3007 + 0x100 * k) (12) 0x30070c (.u32) .ro (.none) (0) (none) []

/-- 0x3008 sub 1, BOOL RWS (04 R118). Step early start allowed -/
abbrev stepEsEnable (k : Nat) : Obj :=
  mkObj (0x3008 + 0x100 * k) (1) 0x300801 (.bool) .rws (.L) (0) (none) []

/-- 0x3008 sub 2, U16 RWS (04 R118). 0.1 A per feed, 50–10 000 -/
abbrev stepThreshold (k : Nat) : Obj :=
  mkObj (0x3008 + 0x100 * k) (2) 0x300802 (.u16) .rws (.L) (1000) (some (50, 10000)) []

/-- 0x3008 sub 3, Q15 RWS (04 R118). Fraction (0.5) -/
abbrev preBiasFrac (k : Nat) : Obj :=
  mkObj (0x3008 + 0x100 * k) (3) 0x300803 (.q15) .rws (.L) (16384) (none) []

/-- 0x3008 sub 4, U16 RWS (04 R118). mV, 0–500 -/
abbrev preBiasMax (k : Nat) : Obj :=
  mkObj (0x3008 + 0x100 * k) (4) 0x300804 (.u16) .rws (.L) (100) (some (0, 500)) []

/-- 0x3008 sub 5, U8 RWS (04 R118). Loop samples, 1–255 -/
abbrev preBiasRelease (k : Nat) : Obj :=
  mkObj (0x3008 + 0x100 * k) (5) 0x300805 (.u8) .rws (.L) (16) (some (1, 255)) []

/-- 0x3008 sub 6, U32 RO (04 R118). Since power-on -/
abbrev stepCleanStarts (k : Nat) : Obj :=
  mkObj (0x3008 + 0x100 * k) (6) 0x300806 (.u32) .ro (.none) (0) (none) []

/-- 0x3008 sub 7, U32 RO (04 R118). Since power-on -/
abbrev stepFalseStarts (k : Nat) : Obj :=
  mkObj (0x3008 + 0x100 * k) (7) 0x300807 (.u32) .ro (.none) (0) (none) []

/-- 0x3008 sub 8, U32 RO (04 R118). Since power-on -/
abbrev ignoredHints (k : Nat) : Obj :=
  mkObj (0x3008 + 0x100 * k) (8) 0x300808 (.u32) .ro (.none) (0) (none) []

/-- 0x3009 sub 1, Q15 RWS (04 R118). Fraction of V_tgt (0.08), 0.02–0.20 -/
abbrev ovFrac (k : Nat) : Obj :=
  mkObj (0x3009 + 0x100 * k) (1) 0x300901 (.q15) .rws (.L) (2621) (some (656, 6553)) []

/-- 0x3009 sub 2, Q15 RWS (04 R118). Fraction of V_tgt (0.10), 0.02–0.30 -/
abbrev uvFrac (k : Nat) : Obj :=
  mkObj (0x3009 + 0x100 * k) (2) 0x300902 (.q15) .rws (.L) (3277) (some (656, 9830)) []

/-- 0x3009 sub 3, U16 RWS (04 R118). µs, 10–60 000 -/
abbrev uvTime (k : Nat) : Obj :=
  mkObj (0x3009 + 0x100 * k) (3) 0x300903 (.u16) .rws (.L) (1000) (some (10, 60000)) []

/-- 0x3009 sub 4, U16 RWS (04 R118). mV, 32 000–60 000 -/
abbrev busRestart (k : Nat) : Obj :=
  mkObj (0x3009 + 0x100 * k) (4) 0x300904 (.u16) .rws (.L) (34000) (some (32000, 60000)) []

/-- 0x300A sub 1, BOOL RWS (05 R154). 0 holds the link DOWN -/
abbrev linkEnable (k : Nat) : Obj :=
  mkObj (0x300A + 0x100 * k) (1) 0x300a01 (.bool) .rws (.L) (1) (none) []

/-- 0x300A sub 2, U16 RWS (05 R154). µs, 5–1000 -/
abbrev beatPeriod (k : Nat) : Obj :=
  mkObj (0x300A + 0x100 * k) (2) 0x300a02 (.u16) .rws (.L) (20) (some (5, 1000)) []

/-- 0x300A sub 3, U8 RWS (05 R154). Consecutive missed turns, 2–16 -/
abbrev missLimit (k : Nat) : Obj :=
  mkObj (0x300A + 0x100 * k) (3) 0x300a03 (.u8) .rws (.L) (4) (some (2, 16)) []

/-- 0x300A sub 4, U16 RWS (05 R154). µs, 20–10 000 -/
abbrev noticeTimeout (k : Nat) : Obj :=
  mkObj (0x300A + 0x100 * k) (4) 0x300a04 (.u16) .rws (.L) (100) (some (20, 10000)) []

/-- 0x300A sub 5, U8 RWS (05 R154). 1–15 -/
abbrev noticeRetries (k : Nat) : Obj :=
  mkObj (0x300A + 0x100 * k) (5) 0x300a05 (.u8) .rws (.L) (4) (some (1, 15)) []

/-- 0x300A sub 6, U8 RWS (05 R154). 0 hold V_tgt; 1 TargetVoltage with PACE3 -/
abbrev linkLossAction (k : Nat) : Obj :=
  mkObj (0x300A + 0x100 * k) (6) 0x300a06 (.u8) .rws (.L) (0) (some (0, 1)) []

/-- 0x300A sub 7, U8 RWS (05 R154). Tap 0–15; 0xFF trains -/
abbrev samplePhaseOverride (k : Nat) : Obj :=
  mkObj (0x300A + 0x100 * k) (7) 0x300a07 (.u8) .rws (.Q) (255) (some (0, 15)) [255]

/-- 0x300B sub 1, U8 RO (05 R154). As in R146 -/
abbrev linkState (k : Nat) : Obj :=
  mkObj (0x300B + 0x100 * k) (1) 0x300b01 (.u8) .ro (.none) (0) (none) []

/-- 0x300B sub 2, U8 RO (05 R154). Tap in use; 0xFF before training -/
abbrev samplePhase (k : Nat) : Obj :=
  mkObj (0x300B + 0x100 * k) (2) 0x300b02 (.u8) .ro (.none) (255) (none) []

/-- 0x300B sub 3, U32 RO (05 R154). Valid tray frames since power-on -/
abbrev linkRxFrames (k : Nat) : Obj :=
  mkObj (0x300B + 0x100 * k) (3) 0x300b03 (.u32) .ro (.none) (0) (none) []

/-- 0x300B sub 4, U32 RO (05 R154). Frames discarded by R126 -/
abbrev crcErrors (k : Nat) : Obj :=
  mkObj (0x300B + 0x100 * k) (4) 0x300b04 (.u32) .ro (.none) (0) (none) []

/-- 0x300B sub 5, U32 RO (05 R154). Duplicate commands answered from the cache -/
abbrev linkDuplicates (k : Nat) : Obj :=
  mkObj (0x300B + 0x100 * k) (5) 0x300b05 (.u32) .ro (.none) (0) (none) []

/-- 0x300B sub 6, U32 RO (05 R154). Refuse frames sent, duplicates excluded -/
abbrev refusals (k : Nat) : Obj :=
  mkObj (0x300B + 0x100 * k) (6) 0x300b06 (.u32) .ro (.none) (0) (none) []

/-- 0x300B sub 7, U16 RO (05 R154). b15..b8 REASON, b7..b0 ANS_TYPE -/
abbrev lastRefusal (k : Nat) : Obj :=
  mkObj (0x300B + 0x100 * k) (7) 0x300b07 (.u16) .ro (.none) (0) (none) []

/-- 0x300B sub 8, U32 RO (05 R154). As in R129 -/
abbrev missedTurns (k : Nat) : Obj :=
  mkObj (0x300B + 0x100 * k) (8) 0x300b08 (.u32) .ro (.none) (0) (none) []

/-- 0x300B sub 9, U32 RO (05 R154). As in R148 -/
abbrev linkLosses (k : Nat) : Obj :=
  mkObj (0x300B + 0x100 * k) (9) 0x300b09 (.u32) .ro (.none) (0) (none) []

/-- 0x300B sub 10, U32 RO (05 R154). Notices replaced by a newer CapNotice (R137) or discarded at a link loss (R148) -/
abbrev noticesDiscarded (k : Nat) : Obj :=
  mkObj (0x300B + 0x100 * k) (10) 0x300b0a (.u32) .ro (.none) (0) (none) []

/-- 0x300B sub 11, U8 RO (05 R154). LAST; undefined while empty -/
abbrev lastSeq (k : Nat) : Obj :=
  mkObj (0x300B + 0x100 * k) (11) 0x300b0b (.u8) .ro (.none) (0) (none) []

/-- 0x300C sub 1, BOOL RWS (06 R177). 1 allows closing -/
abbrev tgEnable (k : Nat) : Obj :=
  mkObj (0x300C + 0x100 * k) (1) 0x300c01 (.bool) .rws (.L) (0) (none) []

/-- 0x300C sub 2, U8 RWS (06 R177). ms, 1–255 -/
abbrev presenceDeglitch (k : Nat) : Obj :=
  mkObj (0x300C + 0x100 * k) (2) 0x300c02 (.u8) .rws (.L) (20) (some (1, 255)) []

/-- 0x300C sub 3, U16 RWS (06 R177). ms, 100–10 000 -/
abbrev insertDelay (k : Nat) : Obj :=
  mkObj (0x300C + 0x100 * k) (3) 0x300c03 (.u16) .rws (.L) (1000) (some (100, 10000)) []

/-- 0x300C sub 4, U16 RWS (06 R177). mV, 8000–12 000 -/
abbrev tgUvLevel (k : Nat) : Obj :=
  mkObj (0x300C + 0x100 * k) (4) 0x300c04 (.u16) .rws (.L) (10200) (some (8000, 12000)) []

/-- 0x300C sub 5, U16 RWS (06 R177). mV, 12 500–15 000 -/
abbrev tgOvLevel (k : Nat) : Obj :=
  mkObj (0x300C + 0x100 * k) (5) 0x300c05 (.u16) .rws (.L) (13800) (some (12500, 15000)) []

/-- 0x300C sub 6, U16 RWS (06 R177). µs, 10–10 000 -/
abbrev tgUvTime (k : Nat) : Obj :=
  mkObj (0x300C + 0x100 * k) (6) 0x300c06 (.u16) .rws (.L) (200) (some (10, 10000)) []

/-- 0x300C sub 7, U16 RWS (06 R177). W, 50–2000 -/
abbrev inrushPower (k : Nat) : Obj :=
  mkObj (0x300C + 0x100 * k) (7) 0x300c07 (.u16) .rws (.L) (300) (some (50, 2000)) []

/-- 0x300C sub 8, U16 RWS (06 R177). 0.1 A, 100–5000 -/
abbrev inrushCurrent (k : Nat) : Obj :=
  mkObj (0x300C + 0x100 * k) (8) 0x300c08 (.u16) .rws (.L) (1000) (some (100, 5000)) []

/-- 0x300C sub 9, U16 RWS (06 R177). ms, 1–500 -/
abbrev inrushTimeout (k : Nat) : Obj :=
  mkObj (0x300C + 0x100 * k) (9) 0x300c09 (.u16) .rws (.L) (20) (some (1, 500)) []

/-- 0x300C sub 10, U16 RWS (06 R177). mV, 20–500 -/
abbrev inrushDoneDrop (k : Nat) : Obj :=
  mkObj (0x300C + 0x100 * k) (10) 0x300c0a (.u16) .rws (.L) (100) (some (20, 500)) []

/-- 0x300C sub 11, U16 RWS (06 R177). mV, 100–2000 -/
abbrev foldbackDrop (k : Nat) : Obj :=
  mkObj (0x300C + 0x100 * k) (11) 0x300c0b (.u16) .rws (.L) (500) (some (100, 2000)) []

/-- 0x300C sub 12, U16 RWS (06 R177). 0.1 ms, 1–500 -/
abbrev foldbackTime (k : Nat) : Obj :=
  mkObj (0x300C + 0x100 * k) (12) 0x300c0c (.u16) .rws (.L) (20) (some (1, 500)) []

/-- 0x300C sub 13, U16 RWS (06 R177). 0.1 A, 1000–20 000 -/
abbrev shortCurrent (k : Nat) : Obj :=
  mkObj (0x300C + 0x100 * k) (13) 0x300c0d (.u16) .rws (.L) (15000) (some (1000, 20000)) []

/-- 0x300C sub 14, U8 RWS (06 R177). 0–7 -/
abbrev tgRetries (k : Nat) : Obj :=
  mkObj (0x300C + 0x100 * k) (14) 0x300c0e (.u8) .rws (.L) (3) (some (0, 7)) []

/-- 0x300C sub 15, U16 RWS (06 R177). ms, 10–10 000 -/
abbrev coolDown (k : Nat) : Obj :=
  mkObj (0x300C + 0x100 * k) (15) 0x300c0f (.u16) .rws (.L) (500) (some (10, 10000)) []

/-- 0x300C sub 16, U16 RWS (06 R177). s, 1–3600 -/
abbrev tgRetryReset (k : Nat) : Obj :=
  mkObj (0x300C + 0x100 * k) (16) 0x300c10 (.u16) .rws (.L) (10) (some (1, 3600)) []

/-- 0x300C sub 17, U16 RWS (06 R177). 0.1 A, 100–10 000 -/
abbrev cableMinCurrent (k : Nat) : Obj :=
  mkObj (0x300C + 0x100 * k) (17) 0x300c11 (.u16) .rws (.L) (1000) (some (100, 10000)) []

/-- 0x300C sub 18, BOOL WO (06 R177). Writing 1 acknowledges LATCHED (R163) -/
abbrev tgAck (k : Nat) : Obj :=
  mkObj (0x300C + 0x100 * k) (18) 0x300c12 (.bool) .wo (.L) (0) (none) []

/-- 0x300D sub 1, U8 RO (06 R177). As in R156 -/
abbrev tgState (k : Nat) : Obj :=
  mkObj (0x300D + 0x100 * k) (1) 0x300d01 (.u8) .ro (.none) (0) (none) []

/-- 0x300D sub 2, U8 RO (06 R177). Retries used -/
abbrev tgRetryCount (k : Nat) : Obj :=
  mkObj (0x300D + 0x100 * k) (2) 0x300d02 (.u8) .ro (.none) (0) (none) []

/-- 0x300D sub 3, U8 RO (06 R177). As in R161; bits of the last trip -/
abbrev tgTripCause (k : Nat) : Obj :=
  mkObj (0x300D + 0x100 * k) (3) 0x300d03 (.u8) .ro (.none) (0) (none) []

/-- 0x300D sub 4, U32 RO (06 R177). Since power-on -/
abbrev tgTrips (k : Nat) : Obj :=
  mkObj (0x300D + 0x100 * k) (4) 0x300d04 (.u32) .ro (.none) (0) (none) []

/-- 0x300D sub 5, U32 RO (06 R177). µF; 0xFFFF_FFFF invalid -/
abbrev trayCapacitance (k : Nat) : Obj :=
  mkObj (0x300D + 0x100 * k) (5) 0x300d05 (.u32) .ro (.none) (4294967295) (none) []

/-- 0x300D sub 6, U16 RO (06 R177). mA at 12 V; 0xFFFF invalid -/
abbrev trayLeakage (k : Nat) : Obj :=
  mkObj (0x300D + 0x100 * k) (6) 0x300d06 (.u16) .ro (.none) (65535) (none) []

/-- 0x300D sub 7, U16 RO (06 R177). µΩ; 0xFFFF invalid -/
abbrev cableResistance (k : Nat) : Obj :=
  mkObj (0x300D + 0x100 * k) (7) 0x300d07 (.u16) .ro (.none) (65535) (none) []

/-- 0x300D sub 8, U16 RO (06 R177). µΩ; 0xFFFF invalid -/
abbrev gateOnResistance (k : Nat) : Obj :=
  mkObj (0x300D + 0x100 * k) (8) 0x300d08 (.u16) .ro (.none) (65535) (none) []

/-- 0x300D sub 9, U32 RO (06 R177). mJ, last inrush -/
abbrev inrushEnergy (k : Nat) : Obj :=
  mkObj (0x300D + 0x100 * k) (9) 0x300d09 (.u32) .ro (.none) (0) (none) []

/-- 0x300D sub 10, STAMP RO (06 R177). Stamp of the last CLOSED -/
abbrev lastCloseStamp (k : Nat) : Obj :=
  mkObj (0x300D + 0x100 * k) (10) 0x300d0a (.stamp) .ro (.none) (0) (none) []

/-- 0x300D sub 11, BOOL RO (06 R177). Presence qualified -/
abbrev presence (k : Nat) : Obj :=
  mkObj (0x300D + 0x100 * k) (11) 0x300d0b (.bool) .ro (.none) (0) (none) []

/-- 0x300D sub 12, BOOL RO (06 R177). As in R162 -/
abbrev tgRetrying (k : Nat) : Obj :=
  mkObj (0x300D + 0x100 * k) (12) 0x300d0c (.bool) .ro (.none) (0) (none) []

/-- 0x4700, 0x4870 sub 1, U16 RWS (06 R178). mV, 10–100 -/
abbrev regDrop (k : Nat) : Obj :=
  mkObj (0x4700 + 0x170 * k) (1) 0x470001 (.u16) .rws (.L) (25) (some (10, 100)) []

/-- 0x4700, 0x4870 sub 2, U16 RWS (06 R178). mV, 2–50 -/
abbrev revThreshold (k : Nat) : Obj :=
  mkObj (0x4700 + 0x170 * k) (2) 0x470002 (.u16) .rws (.L) (8) (some (2, 50)) []

/-- 0x4700, 0x4870 sub 3, U16 RWS (06 R178). mV, 10–200 -/
abbrev onThreshold (k : Nat) : Obj :=
  mkObj (0x4700 + 0x170 * k) (3) 0x470003 (.u16) .rws (.L) (40) (some (10, 200)) []

/-- 0x4700, 0x4870 sub 4, U16 RWS (06 R178). mV, 500–10 000 -/
abbrev prechargeDrop (k : Nat) : Obj :=
  mkObj (0x4700 + 0x170 * k) (4) 0x470004 (.u16) .rws (.L) (2000) (some (500, 10000)) []

/-- 0x4700, 0x4870 sub 5, U16 RWS (06 R178). 0.1 A, 10–1000 -/
abbrev prechargeCurrent (k : Nat) : Obj :=
  mkObj (0x4700 + 0x170 * k) (5) 0x470005 (.u16) .rws (.L) (200) (some (10, 1000)) []

/-- 0x4700, 0x4870 sub 6, U16 RWS (06 R178). ms, 100–10 000 -/
abbrev prechargeTimeout (k : Nat) : Obj :=
  mkObj (0x4700 + 0x170 * k) (6) 0x470006 (.u16) .rws (.L) (2000) (some (100, 10000)) []

/-- 0x4700, 0x4870 sub 7, U16 RWS (06 R178). mV, 100–1000 -/
abbrev dropFault (k : Nat) : Obj :=
  mkObj (0x4700 + 0x170 * k) (7) 0x470007 (.u16) .rws (.L) (350) (some (100, 1000)) []

/-- 0x4700, 0x4870 sub 8, U16 RWS (06 R178). ms, 1–100 -/
abbrev dropFaultTime (k : Nat) : Obj :=
  mkObj (0x4700 + 0x170 * k) (8) 0x470008 (.u16) .rws (.L) (5) (some (1, 100)) []

/-- 0x4700, 0x4870 sub 9, U16 RWS (06 R178). 0.1 A, 50–2000 -/
abbrev revFaultCurrent (k : Nat) : Obj :=
  mkObj (0x4700 + 0x170 * k) (9) 0x470009 (.u16) .rws (.L) (200) (some (50, 2000)) []

/-- 0x4700, 0x4870 sub 10, U16 RWS (06 R178). ms, 1–100 -/
abbrev revFaultTime (k : Nat) : Obj :=
  mkObj (0x4700 + 0x170 * k) (10) 0x47000a (.u16) .rws (.L) (2) (some (1, 100)) []

/-- 0x4870 sub 11, U16 RWS (06 R178). mV, 0–3000 -/
abbrev preBiasLevel : Obj :=
  mkObj (0x4870) (11) 0x48700b (.u16) .rws (.L) (2000) (some (0, 3000)) []

/-- 0x4701–0x4702, 0x4871–0x4874 sub 1, U8 RWS (06 R178). 0 OFF, 1 DIODE -/
abbrev gateRequest (k : Nat) : Obj :=
  mkObj (if k < 2 then 0x4701 + k else 0x486F + k) (1) 0x470101 (.u8) .rws (.L) (0) (some (0, 1)) []

/-- 0x4701–0x4702, 0x4871–0x4874 sub 2, U8 RO (06 R178). As in R165 -/
abbrev gateMode (k : Nat) : Obj :=
  mkObj (if k < 2 then 0x4701 + k else 0x486F + k) (2) 0x470102 (.u8) .ro (.none) (0) (none) []

/-- 0x4701–0x4702, 0x4871–0x4874 sub 3, U8 RO (06 R178). b0 safe-state route, b1 gate fault, b2 owning policy, b3 VDDA -/
abbrev forceOffCause (k : Nat) : Obj :=
  mkObj (if k < 2 then 0x4701 + k else 0x486F + k) (3) 0x470103 (.u8) .ro (.none) (0) (none) []

/-- 0x4701–0x4702, 0x4871–0x4874 sub 4, BOOL RO (06 R178). Diode bank on -/
abbrev conducting (k : Nat) : Obj :=
  mkObj (if k < 2 then 0x4701 + k else 0x486F + k) (4) 0x470104 (.bool) .ro (.none) (0) (none) []

/-- 0x4701–0x4702, 0x4871–0x4874 sub 5, I16 RO (06 R178). mV, V_AK, mean over the last lap -/
abbrev drop (k : Nat) : Obj :=
  mkObj (if k < 2 then 0x4701 + k else 0x486F + k) (5) 0x470105 (.i16) .ro (.none) (0) (none) []

/-- 0x4701–0x4702, 0x4871–0x4874 sub 6, U32 RO (06 R178). Since power-on -/
abbrev reverseOffs (k : Nat) : Obj :=
  mkObj (if k < 2 then 0x4701 + k else 0x486F + k) (6) 0x470106 (.u32) .ro (.none) (0) (none) []

/-- 0x4701–0x4702, 0x4871–0x4874 sub 7, U8 RO (06 R178). As in R171 -/
abbrev gateFault (k : Nat) : Obj :=
  mkObj (if k < 2 then 0x4701 + k else 0x486F + k) (7) 0x470107 (.u8) .ro (.none) (0) (none) []

/-- 0x4701–0x4702, 0x4871–0x4874 sub 8, BOOL WO (06 R178). Writing 1 acknowledges and releases -/
abbrev gateAck (k : Nat) : Obj :=
  mkObj (if k < 2 then 0x4701 + k else 0x486F + k) (8) 0x470108 (.bool) .wo (.L) (0) (none) []

/-- 0x4703 sub 1, U16 RO (06 R178). µΩ; 0xFFFF invalid -/
abbrev busBarResistance : Obj :=
  mkObj (0x4703) (1) 0x470301 (.u16) .ro (.none) (65535) (none) []

/-- 0x4703 sub 2, U16 RWS (06 R178). 0.1 A, 200–10 000 -/
abbrev bbStepMin : Obj :=
  mkObj (0x4703) (2) 0x470302 (.u16) .rws (.L) (1000) (some (200, 10000)) []

/-- 0x4703 sub 3, U32 RO (06 R178). Steps measured since power-on -/
abbrev bbSteps : Obj :=
  mkObj (0x4703) (3) 0x470303 (.u32) .ro (.none) (0) (none) []

/-- 0x8030 sub 1–4, U8 RO (06 R179). For SG0–SG3: 0 committed behaviour, 1 driven as in R172 -/
abbrev specGateEnhance (i : Nat) : Obj :=
  mkObj (0x8030) (1 + i) 0x803001 (.u8) .ro (.none) (0) (none) []

/-- 0x4000 sub 1, BOOL RWS (07 R211). As in R192 -/
abbrev rectEnable : Obj :=
  mkObj (0x4000) (1) 0x400001 (.bool) .rws (.L) (0) (none) []

/-- 0x4000 sub 2, BOOL RWS (07 R211). As in R208 -/
abbrev groupEnableA : Obj :=
  mkObj (0x4000) (2) 0x400002 (.bool) .rws (.L) (1) (none) []

/-- 0x4000 sub 3, BOOL RWS (07 R211). As in R208 -/
abbrev groupEnableB : Obj :=
  mkObj (0x4000) (3) 0x400003 (.bool) .rws (.L) (1) (none) []

/-- 0x4000 sub 4, U8 RWS (07 R211). 0 all available, 1 capacity -/
abbrev rectPolicy : Obj :=
  mkObj (0x4000) (4) 0x400004 (.u8) .rws (.L) (0) (some (0, 1)) []

/-- 0x4000 sub 5, U8 RWS (07 R211). 0 as declared, 1 required, 2 off -/
abbrev pecMode : Obj :=
  mkObj (0x4000) (5) 0x400005 (.u8) .rws (.Q) (0) (some (0, 2)) []

/-- 0x4001 sub 1, U16 RWS (07 R211). mV, 48 000–57 000; through the bus pacer -/
abbrev busTarget : Obj :=
  mkObj (0x4001) (1) 0x400101 (.u16) .rws (.L) (54000) (some (48000, 57000)) []

/-- 0x4001 sub 2, U16 RWS (07 R211). mV per lap, 1–1000 -/
abbrev busPaceRate : Obj :=
  mkObj (0x4001) (2) 0x400102 (.u16) .rws (.L) (20) (some (1, 1000)) []

/-- 0x4001 sub 3, Q16.16 RWS (07 R211). K_pb, 0–4 -/
abbrev busKp : Obj :=
  mkObj (0x4001) (3) 0x400103 (.q1616) .rws (.L) (13107) (some (0, 262144)) []

/-- 0x4001 sub 4, Q16.16 RWS (07 R211). K_ib per lap, 0–1 -/
abbrev busKi : Obj :=
  mkObj (0x4001) (4) 0x400104 (.q1616) .rws (.L) (3277) (some (0, 65536)) []

/-- 0x4001 sub 5, U16 RWS (07 R211). mV, 100–3000 -/
abbrev trimRange : Obj :=
  mkObj (0x4001) (5) 0x400105 (.u16) .rws (.L) (1500) (some (100, 3000)) []

/-- 0x4001 sub 6, U16 RWS (07 R211). mV, 200–4000; at least TrimRange + ShareClamp -/
abbrev trimWindow : Obj :=
  mkObj (0x4001) (6) 0x400106 (.u16) .rws (.L) (2000) (some (200, 4000)) []

/-- 0x4001 sub 7, U16 RWS (07 R211). au, 1024–32 768 -/
abbrev busMeasWindow : Obj :=
  mkObj (0x4001) (7) 0x400107 (.u16) .rws (.L) (8192) (some (1024, 32768)) []

/-- 0x4001 sub 8, U16 RWS (07 R211). mV, 32 000–56 000 -/
abbrev regFloor : Obj :=
  mkObj (0x4001) (8) 0x400108 (.u16) .rws (.L) (48000) (some (32000, 56000)) []

/-- 0x4002 sub 0, DOMAIN RWS (07 R211). Layout as in R98; f_loop 1 MHz -/
abbrev busNotch : Obj :=
  mkObj (0x4002) (0) 0x400200 (.dom 24) .rws (.L) (0x4000000000000000) (none) []

/-- 0x4003 sub 1, Q15 RWS (07 R211). K_s (0.25) -/
abbrev shareGain : Obj :=
  mkObj (0x4003) (1) 0x400301 (.q15) .rws (.L) (8192) (none) []

/-- 0x4003 sub 2, U16 RWS (07 R211). mV, 0–1000 -/
abbrev shareClamp : Obj :=
  mkObj (0x4003) (2) 0x400302 (.u16) .rws (.L) (500) (some (0, 1000)) []

/-- 0x4003 sub 3, U16 RWS (07 R211). µΩ, 0–20 000; written as VOUT_DROOP at the next lap -/
abbrev droopResistance : Obj :=
  mkObj (0x4003) (3) 0x400303 (.u16) .rws (.L) (5000) (some (0, 20000)) []

/-- 0x4003 sub 4, U16 RWS (07 R211). 0.1 A for the shelf, 0–10 000 -/
abbrev shareMinCurrent : Obj :=
  mkObj (0x4003) (4) 0x400304 (.u16) .rws (.L) (500) (some (0, 10000)) []

/-- 0x4004 sub 1, Q15 RWS (07 R211). 0.80 -/
abbrev addFrac : Obj :=
  mkObj (0x4004) (1) 0x400401 (.q15) .rws (.L) (26214) (none) []

/-- 0x4004 sub 2, Q15 RWS (07 R211). 0.60, below AddFrac -/
abbrev shedFrac : Obj :=
  mkObj (0x4004) (2) 0x400402 (.q15) .rws (.L) (19661) (none) []

/-- 0x4004 sub 3, U8 RWS (07 R211). 0–4 -/
abbrev redundantCount : Obj :=
  mkObj (0x4004) (3) 0x400403 (.u8) .rws (.L) (1) (some (0, 4)) []

/-- 0x4004 sub 4, U8 RWS (07 R211). 1–32 -/
abbrev minOnline : Obj :=
  mkObj (0x4004) (4) 0x400404 (.u8) .rws (.L) (2) (some (1, 32)) []

/-- 0x4004 sub 5, U8 RWS (07 R211). laps, 4–255 -/
abbrev avgLaps : Obj :=
  mkObj (0x4004) (5) 0x400405 (.u8) .rws (.L) (16) (some (4, 255)) []

/-- 0x4004 sub 6, U8 RWS (07 R211). laps, 1–255 -/
abbrev addSpacing : Obj :=
  mkObj (0x4004) (6) 0x400406 (.u8) .rws (.L) (2) (some (1, 255)) []

/-- 0x4004 sub 7, U16 RWS (07 R211). laps, 1–65 535 -/
abbrev minOnLaps : Obj :=
  mkObj (0x4004) (7) 0x400407 (.u16) .rws (.L) (500) (some (1, 65535)) []

/-- 0x4004 sub 8, U16 RWS (07 R211). laps, 1–65 535 -/
abbrev minOffLaps : Obj :=
  mkObj (0x4004) (8) 0x400408 (.u16) .rws (.L) (250) (some (1, 65535)) []

/-- 0x4004 sub 9, I16 RWS (07 R211). au, −8192 to +8192 -/
abbrev addOffset : Obj :=
  mkObj (0x4004) (9) 0x400409 (.i16) .rws (.L) (0) (some (-8192, 8192)) []

/-- 0x4004 sub 10, I16 RWS (07 R211). au, −8192 to +8192 -/
abbrev shedOffset : Obj :=
  mkObj (0x4004) (10) 0x40040a (.i16) .rws (.L) (0) (some (-8192, 8192)) []

/-- 0x4004 sub 11, U16 RWS (07 R211). mV, 0–1000 -/
abbrev addPreTrim : Obj :=
  mkObj (0x4004) (11) 0x40040b (.u16) .rws (.L) (300) (some (0, 1000)) []

/-- 0x4004 sub 12, U16 RWS (07 R211). mV, 0–2000 -/
abbrev shedPreTrim : Obj :=
  mkObj (0x4004) (12) 0x40040c (.u16) .rws (.L) (500) (some (0, 2000)) []

/-- 0x4004 sub 13, U8 RWS (07 R211). laps, 1–255 -/
abbrev shedRampLaps : Obj :=
  mkObj (0x4004) (13) 0x40040d (.u8) .rws (.L) (25) (some (1, 255)) []

/-- 0x4004 sub 14, U8 RWS (07 R211). laps, 5–255 -/
abbrev addSettleLaps : Obj :=
  mkObj (0x4004) (14) 0x40040e (.u8) .rws (.L) (50) (some (5, 255)) []

/-- 0x4004 sub 15, Q15 RWS (07 R211). Fraction of rated current (0.05) -/
abbrev addCurrentFrac : Obj :=
  mkObj (0x4004) (15) 0x40040f (.q15) .rws (.L) (1638) (none) []

/-- 0x4004 sub 16, U8 RWS (07 R211). 0–7 -/
abbrev rectRetries : Obj :=
  mkObj (0x4004) (16) 0x400410 (.u8) .rws (.L) (2) (some (0, 7)) []

/-- 0x4004 sub 17, U16 RWS (07 R211). laps, 10–10 000 -/
abbrev rectRetryDelay : Obj :=
  mkObj (0x4004) (17) 0x400411 (.u16) .rws (.L) (100) (some (10, 10000)) []

/-- 0x4004 sub 18, U16 RWS (07 R211). 0.1 A line RMS, 5–500 -/
abbrev pairIdentMin : Obj :=
  mkObj (0x4004) (18) 0x400412 (.u16) .rws (.L) (20) (some (5, 500)) []

/-- 0x4005 sub 1, U32 RO (07 R211). µV, V_b -/
abbrev busSetpoint : Obj :=
  mkObj (0x4005) (1) 0x400501 (.u32) .ro (.none) (0) (none) []

/-- 0x4005 sub 2, U32 RO (07 R211). µV, V̄ -/
abbrev busMean : Obj :=
  mkObj (0x4005) (2) 0x400502 (.u32) .ro (.none) (0) (none) []

/-- 0x4005 sub 3, I32 RO (07 R211). µV, I_b -/
abbrev integralTrim : Obj :=
  mkObj (0x4005) (3) 0x400503 (.i32) .ro (.none) (0) (none) []

/-- 0x4005 sub 4, I32 RO (07 R211). µV, u -/
abbrev commonTrim : Obj :=
  mkObj (0x4005) (4) 0x400504 (.i32) .ro (.none) (0) (none) []

/-- 0x4005 sub 5, U8 RO (07 R211). b0 class NONE, b1 deviation, b2 none ONLINE, b3 below RegFloor -/
abbrev regFrozen : Obj :=
  mkObj (0x4005) (5) 0x400505 (.u8) .ro (.none) (0) (none) []

/-- 0x4005 sub 6, U32 RO (07 R211). W, P̄ -/
abbrev rectPower : Obj :=
  mkObj (0x4005) (6) 0x400506 (.u32) .ro (.none) (0) (none) []

/-- 0x4005 sub 7, U8 RO (07 R211). Slots ONLINE -/
abbrev onlineCount : Obj :=
  mkObj (0x4005) (7) 0x400507 (.u8) .ro (.none) (0) (none) []

/-- 0x4005 sub 8, U32 RO (07 R211). W, C_on -/
abbrev onlineCapacity : Obj :=
  mkObj (0x4005) (8) 0x400508 (.u32) .ro (.none) (0) (none) []

/-- 0x4005 sub 9, U8 RO (07 R211). 0 FULL, 1 REDUCED -/
abbrev capacityState : Obj :=
  mkObj (0x4005) (9) 0x400509 (.u8) .ro (.none) (1) (none) []

/-- 0x4005 sub 10, U32 RO (07 R211). Completed since power-on -/
abbrev adds : Obj :=
  mkObj (0x4005) (10) 0x40050a (.u32) .ro (.none) (0) (none) []

/-- 0x4005 sub 11, U32 RO (07 R211). Completed since power-on -/
abbrev sheds : Obj :=
  mkObj (0x4005) (11) 0x40050b (.u32) .ro (.none) (0) (none) []

/-- 0x4010 sub 1, U8 RWS (07 R211). 0 100 kHz, 1 400 kHz -/
abbrev portSpeed (k : Nat) : Obj :=
  mkObj (0x4010 + k) (1) 0x401001 (.u8) .rws (.Q) (1) (some (0, 1)) []

/-- 0x4010 sub 2, U8 RO (07 R211). 0 idle, 1 running, 2 recovering, 3 STUCK -/
abbrev pbPortState (k : Nat) : Obj :=
  mkObj (0x4010 + k) (2) 0x401002 (.u8) .ro (.none) (0) (none) []

/-- 0x4010 sub 3, U8 RO (07 R211). As PortSpeed -/
abbrev speedInUse (k : Nat) : Obj :=
  mkObj (0x4010 + k) (3) 0x401003 (.u8) .ro (.none) (0) (none) []

/-- 0x4010 sub 4, U32 RO (07 R211). R184 -/
abbrev recoveries (k : Nat) : Obj :=
  mkObj (0x4010 + k) (4) 0x401004 (.u32) .ro (.none) (0) (none) []

/-- 0x4010 sub 5, U32 RO (07 R211). R185 -/
abbrev stuckCount (k : Nat) : Obj :=
  mkObj (0x4010 + k) (5) 0x401005 (.u32) .ro (.none) (0) (none) []

/-- 0x4010 sub 6, U32 RO (07 R211). R188 -/
abbrev portTxErrors (k : Nat) : Obj :=
  mkObj (0x4010 + k) (6) 0x401006 (.u32) .ro (.none) (0) (none) []

/-- 0x4010 sub 7, U32 RO (07 R211). R187 -/
abbrev overruns (k : Nat) : Obj :=
  mkObj (0x4010 + k) (7) 0x401007 (.u32) .ro (.none) (0) (none) []

/-- 0x4010 sub 8, U32 RO (07 R211). R186 -/
abbrev clockTimeouts (k : Nat) : Obj :=
  mkObj (0x4010 + k) (8) 0x401008 (.u32) .ro (.none) (0) (none) []

/-- 0x4100 sub 1, BOOL RWS (07 R211). As in R189 and R192 -/
abbrev slotEnable (k : Nat) : Obj :=
  mkObj (0x4100 + k) (1) 0x410001 (.bool) .rws (.L) (1) (none) []

/-- 0x4100 sub 2, U8 RWS (07 R211). 7-bit, 0x08–0x77 -/
abbrev address (k : Nat) : Obj :=
  mkObj (0x4100 + k) (2) 0x410002 (.u8) .rws (.Q) (0x58 + k % 8) (some (8, 119)) []

/-- 0x4100 sub 3, U8 RWS (07 R211). 0 identify, 1 AB, 2 BC, 3 CA, 4 three-phase, 5 DC -/
abbrev linePairFixed (k : Nat) : Obj :=
  mkObj (0x4100 + k) (3) 0x410003 (.u8) .rws (.L) (0) (some (0, 5)) []

/-- 0x4100 sub 4, BOOL WO (07 R211). As in R205 -/
abbrev rectAck (k : Nat) : Obj :=
  mkObj (0x4100 + k) (4) 0x410004 (.bool) .wo (.L) (0) (none) []

/-- 0x4200 sub 1, U8 RO (07 R211). As in R191 -/
abbrev rectState (k : Nat) : Obj :=
  mkObj (0x4200 + k) (1) 0x420001 (.u8) .ro (.none) (0) (none) []

/-- 0x4200 sub 2, U8 RO (07 R211). 0 unknown; 1–5 as LinePairFixed -/
abbrev linePair (k : Nat) : Obj :=
  mkObj (0x4200 + k) (2) 0x420002 (.u8) .ro (.none) (0) (none) []

/-- 0x4200 sub 3, I16 RO (07 R211). 0.1 A, last READ_IOUT -/
abbrev outputCurrent (k : Nat) : Obj :=
  mkObj (0x4200 + k) (3) 0x420003 (.i16) .ro (.none) (0) (none) []

/-- 0x4200 sub 4, U32 RO (07 R211). µV, last written -/
abbrev voutCommand (k : Nat) : Obj :=
  mkObj (0x4200 + k) (4) 0x420004 (.u32) .ro (.none) (0) (none) []

/-- 0x4200 sub 5, I32 RO (07 R211). µV, s_i -/
abbrev shareTrim (k : Nat) : Obj :=
  mkObj (0x4200 + k) (5) 0x420005 (.i32) .ro (.none) (0) (none) []

/-- 0x4200 sub 6, U16 RO (07 R211). STATUS_WORD -/
abbrev lastStatusWord (k : Nat) : Obj :=
  mkObj (0x4200 + k) (6) 0x420006 (.u16) .ro (.none) (0) (none) []

/-- 0x4200 sub 7, U8 RO (07 R211). As in R205 -/
abbrev retryCount (k : Nat) : Obj :=
  mkObj (0x4200 + k) (7) 0x420007 (.u8) .ro (.none) (0) (none) []

/-- 0x4200 sub 8, STAMP RO (07 R211). Entry to the present state -/
abbrev rectStateStamp (k : Nat) : Obj :=
  mkObj (0x4200 + k) (8) 0x420008 (.stamp) .ro (.none) (0) (none) []

/-- 0x4200 sub 9, BOOL RO (07 R211). As in R206 -/
abbrev rectRetrying (k : Nat) : Obj :=
  mkObj (0x4200 + k) (9) 0x420009 (.bool) .ro (.none) (0) (none) []

/-- 0x4200 sub 10, U32 RO (07 R211). R188 -/
abbrev slotTxErrors (k : Nat) : Obj :=
  mkObj (0x4200 + k) (10) 0x42000a (.u32) .ro (.none) (0) (none) []

/-- 0x4300 sub 0, DOMAIN RO (07 R211). Layout as in R190 -/
abbrev capability (k : Nat) : Obj :=
  mkObj (0x4300 + k) (0) 0x430000 (.dom 64) .ro (.none) (0) (none) []

/-- 0x4800 sub 1, BOOL RWS (08 R238). Charging allowed -/
abbrev chargeEnable : Obj :=
  mkObj (0x4800) (1) 0x480001 (.bool) .rws (.L) (0) (none) []

/-- 0x4800 sub 2, U32 RWS (08 R238). Hz, 100 000–500 000 -/
abbrev chargerFreq : Obj :=
  mkObj (0x4800) (2) 0x480002 (.u32) .rws (.Q) (250000) (some (100000, 500000)) []

/-- 0x4800 sub 3, U16 RWS (08 R238). µH, 2–200 -/
abbrev chargerInductance : Obj :=
  mkObj (0x4800) (3) 0x480003 (.u16) .rws (.Q) (22) (some (2, 200)) []

/-- 0x4800 sub 4, U16 RWS (08 R238). 0.1 A, 100–800 -/
abbrev chargerPeakLimit : Obj :=
  mkObj (0x4800) (4) 0x480004 (.u16) .rws (.L) (750) (some (100, 800)) []

/-- 0x4800 sub 5–8, U16 RWS (08 R238). 0.1 A per charger, 0–600 -/
abbrev inputLimit (i : Nat) : Obj :=
  mkObj (0x4800) (5 + i) 0x480005 (.u16) .rws (.L) (sel i [600, 200, 100, 400]) (some (0, 600)) []

/-- 0x4800 sub 9, U16 CONST (08 R238). Hold-up row -/
abbrev inputLimit4 : Obj :=
  mkObj (0x4800) (9) 0x480009 (.u16) .const (.none) (0) (none) []

/-- 0x4800 sub 10, U32 RWS (08 R238). Ω at 25 °C -/
abbrev thermNominal : Obj :=
  mkObj (0x4800) (10) 0x48000a (.u32) .rws (.Q) (10000) (none) []

/-- 0x4800 sub 11, U16 RWS (08 R238). K -/
abbrev thermBeta : Obj :=
  mkObj (0x4800) (11) 0x48000b (.u16) .rws (.Q) (3435) (none) []

/-- 0x4800 sub 12, U8 RWS (08 R238). °C, 1–10 -/
abbrev tempHysteresis : Obj :=
  mkObj (0x4800) (12) 0x48000c (.u8) .rws (.L) (2) (some (1, 10)) []

/-- 0x4800 sub 13, I16 RWS (08 R238). °C, −20 to 70 -/
abbrev coldLimit : Obj :=
  mkObj (0x4800) (13) 0x48000d (.i16) .rws (.L) (0) (some (-20, 70)) []

/-- 0x4800 sub 14, I16 RWS (08 R238). °C, −20 to 70 -/
abbrev coolLimit : Obj :=
  mkObj (0x4800) (14) 0x48000e (.i16) .rws (.L) (10) (some (-20, 70)) []

/-- 0x4800 sub 15, I16 RWS (08 R238). °C, −20 to 70 -/
abbrev warmLimit : Obj :=
  mkObj (0x4800) (15) 0x48000f (.i16) .rws (.L) (40) (some (-20, 70)) []

/-- 0x4800 sub 16, I16 RWS (08 R238). °C, −20 to 70 -/
abbrev hotLimit : Obj :=
  mkObj (0x4800) (16) 0x480010 (.i16) .rws (.L) (45) (some (-20, 70)) []

/-- 0x4800 sub 17, Q15 RWS (08 R238). 0.25 -/
abbrev coolFrac : Obj :=
  mkObj (0x4800) (17) 0x480011 (.q15) .rws (.L) (8192) (none) []

/-- 0x4800 sub 18, Q15 RWS (08 R238). 0.50 -/
abbrev warmFrac : Obj :=
  mkObj (0x4800) (18) 0x480012 (.q15) .rws (.L) (16384) (none) []

/-- 0x4800 sub 19, I16 RWS (08 R238). °C, 45–80 -/
abbrev dischargeHotLimit : Obj :=
  mkObj (0x4800) (19) 0x480013 (.i16) .rws (.L) (65) (some (45, 80)) []

/-- 0x4800 sub 20, U16 RWS (08 R238). ms, 100–10 000 -/
abbrev stringDeglitch : Obj :=
  mkObj (0x4800) (20) 0x480014 (.u16) .rws (.L) (2000) (some (100, 10000)) []

/-- 0x4800 sub 21, U16 RWS (08 R238). A/s, 10–10 000 -/
abbrev chargeRamp : Obj :=
  mkObj (0x4800) (21) 0x480015 (.u16) .rws (.L) (100) (some (10, 10000)) []

/-- 0x4800 sub 22, Q15 RWS (08 R238). η (0.95) -/
abbrev chargerEfficiency : Obj :=
  mkObj (0x4800) (22) 0x480016 (.q15) .rws (.L) (31129) (none) []

/-- 0x4800 sub 30, U8 RO (08 R238). As in R224 -/
abbrev sourceRow : Obj :=
  mkObj (0x4800) (30) 0x48001e (.u8) .ro (.none) (4) (none) []

/-- 0x4810 sub 1, BOOL RWS (08 R238). String managed -/
abbrev stringEnable (k : Nat) : Obj :=
  mkObj (0x4810 + k) (1) 0x481001 (.bool) .rws (.L) (0) (none) []

/-- 0x4810 sub 2, U8 RWS (08 R238). 30–36 -/
abbrev cellCount (k : Nat) : Obj :=
  mkObj (0x4810 + k) (2) 0x481002 (.u8) .rws (.Q) (34) (some (30, 36)) []

/-- 0x4810 sub 3, U16 RWS (08 R238). Ah, 10–200 -/
abbrev ratedCapacity (k : Nat) : Obj :=
  mkObj (0x4810 + k) (3) 0x481003 (.u16) .rws (.Q) (120) (some (10, 200)) []

/-- 0x4810 sub 4, U16 RWS (08 R238). 0.1 A, 10–600 -/
abbrev fastCurrent (k : Nat) : Obj :=
  mkObj (0x4810 + k) (4) 0x481004 (.u16) .rws (.L) (600) (some (10, 600)) []

/-- 0x4810 sub 5, U16 RWS (08 R238). 0.1 A, 5–300 -/
abbrev topoffCurrent (k : Nat) : Obj :=
  mkObj (0x4810 + k) (5) 0x481005 (.u16) .rws (.L) (120) (some (5, 300)) []

/-- 0x4810 sub 6, U16 RWS (08 R238). min, 0–240 -/
abbrev topoffTime (k : Nat) : Obj :=
  mkObj (0x4810 + k) (6) 0x481006 (.u16) .rws (.L) (60) (some (0, 240)) []

/-- 0x4810 sub 7, U16 RWS (08 R238). 0.1 A, 0–50 -/
abbrev maintainCurrent (k : Nat) : Obj :=
  mkObj (0x4810 + k) (7) 0x481007 (.u16) .rws (.L) (4) (some (0, 50)) []

/-- 0x4810 sub 8, U16 RWS (08 R238). 0.1 A, 5–200 -/
abbrev qualifyCurrent (k : Nat) : Obj :=
  mkObj (0x4810 + k) (8) 0x481008 (.u16) .rws (.L) (60) (some (5, 200)) []

/-- 0x4810 sub 9, U16 RWS (08 R238). mV per cell, 800–1100 -/
abbrev qualifyVoltage (k : Nat) : Obj :=
  mkObj (0x4810 + k) (9) 0x481009 (.u16) .rws (.L) (1000) (some (800, 1100)) []

/-- 0x4810 sub 10, U16 RWS (08 R238). min, 5–120 -/
abbrev qualifyTimeout (k : Nat) : Obj :=
  mkObj (0x4810 + k) (10) 0x48100a (.u16) .rws (.L) (30) (some (5, 120)) []

/-- 0x4810 sub 11, U8 RWS (08 R238). mV per cell, 2–20 -/
abbrev negDeltaV (k : Nat) : Obj :=
  mkObj (0x4810 + k) (11) 0x48100b (.u8) .rws (.L) (5) (some (2, 20)) []

/-- 0x4810 sub 12, U16 RWS (08 R238). 0.01 °C/min, 50–300 -/
abbrev dtDtLimit (k : Nat) : Obj :=
  mkObj (0x4810 + k) (12) 0x48100c (.u16) .rws (.L) (100) (some (50, 300)) []

/-- 0x4810 sub 13, U16 RWS (08 R238). s, 60–1800 -/
abbrev detectHoldoff (k : Nat) : Obj :=
  mkObj (0x4810 + k) (13) 0x48100d (.u16) .rws (.L) (300) (some (60, 1800)) []

/-- 0x4810 sub 14, U16 RWS (08 R238). min, 30–600 -/
abbrev fastTimeout (k : Nat) : Obj :=
  mkObj (0x4810 + k) (14) 0x48100e (.u16) .rws (.L) (180) (some (30, 600)) []

/-- 0x4810 sub 15, U16 RWS (08 R238). mV per cell, 1400–1600 -/
abbrev maxCellVoltage (k : Nat) : Obj :=
  mkObj (0x4810 + k) (15) 0x48100f (.u16) .rws (.L) (1520) (some (1400, 1600)) []

/-- 0x4810 sub 16, U16 RWS (08 R238). 0.1 Ah, 5–500 -/
abbrev rechargeCharge (k : Nat) : Obj :=
  mkObj (0x4810 + k) (16) 0x481010 (.u16) .rws (.L) (60) (some (5, 500)) []

/-- 0x4810 sub 17, U16 RWS (08 R238). mV per cell, 1150–1400 -/
abbrev rechargeVoltage (k : Nat) : Obj :=
  mkObj (0x4810 + k) (17) 0x481011 (.u16) .rws (.L) (1300) (some (1150, 1400)) []

/-- 0x4810 sub 18, U16 RWS (08 R238). mV per cell, 1000–1250 -/
abbrev cutoffRelease (k : Nat) : Obj :=
  mkObj (0x4810 + k) (18) 0x481012 (.u16) .rws (.L) (1100) (some (1000, 1250)) []

/-- 0x4810 sub 19, U16 RWS (08 R238). ms, 10–5000 -/
abbrev cutoffTime (k : Nat) : Obj :=
  mkObj (0x4810 + k) (19) 0x481013 (.u16) .rws (.L) (100) (some (10, 5000)) []

/-- 0x4810 sub 20, U16 RWS (08 R238). mV per cell, above MaxCellVoltage, at most 1650 -/
abbrev chargerOvCell (k : Nat) : Obj :=
  mkObj (0x4810 + k) (20) 0x481014 (.u16) .rws (.L) (1560) (some (0, 1650)) []

/-- 0x4810 sub 21, U16 RWS (08 R238). 0.1 A, 5–200 -/
abbrev chargeSenseTol (k : Nat) : Obj :=
  mkObj (0x4810 + k) (21) 0x481015 (.u16) .rws (.L) (30) (some (5, 200)) []

/-- 0x4810 sub 22, BOOL WO (08 R238). As in R219 -/
abbrev stringAck (k : Nat) : Obj :=
  mkObj (0x4810 + k) (22) 0x481016 (.bool) .wo (.L) (0) (none) []

/-- 0x4810 sub 23, U8 RWS (08 R238). Code 0–7; 0xFF none -/
abbrev lampOverride (k : Nat) : Obj :=
  mkObj (0x4810 + k) (23) 0x481017 (.u8) .rws (.L) (255) (some (0, 7)) [255]

/-- 0x4820 sub 1, U8 RO (08 R238). As in R218 -/
abbrev stringState (k : Nat) : Obj :=
  mkObj (0x4820 + k) (1) 0x482001 (.u8) .ro (.none) (0) (none) []

/-- 0x4820 sub 2, U8 RO (08 R238). As in R231 -/
abbrev suspendCause (k : Nat) : Obj :=
  mkObj (0x4820 + k) (2) 0x482002 (.u8) .ro (.none) (0) (none) []

/-- 0x4820 sub 3, U16 RO (08 R238). 0.1 A, I_set -/
abbrev chargeSetpoint (k : Nat) : Obj :=
  mkObj (0x4820 + k) (3) 0x482003 (.u16) .ro (.none) (0) (none) []

/-- 0x4820 sub 4, I16 RO (08 R238). 0.1 A, 1 s mean of CHISn -/
abbrev chargeCurrent (k : Nat) : Obj :=
  mkObj (0x4820 + k) (4) 0x482004 (.i16) .ro (.none) (0) (none) []

/-- 0x4820 sub 5, U32 RO (08 R238). mV, 1 s mean -/
abbrev stringVoltage (k : Nat) : Obj :=
  mkObj (0x4820 + k) (5) 0x482005 (.u32) .ro (.none) (0) (none) []

/-- 0x4820 sub 6, I16 RO (08 R238). 0.1 °C, T_s -/
abbrev temperature (k : Nat) : Obj :=
  mkObj (0x4820 + k) (6) 0x482006 (.i16) .ro (.none) (0) (none) []

/-- 0x4820 sub 7, U8 RO (08 R238). 0 COLD … 4 HOT -/
abbrev tempWindow (k : Nat) : Obj :=
  mkObj (0x4820 + k) (7) 0x482007 (.u8) .ro (.none) (2) (none) []

/-- 0x4820 sub 8, U64 RO (08 R238). 0 anonymous or absent -/
abbrev stringIdentity (k : Nat) : Obj :=
  mkObj (0x4820 + k) (8) 0x482008 (.u64) .ro (.none) (0) (none) []

/-- 0x4820 sub 9, U8 RO (08 R238). b0 −ΔV, b1 dT/dt, b2 timer, b3 maximum voltage -/
abbrev endCause (k : Nat) : Obj :=
  mkObj (0x4820 + k) (9) 0x482009 (.u8) .ro (.none) (0) (none) []

/-- 0x4820 sub 10, STAMP RO (08 R238). Entry to the present state -/
abbrev stringStateStamp (k : Nat) : Obj :=
  mkObj (0x4820 + k) (10) 0x48200a (.stamp) .ro (.none) (0) (none) []

/-- 0x4820 sub 11, U8 RO (08 R238). b0 output window, b1 sense, b2 QUALIFY timeout, b3 route (R349), b4 escalation to class A (R358); b7..b5 reserved -/
abbrev chargerFault (k : Nat) : Obj :=
  mkObj (0x4820 + k) (11) 0x48200b (.u8) .ro (.none) (0) (none) []

/-- 0x4820 sub 12, BOOL RO (08 R238). As in R233 -/
abbrev cutoffHold (k : Nat) : Obj :=
  mkObj (0x4820 + k) (12) 0x48200c (.bool) .ro (.none) (0) (none) []

/-- 0x4820 sub 13, U32 RO (08 R238). Since power-on -/
abbrev peakLimited (k : Nat) : Obj :=
  mkObj (0x4820 + k) (13) 0x48200d (.u32) .ro (.none) (0) (none) []

/-- 0x4820 sub 14, U32 RO (08 R238). Since power-on -/
abbrev removals (k : Nat) : Obj :=
  mkObj (0x4820 + k) (14) 0x48200e (.u32) .ro (.none) (0) (none) []

/-- 0x4820 sub 15, U8 RO (08 R238). As in R235 -/
abbrev lampCode (k : Nat) : Obj :=
  mkObj (0x4820 + k) (15) 0x48200f (.u8) .ro (.none) (0) (none) []

/-- 0x4820 sub 16, U32 RO (08 R238). s in the charge state, excluding SUSPENDED -/
abbrev stateElapsed (k : Nat) : Obj :=
  mkObj (0x4820 + k) (16) 0x482010 (.u32) .ro (.none) (0) (none) []

/-- 0x4820 sub 17, U16 RO (08 R238). mV per cell, V_eod of R233 -/
abbrev cutoffVoltage (k : Nat) : Obj :=
  mkObj (0x4820 + k) (17) 0x482011 (.u16) .ro (.none) (1000) (none) []

/-- 0x8031 sub 1–4, U8 RO (08 R239). For S0–S3: 0 committed behaviour, 1 paused by an unruled hold-up early start -/
abbrev specChargePause (i : Nat) : Obj :=
  mkObj (0x8031) (1 + i) 0x803101 (.u8) .ro (.none) (0) (none) []

/-- 0x4880 sub 1, Q15 RWS (09 R265). η (0.90), 0.5–1 -/
abbrev chargeEfficiency : Obj :=
  mkObj (0x4880) (1) 0x488001 (.q15) .rws (.L) (29491) (some (16384, 32767)) []

/-- 0x4880 sub 2, Q15 RWS (09 R265). R_1 ÷ R_s (0.5) -/
abbrev polarizationFrac : Obj :=
  mkObj (0x4880) (2) 0x488002 (.q15) .rws (.L) (16384) (none) []

/-- 0x4880 sub 3, U16 RWS (09 R265). ms, τ_1, 1–1000 -/
abbrev polarizationTau : Obj :=
  mkObj (0x4880) (3) 0x488003 (.u16) .rws (.L) (30) (some (1, 1000)) []

/-- 0x4880 sub 4, U16 RWS (09 R265). σ_s, 10⁻⁶ per step, 1–10 000 -/
abbrev processNoiseSoc : Obj :=
  mkObj (0x4880) (4) 0x488004 (.u16) .rws (.L) (10) (some (1, 10000)) []

/-- 0x4880 sub 5, U16 RWS (09 R265). σ_p, µV per step, 1–10 000 -/
abbrev processNoiseVp : Obj :=
  mkObj (0x4880) (5) 0x488005 (.u16) .rws (.L) (100) (some (1, 10000)) []

/-- 0x4880 sub 6, U16 RWS (09 R265). σ_v, mV, 1–1000 -/
abbrev measNoise : Obj :=
  mkObj (0x4880) (6) 0x488006 (.u16) .rws (.L) (50) (some (1, 1000)) []

/-- 0x4880 sub 7, U16 RWS (09 R265). 0.01%, 100–5000 -/
abbrev initialSocSigma : Obj :=
  mkObj (0x4880) (7) 0x488007 (.u16) .rws (.L) (1000) (some (100, 5000)) []

/-- 0x4880 sub 8, I16 RWS (09 R265). µV per °C per cell, −2000 to +2000 -/
abbrev ocvTempCoef : Obj :=
  mkObj (0x4880) (8) 0x488008 (.i16) .rws (.L) (-400) (some (-2000, 2000)) []

/-- 0x4880 sub 9, U16 RWS (09 R265). 0.1 A, 1–100 -/
abbrev restCurrent : Obj :=
  mkObj (0x4880) (9) 0x488009 (.u16) .rws (.L) (10) (some (1, 100)) []

/-- 0x4880 sub 10, U16 RWS (09 R265). min, 5–600; T_rest -/
abbrev restTime : Obj :=
  mkObj (0x4880) (10) 0x48800a (.u16) .rws (.L) (30) (some (5, 600)) []

/-- 0x4880 sub 11, U16 RWS (09 R265). 0.1 mV per % per cell, 5–200 -/
abbrev anchorMinSlope : Obj :=
  mkObj (0x4880) (11) 0x48800b (.u16) .rws (.L) (20) (some (5, 200)) []

/-- 0x4880 sub 12, U16 RWS (09 R265). 0.01%, 2000–9000 -/
abbrev capLearnMinSpan : Obj :=
  mkObj (0x4880) (12) 0x48800c (.u16) .rws (.L) (5000) (some (2000, 9000)) []

/-- 0x4880 sub 13, U16 RWS (09 R265). 0.1 A, 100–10 000 -/
abbrev rStepMin : Obj :=
  mkObj (0x4880) (13) 0x48800d (.u16) .rws (.L) (1000) (some (100, 10000)) []

/-- 0x4880 sub 14, U16 RWS (09 R265). ppm per °C, 0–30 000 -/
abbrev resistanceTempCoef : Obj :=
  mkObj (0x4880) (14) 0x48800e (.u16) .rws (.L) (8000) (some (0, 30000)) []

/-- 0x4880 sub 15, U16 RWS (09 R265). 0.01%, 200–5000 -/
abbrev disagreeLimit : Obj :=
  mkObj (0x4880) (15) 0x48800f (.u16) .rws (.L) (1500) (some (200, 5000)) []

/-- 0x4880 sub 16, U32 RWS (09 R265). W, 100–130 000 -/
abbrev holdupMinLoad : Obj :=
  mkObj (0x4880) (16) 0x488010 (.u32) .rws (.L) (1000) (some (100, 130000)) []

/-- 0x4880 sub 17, U8 RWS (09 R265). Multiples of √S, 3–20 -/
abbrev outlierGate : Obj :=
  mkObj (0x4880) (17) 0x488011 (.u8) .rws (.L) (5) (some (3, 20)) []

/-- 0x4881 sub 0, DOMAIN RWS (09 R265). 11 × U16 mV per cell at 25 °C, strictly increasing -/
abbrev ocvTable : Obj :=
  mkObj (0x4881) (0) 0x488100 (.dom 22) .rws (.L) (0x578054105280519050f050504fb04f104e204c4044c) (none) []

/-- 0x4890 sub 1, U16 RWS (09 R265). 0.01 µΩ, 5000–20 000 -/
abbrev shuntResistance (k : Nat) : Obj :=
  mkObj (0x4890 + k) (1) 0x489001 (.u16) .rws (.Q) (10000) (some (5000, 20000)) []

/-- 0x4890 sub 2, I16 RWS (09 R265). 0.1 µV, −10 000 to +10 000 -/
abbrev shuntOffset (k : Nat) : Obj :=
  mkObj (0x4890 + k) (2) 0x489002 (.i16) .rws (.L) (0) (some (-10000, 10000)) []

/-- 0x4890 sub 3, I32 RWS (09 R265). ppm, −50 000 to +50 000 -/
abbrev shuntGainTrim (k : Nat) : Obj :=
  mkObj (0x4890 + k) (3) 0x489003 (.i32) .rws (.L) (0) (some (-50000, 50000)) []

/-- 0x4890 sub 4, U16 RWS (09 R265). 10 µΩ, 50–10 000 -/
abbrev initialResistance (k : Nat) : Obj :=
  mkObj (0x4890 + k) (4) 0x489004 (.u16) .rws (.Q) (600) (some (50, 10000)) []

/-- 0x4890 sub 5, BOOL WO (09 R265). As in R261 -/
abbrev forgetLearned (k : Nat) : Obj :=
  mkObj (0x4890 + k) (5) 0x489005 (.bool) .wo (.L) (0) (none) []

/-- 0x48A0 sub 1, BOOL RO (09 R265). As in R250 -/
abbrev socValid (k : Nat) : Obj :=
  mkObj (0x48A0 + k) (1) 0x48a001 (.bool) .ro (.none) (0) (none) []

/-- 0x48A0 sub 2, U16 RO (09 R265). 0.01%, SoC_k -/
abbrev stateOfCharge (k : Nat) : Obj :=
  mkObj (0x48A0 + k) (2) 0x48a002 (.u16) .ro (.none) (0) (none) []

/-- 0x48A0 sub 3, I16 RO (09 R265). 0.01%, SoC_c, unclamped -/
abbrev chargeSoC (k : Nat) : Obj :=
  mkObj (0x48A0 + k) (3) 0x48a003 (.i16) .ro (.none) (0) (none) []

/-- 0x48A0 sub 4, U16 RO (09 R265). 0.01%, as in R255 -/
abbrev holdupSoC (k : Nat) : Obj :=
  mkObj (0x48A0 + k) (4) 0x48a004 (.u16) .ro (.none) (0) (none) []

/-- 0x48A0 sub 5, I64 RO (09 R265). µAs, Q_int -/
abbrev coulombIntegral (k : Nat) : Obj :=
  mkObj (0x48A0 + k) (5) 0x48a005 (.i64) .ro (.none) (0) (none) []

/-- 0x48A0 sub 6, I64 RO (09 R265). µAs, A_sum -/
abbrev anchorSum (k : Nat) : Obj :=
  mkObj (0x48A0 + k) (6) 0x48a006 (.i64) .ro (.none) (0) (none) []

/-- 0x48A0 sub 7, U32 RO (09 R265). Anchors since power-on -/
abbrev anchorCount (k : Nat) : Obj :=
  mkObj (0x48A0 + k) (7) 0x48a007 (.u32) .ro (.none) (0) (none) []

/-- 0x48A0 sub 8, STAMP RO (09 R265). Stamp of the last anchor -/
abbrev lastAnchorStamp (k : Nat) : Obj :=
  mkObj (0x48A0 + k) (8) 0x48a008 (.stamp) .ro (.none) (0) (none) []

/-- 0x48A0 sub 9, U32 RO (09 R265). mAh, C_L -/
abbrev learnedCapacity (k : Nat) : Obj :=
  mkObj (0x48A0 + k) (9) 0x48a009 (.u32) .ro (.none) (120000) (none) []

/-- 0x48A0 sub 10, U32 RO (09 R265). µΩ, R_s -/
abbrev resistanceInUse (k : Nat) : Obj :=
  mkObj (0x48A0 + k) (10) 0x48a00a (.u32) .ro (.none) (6000) (none) []

/-- 0x48A0 sub 11, U32 RO (09 R265). µΩ, R_25 -/
abbrev resistance25 (k : Nat) : Obj :=
  mkObj (0x48A0 + k) (11) 0x48a00b (.u32) .ro (.none) (6000) (none) []

/-- 0x48A0 sub 12, I32 RO (09 R265). µV, V_p -/
abbrev polarizationVoltage (k : Nat) : Obj :=
  mkObj (0x48A0 + k) (12) 0x48a00c (.i32) .ro (.none) (0) (none) []

/-- 0x48A0 sub 13, U32 RO (09 R265). Since power-on -/
abbrev capacityUpdates (k : Nat) : Obj :=
  mkObj (0x48A0 + k) (13) 0x48a00d (.u32) .ro (.none) (0) (none) []

/-- 0x48A0 sub 14, U32 RO (09 R265). Since power-on -/
abbrev resistanceUpdates (k : Nat) : Obj :=
  mkObj (0x48A0 + k) (14) 0x48a00e (.u32) .ro (.none) (0) (none) []

/-- 0x48A0 sub 15, U32 RO (09 R265). As in R249 -/
abbrev outliers (k : Nat) : Obj :=
  mkObj (0x48A0 + k) (15) 0x48a00f (.u32) .ro (.none) (0) (none) []

/-- 0x48A0 sub 16, U32 RO (09 R265). mAh, Q_u -/
abbrev usableCharge (k : Nat) : Obj :=
  mkObj (0x48A0 + k) (16) 0x48a010 (.u32) .ro (.none) (0) (none) []

/-- 0x48A0 sub 17, U8 RO (09 R265). 0 configured, 1 restored, 2 learned since identification -/
abbrev learnedSource (k : Nat) : Obj :=
  mkObj (0x48A0 + k) (17) 0x48a011 (.u8) .ro (.none) (0) (none) []

/-- 0x48A0 sub 18, BOOL RO (09 R265). As in R255 -/
abbrev disagree (k : Nat) : Obj :=
  mkObj (0x48A0 + k) (18) 0x48a012 (.bool) .ro (.none) (0) (none) []

/-- 0x48A0 sub 19, U32 RO (09 R265). As in R241 -/
abbrev overloads (k : Nat) : Obj :=
  mkObj (0x48A0 + k) (19) 0x48a013 (.u32) .ro (.none) (0) (none) []

/-- 0x48A0 sub 20, U16 RO (09 R265). 0.01%, √P₁₁ -/
abbrev socSigma (k : Nat) : Obj :=
  mkObj (0x48A0 + k) (20) 0x48a014 (.u16) .ro (.none) (1000) (none) []

/-- 0x48B0 sub 1, U32 RO (09 R265). 0.1 s, as in R256 -/
abbrev holdupSeconds : Obj :=
  mkObj (0x48B0) (1) 0x48b001 (.u32) .ro (.none) (4294967295) (none) []

/-- 0x48B0 sub 2, U32 RO (09 R265). W, P_L -/
abbrev holdupLoad : Obj :=
  mkObj (0x48B0) (2) 0x48b002 (.u32) .ro (.none) (0) (none) []

/-- 0x48B0 sub 3, U32 RO (09 R265). Since power-on -/
abbrev writeBacks : Obj :=
  mkObj (0x48B0) (3) 0x48b003 (.u32) .ro (.none) (0) (none) []

/-- 0x48B0 sub 4, U32 RO (09 R265). As in R260 -/
abbrev writeBacksDeferred : Obj :=
  mkObj (0x48B0) (4) 0x48b004 (.u32) .ro (.none) (0) (none) []

/-- 0x48C0 sub 1, DOMAIN RO (09 R265). Slot A, layout as in R257 -/
abbrev recordA (k : Nat) : Obj :=
  mkObj (0x48C0 + k) (1) 0x48c001 (.dom 64) .ro (.none) (0) (none) []

/-- 0x48C0 sub 2, DOMAIN RO (09 R265). Slot B, layout as in R257 -/
abbrev recordB (k : Nat) : Obj :=
  mkObj (0x48C0 + k) (2) 0x48c002 (.dom 64) .ro (.none) (0) (none) []

/-- 0x48C0 sub 3, U8 RO (09 R265). 0 A, 1 B, 0xFF none valid -/
abbrev newestSlot (k : Nat) : Obj :=
  mkObj (0x48C0 + k) (3) 0x48c003 (.u8) .ro (.none) (255) (none) []

/-- 0x2100 sub 1, BOOL RWS (10 R285). 1 runs the states of R266; a write of 0 is refused as R284 states -/
abbrev holdupEnable : Obj :=
  mkObj (0x2100) (1) 0x210001 (.bool) .rws (.L) (0) (none) []

/-- 0x2100 sub 2, BOOL RWS (10 R285). Hold-up early start allowed -/
abbrev holdupEsEnable : Obj :=
  mkObj (0x2100) (2) 0x210002 (.bool) .rws (.L) (0) (none) []

/-- 0x2100 sub 3, U16 RWS (10 R285). au, 1024–32 768 -/
abbrev confirmAngle : Obj :=
  mkObj (0x2100) (3) 0x210003 (.u16) .rws (.L) (8192) (some (1024, 32768)) []

/-- 0x2100 sub 4, U16 RWS (10 R285). mV, 34 000–53 000 -/
abbrev holdupThreshold : Obj :=
  mkObj (0x2100) (4) 0x210004 (.u16) .rws (.L) (50000) (some (34000, 53000)) []

/-- 0x2100 sub 5, U8 RWS (10 R285). Consecutive SV9 samples, 1–64 -/
abbrev holdupSamples : Obj :=
  mkObj (0x2100) (5) 0x210005 (.u8) .rws (.L) (8) (some (1, 64)) []

/-- 0x2100 sub 6, U16 RWS (10 R285). mV, 200–5000 -/
abbrev armHysteresis : Obj :=
  mkObj (0x2100) (6) 0x210006 (.u16) .rws (.L) (1000) (some (200, 5000)) []

/-- 0x2100 sub 7, Q15 RWS (10 R285). Fraction (0.5) -/
abbrev preloadFrac : Obj :=
  mkObj (0x2100) (7) 0x210007 (.q15) .rws (.L) (16384) (none) []

/-- 0x2100 sub 8, U16 RWS (10 R285). mV of bus, 0–20 000 -/
abbrev preloadMax : Obj :=
  mkObj (0x2100) (8) 0x210008 (.u16) .rws (.L) (8000) (some (0, 20000)) []

/-- 0x2100 sub 9, U16 RWS (10 R285). µs, 10–10 000 -/
abbrev preloadRelease : Obj :=
  mkObj (0x2100) (9) 0x210009 (.u16) .rws (.L) (200) (some (10, 10000)) []

/-- 0x2100 sub 10, U8 RWS (10 R285). Q, laps, 2–255 -/
abbrev returnQualLaps : Obj :=
  mkObj (0x2100) (10) 0x21000a (.u8) .rws (.L) (10) (some (2, 255)) []

/-- 0x2100 sub 11, U16 RWS (10 R285). mV, 0–3000 -/
abbrev returnLift : Obj :=
  mkObj (0x2100) (11) 0x21000b (.u16) .rws (.L) (500) (some (0, 3000)) []

/-- 0x2100 sub 12, U8 RWS (10 R285). Laps between restarts per group, 1–64 -/
abbrev returnStagger : Obj :=
  mkObj (0x2100) (12) 0x21000c (.u8) .rws (.L) (1) (some (1, 64)) []

/-- 0x2100 sub 13, U16 RWS (10 R285). Laps, 50–10 000 -/
abbrev returnLaps : Obj :=
  mkObj (0x2100) (13) 0x21000d (.u16) .rws (.L) (500) (some (50, 10000)) []

/-- 0x2100 sub 14, U16 RWS (10 R285). 0.1 s, 0–65 535 -/
abbrev holdupTarget : Obj :=
  mkObj (0x2100) (14) 0x21000e (.u16) .rws (.L) (900) (some (0, 65535)) []

/-- 0x2101 sub 1, U8 RO (10 R285). As in R266 -/
abbrev holdupState : Obj :=
  mkObj (0x2101) (1) 0x210101 (.u8) .ro (.none) (0) (none) []

/-- 0x2101 sub 2, U8 RO (10 R285). 0 rectifiers, 1 strings -/
abbrev batonHolder : Obj :=
  mkObj (0x2101) (2) 0x210102 (.u8) .ro (.none) (0) (none) []

/-- 0x2101 sub 3, U8 RO (10 R285). b0 confirmation angle, b1 line lost, b2 bus -/
abbrev entryCause : Obj :=
  mkObj (0x2101) (3) 0x210103 (.u8) .ro (.none) (0) (none) []

/-- 0x2101 sub 4, STAMP RO (10 R285). First sample of the DEV_START; 0 if none -/
abbrev deviationStamp : Obj :=
  mkObj (0x2101) (4) 0x210104 (.stamp) .ro (.none) (0) (none) []

/-- 0x2101 sub 5, STAMP RO (10 R285). 0 if no early start was made -/
abbrev earlyStartStamp : Obj :=
  mkObj (0x2101) (5) 0x210105 (.stamp) .ro (.none) (0) (none) []

/-- 0x2101 sub 6, STAMP RO (10 R285). Confirmation stamp, which is the ruling stamp of a clean start -/
abbrev entryStamp : Obj :=
  mkObj (0x2101) (6) 0x210106 (.stamp) .ro (.none) (0) (none) []

/-- 0x2101 sub 7, U32 RO (10 R285). 0.1 s, as in R274 -/
abbrev holdupBudget : Obj :=
  mkObj (0x2101) (7) 0x210107 (.u32) .ro (.none) (0) (none) []

/-- 0x2101 sub 8, STAMP RO (10 R285). Last return commit -/
abbrev returnStamp : Obj :=
  mkObj (0x2101) (8) 0x210108 (.stamp) .ro (.none) (0) (none) []

/-- 0x2101 sub 9, STAMP RO (10 R285). Last completion -/
abbrev exitStamp : Obj :=
  mkObj (0x2101) (9) 0x210109 (.stamp) .ro (.none) (0) (none) []

/-- 0x2101 sub 10, BOOL RO (10 R285). As in R269 -/
abbrev busArmed : Obj :=
  mkObj (0x2101) (10) 0x21010a (.bool) .ro (.none) (0) (none) []

/-- 0x2101 sub 11, U32 RO (10 R285). Laps since the last entry to HOLDUP or return commit, saturating -/
abbrev lapsSinceChange : Obj :=
  mkObj (0x2101) (11) 0x21010b (.u32) .ro (.none) (0) (none) []

/-- 0x2102 sub 1, U32 RO (10 R285). Entries to HOLDUP from NORMAL since power-on -/
abbrev holdups : Obj :=
  mkObj (0x2102) (1) 0x210201 (.u32) .ro (.none) (0) (none) []

/-- 0x2102 sub 2, U32 RO (10 R285). Since power-on -/
abbrev holdupCleanStarts : Obj :=
  mkObj (0x2102) (2) 0x210202 (.u32) .ro (.none) (0) (none) []

/-- 0x2102 sub 3, U32 RO (10 R285). Since power-on -/
abbrev holdupFalseStarts : Obj :=
  mkObj (0x2102) (3) 0x210203 (.u32) .ro (.none) (0) (none) []

/-- 0x2102 sub 4, U32 RO (10 R285). As in R271 -/
abbrev ignoredDeviations : Obj :=
  mkObj (0x2102) (4) 0x210204 (.u32) .ro (.none) (0) (none) []

/-- 0x2102 sub 5, U32 RO (10 R285). Since power-on -/
abbrev returnsCompleted : Obj :=
  mkObj (0x2102) (5) 0x210205 (.u32) .ro (.none) (0) (none) []

/-- 0x2102 sub 6, U32 RO (10 R285). Since power-on -/
abbrev returnsCancelled : Obj :=
  mkObj (0x2102) (6) 0x210206 (.u32) .ro (.none) (0) (none) []

/-- 0x2102 sub 7, U32 RO (10 R285). Since power-on -/
abbrev returnsTimedOut : Obj :=
  mkObj (0x2102) (7) 0x210207 (.u32) .ro (.none) (0) (none) []

/-- 0x2102 sub 8, U32 RO (10 R285). DEV_END without confirmation and without an early start -/
abbrev rideThroughs : Obj :=
  mkObj (0x2102) (8) 0x210208 (.u32) .ro (.none) (0) (none) []

/-- 0x8000 sub 1, U8 RO (10 R286). 0 none, 1 unruled -/
abbrev holdupEsState : Obj :=
  mkObj (0x8000) (1) 0x800001 (.u8) .ro (.none) (0) (none) []

/-- 0x8000 sub 2, U16 RO (10 R286). Bit k: step early start of Fk unruled -/
abbrev stepEsMask : Obj :=
  mkObj (0x8000) (2) 0x800002 (.u16) .ro (.none) (0) (none) []

/-- 0x8010 sub 1, STAMP RO (10 R286). Early-start stamp -/
abbrev specEarlyStartStamp : Obj :=
  mkObj (0x8010) (1) 0x801001 (.stamp) .ro (.none) (0) (none) []

/-- 0x8010 sub 2, STAMP RO (10 R286). First sample of the DEV_START -/
abbrev specDeviationStamp : Obj :=
  mkObj (0x8010) (2) 0x801002 (.stamp) .ro (.none) (0) (none) []

/-- 0x8010 sub 3, STAMP RO (10 R286). Stamp at which ConfirmAngle passes -/
abbrev specConfirmStamp : Obj :=
  mkObj (0x8010) (3) 0x801003 (.stamp) .ro (.none) (0) (none) []

/-- 0x8010 sub 4, U32 RO (10 R286). 0.1 s, reserved budget -/
abbrev specBudget : Obj :=
  mkObj (0x8010) (4) 0x801004 (.u32) .ro (.none) (0) (none) []

/-- 0x8010 sub 5, U32 RO (10 R286). mV, V_sag -/
abbrev specSagVoltage : Obj :=
  mkObj (0x8010) (5) 0x801005 (.u32) .ro (.none) (0) (none) []

/-- 0x8010 sub 6, U16 RO (10 R286). mV, ΔV_pre -/
abbrev specPreload : Obj :=
  mkObj (0x8010) (6) 0x801006 (.u16) .ro (.none) (0) (none) []

/-- 0x5000 sub 1, U16 RWS (11 R314). 1–0xFFFF; Q with CreditEnable as the block enable -/
abbrev shelfId : Obj :=
  mkObj (0x5000) (1) 0x500001 (.u16) .rws (.Q) (0) (some (1, 65535)) []

/-- 0x5000 sub 2, BOOL RWS (11 R314). Enforcement and new transfers -/
abbrev creditEnable : Obj :=
  mkObj (0x5000) (2) 0x500002 (.bool) .rws (.L) (0) (none) []

/-- 0x5000 sub 3, U8 RWS (11 R314). laps, 1–255 -/
abbrev creditRetryLaps : Obj :=
  mkObj (0x5000) (3) 0x500003 (.u8) .rws (.L) (5) (some (1, 255)) []

/-- 0x5000 sub 4, U16 RWS (11 R314). laps, 100–65 535 -/
abbrev creditStaleLaps : Obj :=
  mkObj (0x5000) (4) 0x500004 (.u16) .rws (.L) (3000) (some (100, 65535)) []

/-- 0x5000 sub 5, U32 RWS (11 R314). credits, 1–130 000 -/
abbrev maxTransfer : Obj :=
  mkObj (0x5000) (5) 0x500005 (.u32) .rws (.L) (20000) (some (1, 130000)) []

/-- 0x5000 sub 6, BOOL RWS (11 R314). Incoming offers allowed -/
abbrev acceptEnable : Obj :=
  mkObj (0x5000) (6) 0x500006 (.bool) .rws (.L) (1) (none) []

/-- 0x5000 sub 7, Q15 RWS (11 R314). η_f (0.97), 0.5–1 -/
abbrev feedEfficiency : Obj :=
  mkObj (0x5000) (7) 0x500007 (.q15) .rws (.L) (31785) (some (16384, 32767)) []

/-- 0x5000 sub 8, U16 RWS (11 R314). credits, 0–15 000 -/
abbrev chargeReservePerString : Obj :=
  mkObj (0x5000) (8) 0x500008 (.u16) .rws (.L) (3000) (some (0, 15000)) []

/-- 0x5001 sub 1, U32 RO (11 R314). credits, A -/
abbrev allotment : Obj :=
  mkObj (0x5001) (1) 0x500101 (.u32) .ro (.none) (0) (none) []

/-- 0x5001 sub 2, U32 RO (11 R314). credits -/
abbrev creditPool : Obj :=
  mkObj (0x5001) (2) 0x500102 (.u32) .ro (.none) (0) (none) []

/-- 0x5001 sub 3, U32 RO (11 R314). credits, R_c -/
abbrev chargingReserve : Obj :=
  mkObj (0x5001) (3) 0x500103 (.u32) .ro (.none) (0) (none) []

/-- 0x5001 sub 4, U32 RO (11 R314). credits, R_h -/
abbrev holdupReserve : Obj :=
  mkObj (0x5001) (4) 0x500104 (.u32) .ro (.none) (0) (none) []

/-- 0x5001 sub 5, U32 RO (11 R314). credits -/
abbrev escrowOut : Obj :=
  mkObj (0x5001) (5) 0x500105 (.u32) .ro (.none) (0) (none) []

/-- 0x5001 sub 6, U32 RO (11 R314). credits -/
abbrev escrowIn : Obj :=
  mkObj (0x5001) (6) 0x500106 (.u32) .ro (.none) (0) (none) []

/-- 0x5001 sub 7, BOOL RO (11 R314). As in R291 -/
abbrev ledgerFrozen : Obj :=
  mkObj (0x5001) (7) 0x500107 (.bool) .ro (.none) (0) (none) []

/-- 0x5001 sub 8, STAMP RO (11 R314). Stamp of the last commit -/
abbrev creditLastCommitStamp : Obj :=
  mkObj (0x5001) (8) 0x500108 (.stamp) .ro (.none) (0) (none) []

/-- 0x5001 sub 9, U32 RO (11 R314). credits, H* -/
abbrev holdupReserveTarget : Obj :=
  mkObj (0x5001) (9) 0x500109 (.u32) .ro (.none) (0) (none) []

/-- 0x5001 sub 10, U32 RO (11 R314). credits -/
abbrev holdupReserveShortfall : Obj :=
  mkObj (0x5001) (10) 0x50010a (.u32) .ro (.none) (0) (none) []

/-- 0x5001 sub 11, U32 RO (11 R314). credits -/
abbrev chargeReserveTarget : Obj :=
  mkObj (0x5001) (11) 0x50010b (.u32) .ro (.none) (0) (none) []

/-- 0x5002 sub 1, U32 RO (11 R314). Settle commits since power-on -/
abbrev transfersOut : Obj :=
  mkObj (0x5002) (1) 0x500201 (.u32) .ro (.none) (0) (none) []

/-- 0x5002 sub 2, U32 RO (11 R314). Release commits since power-on -/
abbrev transfersIn : Obj :=
  mkObj (0x5002) (2) 0x500202 (.u32) .ro (.none) (0) (none) []

/-- 0x5002 sub 3, U32 RO (11 R314). Giver refusals since power-on -/
abbrev refusedOut : Obj :=
  mkObj (0x5002) (3) 0x500203 (.u32) .ro (.none) (0) (none) []

/-- 0x5002 sub 4, U64 RO (11 R314). credits -/
abbrev refusedOutCredits : Obj :=
  mkObj (0x5002) (4) 0x500204 (.u64) .ro (.none) (0) (none) []

/-- 0x5002 sub 5, U32 RO (11 R314). Taker refusals since power-on -/
abbrev refusedIn : Obj :=
  mkObj (0x5002) (5) 0x500205 (.u32) .ro (.none) (0) (none) []

/-- 0x5002 sub 6, U64 RO (11 R314). credits -/
abbrev refusedInCredits : Obj :=
  mkObj (0x5002) (6) 0x500206 (.u64) .ro (.none) (0) (none) []

/-- 0x5002 sub 7, I64 RO (11 R314). credits, sum of adjustments and resolutions, stored -/
abbrev adjustedTotal : Obj :=
  mkObj (0x5002) (7) 0x500207 (.i64) .ro (.none) (0) (none) []

/-- 0x5002 sub 8, U32 RO (11 R314). As in R301 -/
abbrev duplicatesAnswered : Obj :=
  mkObj (0x5002) (8) 0x500208 (.u32) .ro (.none) (0) (none) []

/-- 0x5002 sub 9, U32 RO (11 R314). As in R303 -/
abbrev staleTransfers : Obj :=
  mkObj (0x5002) (9) 0x500209 (.u32) .ro (.none) (0) (none) []

/-- 0x5002 sub 10, U32 RO (11 R314). As in R298 -/
abbrev badMessages : Obj :=
  mkObj (0x5002) (10) 0x50020a (.u32) .ro (.none) (0) (none) []

/-- 0x5003 sub 0, DOMAIN WO (11 R314). 8 B: peer ShelfId U16, reserved U16, amount U32 -/
abbrev transferOffer : Obj :=
  mkObj (0x5003) (0) 0x500300 (.dom 8) .wo (.L) (0) (none) []

/-- 0x5004 sub 0, U64 RO (11 R314). ID of the last offer commit -/
abbrev lastOfferId : Obj :=
  mkObj (0x5004) (0) 0x500400 (.u64) .ro (.none) (0) (none) []

/-- 0x5005 sub 0, U64 WO (11 R314). ID -/
abbrev transferWithdraw : Obj :=
  mkObj (0x5005) (0) 0x500500 (.u64) .wo (.L) (0) (none) []

/-- 0x5006 sub 0, DOMAIN WO (11 R314). 12 B: ID U64, action U8 (0 RETURN, 1 SETTLE, 2 RELEASE, 3 DROP), reserved 3 B -/
abbrev escrowResolve : Obj :=
  mkObj (0x5006) (0) 0x500600 (.dom 12) .wo (.L) (0) (none) []

/-- 0x5007 sub 0, I32 WO (11 R314). credits, as in R306 -/
abbrev ledgerAdjust : Obj :=
  mkObj (0x5007) (0) 0x500700 (.i32) .wo (.L) (0) (none) []

/-- 0x5008 sub 0, BOOL WO (11 R314). As in R291 -/
abbrev ledgerAck : Obj :=
  mkObj (0x5008) (0) 0x500800 (.bool) .wo (.L) (0) (none) []

/-- 0x5010 sub 1, U32 RWS (11 R314). credits, 0–130 000 -/
abbrev grantRequest (k : Nat) : Obj :=
  mkObj (0x5010 + k) (1) 0x501001 (.u32) .rws (.L) (0) (some (0, 130000)) []

/-- 0x5010 sub 2, U32 RO (11 R314). credits, G_k -/
abbrev grant (k : Nat) : Obj :=
  mkObj (0x5010 + k) (2) 0x501002 (.u32) .ro (.none) (0) (none) []

/-- 0x5010 sub 3, U32 RWS (11 R314). credits, 0–130 000 -/
abbrev grantMax (k : Nat) : Obj :=
  mkObj (0x5010 + k) (3) 0x501003 (.u32) .rws (.L) (130000) (some (0, 130000)) []

/-- 0x5010 sub 4, U32 RO (11 R314). credits; 0xFFFF_FFFF unlimited -/
abbrev capacityCeiling (k : Nat) : Obj :=
  mkObj (0x5010 + k) (4) 0x501004 (.u32) .ro (.none) (4294967295) (none) []

/-- 0x5010 sub 5, U8 RO (11 R314). As in R308 -/
abbrev enforceState (k : Nat) : Obj :=
  mkObj (0x5010 + k) (5) 0x501005 (.u8) .ro (.none) (0) (none) []

/-- 0x5010 sub 6, U8 RO (11 R314). laps -/
abbrev graceLeft (k : Nat) : Obj :=
  mkObj (0x5010 + k) (6) 0x501006 (.u8) .ro (.none) (0) (none) []

/-- 0x5010 sub 7, U16 RO (11 R314). 0.1 A per feed; 0xFFFF none -/
abbrev capInForce (k : Nat) : Obj :=
  mkObj (0x5010 + k) (7) 0x501007 (.u16) .ro (.none) (65535) (none) []

/-- 0x5010 sub 8, U32 RO (11 R314). Since power-on -/
abbrev overrunLaps (k : Nat) : Obj :=
  mkObj (0x5010 + k) (8) 0x501008 (.u32) .ro (.none) (0) (none) []

/-- 0x5010 sub 9, U32 RO (11 R314). W, P_k of the last split -/
abbrev lapPower (k : Nat) : Obj :=
  mkObj (0x5010 + k) (9) 0x501009 (.u32) .ro (.none) (0) (none) []

/-- 0x5010 sub 10, U32 RO (11 R314). credits requested and not served -/
abbrev grantShortfall (k : Nat) : Obj :=
  mkObj (0x5010 + k) (10) 0x50100a (.u32) .ro (.none) (0) (none) []

/-- 0x5020 sub 1, Q15 RWS (11 R314). 0.02, 0–0.25 -/
abbrev overrunTol : Obj :=
  mkObj (0x5020) (1) 0x502001 (.q15) .rws (.L) (655) (some (0, 8192)) []

/-- 0x5020 sub 2, U8 RWS (11 R314). laps, 1–64 -/
abbrev graceLaps : Obj :=
  mkObj (0x5020) (2) 0x502002 (.u8) .rws (.L) (8) (some (1, 64)) []

/-- 0x5020 sub 3, Q15 RWS (11 R314). 0.05, 0–0.25 -/
abbrev capMargin : Obj :=
  mkObj (0x5020) (3) 0x502003 (.q15) .rws (.L) (1638) (some (0, 8192)) []

/-- 0x5020 sub 4, U8 RWS (11 R314). laps, 1–64 -/
abbrev clearLaps : Obj :=
  mkObj (0x5020) (4) 0x502004 (.u8) .rws (.L) (4) (some (1, 64)) []

/-- 0x5020 sub 5, U8 RWS (11 R314). laps, 1–255 -/
abbrev faultLaps : Obj :=
  mkObj (0x5020) (5) 0x502005 (.u8) .rws (.L) (16) (some (1, 255)) []

/-- 0x5030 sub 0, DOMAIN RO (11 R314). 64 records as in R304 -/
abbrev transferTable : Obj :=
  mkObj (0x5030) (0) 0x503000 (.dom 2048) .ro (.none) (0) (none) []

/-- 0x5031 sub 0, DOMAIN RO (11 R314). 16 × (ShelfId U16, reserved U16, floor U64) -/
abbrev peerFloors : Obj :=
  mkObj (0x5031) (0) 0x503100 (.dom 192) .ro (.none) (0) (none) []

/-- 0x5040 sub 1, DOMAIN RO (11 R314). As in R289 -/
abbrev ledgerRecordA : Obj :=
  mkObj (0x5040) (1) 0x504001 (.dom 128) .ro (.none) (0) (none) []

/-- 0x5040 sub 2, DOMAIN RO (11 R314). As in R289 -/
abbrev ledgerRecordB : Obj :=
  mkObj (0x5040) (2) 0x504002 (.dom 128) .ro (.none) (0) (none) []

/-- 0x5050 sub 1, U16 RWS (11 R314). 0 unused; 1–0xFFFF -/
abbrev peerShelfId (k : Nat) : Obj :=
  mkObj (0x5050 + k) (1) 0x505001 (.u16) .rws (.Q) (0) (some (0, 65535)) []

/-- 0x5800 sub 1, BOOL RWS (12 R340). 1 power-up, 0 power-down (R322, R323) -/
abbrev seqEnable : Obj :=
  mkObj (0x5800) (1) 0x580001 (.bool) .rws (.L) (0) (none) []

/-- 0x5800 sub 2, U8 RWS (12 R340). 0–7 -/
abbrev subtreeRetries : Obj :=
  mkObj (0x5800) (2) 0x580002 (.u8) .rws (.L) (2) (some (0, 7)) []

/-- 0x5800 sub 3, U8 RWS (12 R340). 0–3 -/
abbrev sequenceRetries : Obj :=
  mkObj (0x5800) (3) 0x580003 (.u8) .rws (.L) (1) (some (0, 3)) []

/-- 0x5800 sub 4, U16 RWS (12 R340). ms, 10–10 000 -/
abbrev retryDelay : Obj :=
  mkObj (0x5800) (4) 0x580004 (.u16) .rws (.L) (100) (some (10, 10000)) []

/-- 0x5800 sub 5, U16 RWS (12 R340). ms, 10–10 000 -/
abbrev seqRetryDelay : Obj :=
  mkObj (0x5800) (5) 0x580005 (.u16) .rws (.L) (1000) (some (10, 10000)) []

/-- 0x5800 sub 6, U16 RWS (12 R340). s, 1–3600 -/
abbrev seqRetryReset : Obj :=
  mkObj (0x5800) (6) 0x580006 (.u16) .rws (.L) (60) (some (1, 3600)) []

/-- 0x5800 sub 7, BOOL WO (12 R340). As in R325 -/
abbrev seqAck : Obj :=
  mkObj (0x5800) (7) 0x580007 (.bool) .wo (.L) (0) (none) []

/-- 0x5801 sub 1, U8 RO (12 R340). 0 OFF, 1 POWERING_UP, 2 UP, 3 RECOVERING, 4 SEQ_RETRY, 5 POWERING_DOWN, 6 SHARED_SHUTDOWN, 7 SHARED_WAIT, 8 LATCHED -/
abbrev seqState : Obj :=
  mkObj (0x5801) (1) 0x580101 (.u8) .ro (.none) (0) (none) []

/-- 0x5801 sub 2, BOOL RO (12 R340). As in R330 -/
abbrev seqRetrying : Obj :=
  mkObj (0x5801) (2) 0x580102 (.bool) .ro (.none) (0) (none) []

/-- 0x5801 sub 3, U8 RO (12 R340). As in R325 -/
abbrev sequenceRetryCount : Obj :=
  mkObj (0x5801) (3) 0x580103 (.u8) .ro (.none) (0) (none) []

/-- 0x5801 sub 4, U32 RO (12 R340). ms, W of R330 -/
abbrev worstRecovery : Obj :=
  mkObj (0x5801) (4) 0x580104 (.u32) .ro (.none) (0) (none) []

/-- 0x5801 sub 5, BOOL RO (12 R340). Deglitched level, 1 high -/
abbrev seqFltLine : Obj :=
  mkObj (0x5801) (5) 0x580105 (.bool) .ro (.none) (1) (none) []

/-- 0x5801 sub 6, BOOL RO (12 R340). Controller pulls the line low -/
abbrev seqFltDriving : Obj :=
  mkObj (0x5801) (6) 0x580106 (.bool) .ro (.none) (0) (none) []

/-- 0x5801 sub 7, U32 RO (12 R340). Since power-on -/
abbrev sharedShutdowns : Obj :=
  mkObj (0x5801) (7) 0x580107 (.u32) .ro (.none) (0) (none) []

/-- 0x5801 sub 8, U32 RO (12 R340). Since power-on -/
abbrev dischargeTimeouts : Obj :=
  mkObj (0x5801) (8) 0x580108 (.u32) .ro (.none) (0) (none) []

/-- 0x5801 sub 9, U32 RO (12 R340). Since power-on -/
abbrev downFailures : Obj :=
  mkObj (0x5801) (9) 0x580109 (.u32) .ro (.none) (0) (none) []

/-- 0x5801 sub 10, U32 RO (12 R340). Since power-on -/
abbrev latches : Obj :=
  mkObj (0x5801) (10) 0x58010a (.u32) .ro (.none) (0) (none) []

/-- 0x5801 sub 11, U8 RO (12 R340). Rail number; 0xFF none -/
abbrev lastFailRail : Obj :=
  mkObj (0x5801) (11) 0x58010b (.u8) .ro (.none) (255) (none) []

/-- 0x5801 sub 12, U32 RO (12 R340). Since power-on -/
abbrev snapshots : Obj :=
  mkObj (0x5801) (12) 0x58010c (.u32) .ro (.none) (0) (none) []

/-- 0x5802 sub 1, BOOL RWS (12 R340). Participant on SEQ_FLT_N -/
abbrev seqFltEnable : Obj :=
  mkObj (0x5802) (1) 0x580201 (.bool) .rws (.Q) (0) (none) []

/-- 0x5802 sub 2, U8 RWS (12 R340). As in R333 -/
abbrev seqFltMode : Obj :=
  mkObj (0x5802) (2) 0x580202 (.u8) .rws (.L) (3) (none) []

/-- 0x5802 sub 3, U8 RWS (12 R340). µs, 1–255 -/
abbrev seqFltDeglitch : Obj :=
  mkObj (0x5802) (3) 0x580203 (.u8) .rws (.L) (10) (some (1, 255)) []

/-- 0x5802 sub 4, U16 RWS (12 R340). ms, 1–10 000 -/
abbrev seqFltRelease : Obj :=
  mkObj (0x5802) (4) 0x580204 (.u16) .rws (.L) (500) (some (1, 10000)) []

/-- 0x5802 sub 5, U8 RWS (12 R340). 0 on host write, 1 automatic -/
abbrev seqFltRestart : Obj :=
  mkObj (0x5802) (5) 0x580205 (.u8) .rws (.L) (1) (some (0, 1)) []

/-- 0x5802 sub 6, U16 RWS (12 R340). s, 1–3600 -/
abbrev seqFltStuckTime : Obj :=
  mkObj (0x5802) (6) 0x580206 (.u16) .rws (.L) (60) (some (1, 3600)) []

/-- 0x5810 sub 1, U8 RWS (12 R340). 0 unused, 1 pin, 2 feed -/
abbrev railKind (k : Nat) : Obj :=
  mkObj (0x5810 + k) (1) 0x581001 (.u8) .rws (.Q) (0) (some (0, 2)) []

/-- 0x5810 sub 2, U8 RWS (12 R340). 0–15, for kind 2 -/
abbrev feedNumber (k : Nat) : Obj :=
  mkObj (0x5810 + k) (2) 0x581002 (.u8) .rws (.Q) (0) (some (0, 15)) []

/-- 0x5810 sub 3, U32 RWS (12 R340). Four bytes, rail or 0xFF (R317) -/
abbrev predecessors (k : Nat) : Obj :=
  mkObj (0x5810 + k) (3) 0x581003 (.u32) .rws (.Q) (4294967295) (none) []

/-- 0x5810 sub 4, U8 RWS (12 R340). µs, 1–255 -/
abbrev pgDeglitch (k : Nat) : Obj :=
  mkObj (0x5810 + k) (4) 0x581004 (.u8) .rws (.L) (20) (some (1, 255)) []

/-- 0x5810 sub 5, U16 RWS (12 R340). 0.1 ms, 1–1000 -/
abbrev qualTime (k : Nat) : Obj :=
  mkObj (0x5810 + k) (5) 0x581005 (.u16) .rws (.L) (50) (some (1, 1000)) []

/-- 0x5810 sub 6, U8 RWS (12 R340). 1–15 -/
abbrev chatterLimit (k : Nat) : Obj :=
  mkObj (0x5810 + k) (6) 0x581006 (.u8) .rws (.L) (3) (some (1, 15)) []

/-- 0x5810 sub 7, U16 RWS (12 R340). ms, 1–60 000; above QualTime; R329 -/
abbrev pgTimeout (k : Nat) : Obj :=
  mkObj (0x5810 + k) (7) 0x581007 (.u16) .rws (.L) (250) (some (1, 60000)) []

/-- 0x5810 sub 8, U16 RWS (12 R340). ms, 0–1000 -/
abbrev startDelay (k : Nat) : Obj :=
  mkObj (0x5810 + k) (8) 0x581008 (.u16) .rws (.L) (0) (some (0, 1000)) []

/-- 0x5810 sub 9, U16 RWS (12 R340). ms, 0–1000 -/
abbrev stopDelay (k : Nat) : Obj :=
  mkObj (0x5810 + k) (9) 0x581009 (.u16) .rws (.L) (0) (some (0, 1000)) []

/-- 0x5810 sub 10, U16 RWS (12 R340). ms, 1–2000 -/
abbrev dischargeTimeout (k : Nat) : Obj :=
  mkObj (0x5810 + k) (10) 0x58100a (.u16) .rws (.L) (100) (some (1, 2000)) []

/-- 0x5810 sub 11, BOOL RWS (12 R340). 0 high is good, 1 low is good -/
abbrev pgPolarity (k : Nat) : Obj :=
  mkObj (0x5810 + k) (11) 0x58100b (.bool) .rws (.Q) (0) (none) []

/-- 0x5840 sub 1, U8 RO (12 R340). As in R321 -/
abbrev railState (k : Nat) : Obj :=
  mkObj (0x5840 + k) (1) 0x584001 (.u8) .ro (.none) (8) (none) []

/-- 0x5840 sub 2, U8 RO (12 R340). b0 PG timeout, b1 chatter, b2 PG lost, b3 source latched, b4 discharge timeout, b5 during power-down -/
abbrev railFailCause (k : Nat) : Obj :=
  mkObj (0x5840 + k) (2) 0x584002 (.u8) .ro (.none) (0) (none) []

/-- 0x5840 sub 3, U8 RO (12 R340). As in R319 -/
abbrev chatterCount (k : Nat) : Obj :=
  mkObj (0x5840 + k) (3) 0x584003 (.u8) .ro (.none) (0) (none) []

/-- 0x5840 sub 4, U8 RO (12 R340). As in R325 -/
abbrev subtreeRetryCount (k : Nat) : Obj :=
  mkObj (0x5840 + k) (4) 0x584004 (.u8) .ro (.none) (0) (none) []

/-- 0x5840 sub 5, U32 RO (12 R340). Since power-on -/
abbrev railFailures (k : Nat) : Obj :=
  mkObj (0x5840 + k) (5) 0x584005 (.u32) .ro (.none) (0) (none) []

/-- 0x5840 sub 6, STAMP RO (12 R340). Entry to the present state -/
abbrev railStateStamp (k : Nat) : Obj :=
  mkObj (0x5840 + k) (6) 0x584006 (.stamp) .ro (.none) (0) (none) []

/-- 0x5840 sub 7, BOOL RO (12 R340). Deglitched power-good -/
abbrev pgLevel (k : Nat) : Obj :=
  mkObj (0x5840 + k) (7) 0x584007 (.bool) .ro (.none) (0) (none) []

/-- 0x5840 sub 8, BOOL RO (12 R340). As in R316 -/
abbrev sourceRetrying (k : Nat) : Obj :=
  mkObj (0x5840 + k) (8) 0x584008 (.bool) .ro (.none) (0) (none) []

/-- 0x5880 sub 1, U32 RWS (12 R340). Bit r: rail r must be UP; b31..b24 reserved -/
abbrev rstMask (k : Nat) : Obj :=
  mkObj (0x5880 + k) (1) 0x588001 (.u32) .rws (.L) (0) (none) []

/-- 0x5880 sub 2, U16 RWS (12 R340). ms, 1–1000 -/
abbrev rstStretch (k : Nat) : Obj :=
  mkObj (0x5880 + k) (2) 0x588002 (.u16) .rws (.L) (100) (some (1, 1000)) []

/-- 0x5880 sub 3, BOOL RO (12 R340). 1 asserted -/
abbrev rstAsserted (k : Nat) : Obj :=
  mkObj (0x5880 + k) (3) 0x588003 (.bool) .ro (.none) (1) (none) []

/-- 0x6800 sub 1, BOOL RWS (13 R354). As in R351 -/
abbrev routerEnable : Obj :=
  mkObj (0x6800) (1) 0x680001 (.bool) .rws (.L) (0) (none) []

/-- 0x6800 sub 2, U16 RWS (13 R354). µs, 1–65 535 -/
abbrev evoWidth : Obj :=
  mkObj (0x6800) (2) 0x680002 (.u16) .rws (.L) (10) (some (1, 65535)) []

/-- 0x6810 sub 1, BOOL RWS (13 R354). As in R344 -/
abbrev unitEnable (k : Nat) : Obj :=
  mkObj (0x6810 + k) (1) 0x681001 (.bool) .rws (.L) (0) (none) []

/-- 0x6810 sub 2, U8 RWS (13 R354). As in R341; 0xFF none -/
abbrev input (k : Nat) : Obj :=
  mkObj (0x6810 + k) (2) 0x681002 (.u8) .rws (.Q) (255) (none) []

/-- 0x6810 sub 3, U8 RWS (13 R354). As in R342 -/
abbrev mode (k : Nat) : Obj :=
  mkObj (0x6810 + k) (3) 0x681003 (.u8) .rws (if k < 8 then .Q else .L) (1) (none) []

/-- 0x6810 sub 4, U16 RWS (13 R354). DAC code, 0–1023 -/
abbrev threshLo (k : Nat) : Obj :=
  mkObj (0x6810 + k) (4) 0x681004 (.u16) .rws (if k < 8 then .Q else .L) (0) (some (0, 1023)) []

/-- 0x6810 sub 5, U16 RWS (13 R354). DAC code, 0–1023 -/
abbrev threshHi (k : Nat) : Obj :=
  mkObj (0x6810 + k) (5) 0x681005 (.u16) .rws (if k < 8 then .Q else .L) (1023) (some (0, 1023)) []

/-- 0x6810 sub 6, U8 RWS (13 R354). As in R343 -/
abbrev tickSource (k : Nat) : Obj :=
  mkObj (0x6810 + k) (6) 0x681006 (.u8) .rws (.Q) (16) (none) []

/-- 0x6810 sub 7, U8 RWS (13 R354). Decisions, 1–15 -/
abbrev persist (k : Nat) : Obj :=
  mkObj (0x6810 + k) (7) 0x681007 (.u8) .rws (.L) (1) (some (1, 15)) []

/-- 0x6810 sub 8, BOOL RWS (13 R354). 1 holds the router source at 0 -/
abbrev routeHold (k : Nat) : Obj :=
  mkObj (0x6810 + k) (8) 0x681008 (.bool) .rws (.L) (0) (none) []

/-- 0x6810 sub 9, BOOL RO (13 R354). Latched output -/
abbrev output (k : Nat) : Obj :=
  mkObj (0x6810 + k) (9) 0x681009 (.bool) .ro (.none) (0) (none) []

/-- 0x6810 sub 10, BOOL WO (13 R354). Writing 1 clears, as in R344 -/
abbrev clear (k : Nat) : Obj :=
  mkObj (0x6810 + k) (10) 0x68100a (.bool) .wo (.L) (0) (none) []

/-- 0x6810 sub 11, U32 RO (13 R354). Since power-on -/
abbrev trips (k : Nat) : Obj :=
  mkObj (0x6810 + k) (11) 0x68100b (.u32) .ro (.none) (0) (none) []

/-- 0x6810 sub 12, STAMP RO (13 R354). Last change to 1 -/
abbrev lastTripStamp (k : Nat) : Obj :=
  mkObj (0x6810 + k) (12) 0x68100c (.stamp) .ro (.none) (0) (none) []

/-- 0x6810 sub 13, U8 RO (13 R354). b0 EdgeRise, b1 EdgeFall -/
abbrev edgeFlags (k : Nat) : Obj :=
  mkObj (0x6810 + k) (13) 0x68100d (.u8) .ro (.none) (0) (none) []

/-- 0x6810 sub 14, U8 WO (13 R354). Writing 1 to b0 or b1 clears that flag -/
abbrev edgeClear (k : Nat) : Obj :=
  mkObj (0x6810 + k) (14) 0x68100e (.u8) .wo (.L) (0) (none) []

/-- 0x6860 sub 1, U64 RO (13 R354). Bit u: output of Wu -/
abbrev outputMask : Obj :=
  mkObj (0x6860) (1) 0x686001 (.u64) .ro (.none) (0) (none) []

/-- 0x6860 sub 2, U64 WO (13 R354). Bit u: clear Wu -/
abbrev latchClearMask : Obj :=
  mkObj (0x6860) (2) 0x686002 (.u64) .wo (.L) (0) (none) []

/-- 0x6880 sub 1, U32 RWS (13 R354). µs, 1–10 000 000 -/
abbrev timerDelay (k : Nat) : Obj :=
  mkObj (0x6880 + k) (1) 0x688001 (.u32) .rws (.L) (1000) (some (1, 10000000)) []

/-- 0x6880 sub 2, BOOL RO (13 R354). Timer running -/
abbrev timerRunning (k : Nat) : Obj :=
  mkObj (0x6880 + k) (2) 0x688002 (.bool) .ro (.none) (0) (none) []

/-- 0x6880 sub 3, U32 RO (13 R354). As in R349 -/
abbrev ignoredStarts (k : Nat) : Obj :=
  mkObj (0x6880 + k) (3) 0x688003 (.u32) .ro (.none) (0) (none) []

/-- 0x6900 sub 1, DOMAIN RWS (13 R354). 16 B, as in R351 -/
abbrev sourceMask (k : Nat) : Obj :=
  mkObj (0x6900 + k) (1) 0x690001 (.dom 16) .rws (.L) (0) (none) []

/-- 0x6900 sub 2, U32 RO (13 R354). Actions since power-on -/
abbrev hits (k : Nat) : Obj :=
  mkObj (0x6900 + k) (2) 0x690002 (.u32) .ro (.none) (0) (none) []

/-- 0x6900 sub 3, STAMP RO (13 R354). Last action -/
abbrev lastHitStamp (k : Nat) : Obj :=
  mkObj (0x6900 + k) (3) 0x690003 (.stamp) .ro (.none) (0) (none) []

/-- 0x6900 sub 4, DOMAIN RO (13 R354). 16 B, sources of the last action -/
abbrev lastSources (k : Nat) : Obj :=
  mkObj (0x6900 + k) (4) 0x690004 (.dom 16) .ro (.none) (0) (none) []

/-- 0x6000 sub 1, U16 RWS (14 R375). µs, 10–10 000 -/
abbrev faultNPulse : Obj :=
  mkObj (0x6000) (1) 0x600001 (.u16) .rws (.L) (1000) (some (10, 10000)) []

/-- 0x6000 sub 2, U8 RWS (14 R375). b0 D, b1 C, b2 B, b3 A (always 1) -/
abbrev faultNPulseMask : Obj :=
  mkObj (0x6000) (2) 0x600002 (.u8) .rws (.L) (12) (none) []

/-- 0x6000 sub 3, U8 RWS (14 R375). As sub 2 -/
abbrev faultNHoldMask : Obj :=
  mkObj (0x6000) (3) 0x600003 (.u8) .rws (.L) (12) (none) []

/-- 0x6000 sub 4, BOOL RO (14 R375). Pin level, 1 released -/
abbrev faultNLevel : Obj :=
  mkObj (0x6000) (4) 0x600004 (.bool) .ro (.none) (1) (none) []

/-- 0x6001 sub 1, DOMAIN RO (14 R375). 12 B; bit b: block b has an open B entry -/
abbrev openBView : Obj :=
  mkObj (0x6001) (1) 0x600101 (.dom 12) .ro (.none) (0) (none) []

/-- 0x6001 sub 2, DOMAIN RO (14 R375). 12 B; bit b: open C entry -/
abbrev openCView : Obj :=
  mkObj (0x6001) (2) 0x600102 (.dom 12) .ro (.none) (0) (none) []

/-- 0x6001 sub 3, DOMAIN RO (14 R375). 12 B; bit b: block b holds class A -/
abbrev classAView : Obj :=
  mkObj (0x6001) (3) 0x600103 (.dom 12) .ro (.none) (0) (none) []

/-- 0x6001 sub 4, BOOL RO (14 R375). Class-A safe state -/
abbrev controllerClassA : Obj :=
  mkObj (0x6001) (4) 0x600104 (.bool) .ro (.none) (0) (none) []

/-- 0x6010 sub 1, U8 RO (14 R375). As in R367 -/
abbrev classABlock : Obj :=
  mkObj (0x6010) (1) 0x601001 (.u8) .ro (.none) (255) (none) []

/-- 0x6010 sub 2, U16 RO (14 R375). As in R367 -/
abbrev classASource : Obj :=
  mkObj (0x6010) (2) 0x601002 (.u16) .ro (.none) (0) (none) []

/-- 0x6010 sub 3, U16 RO (14 R375). As in R367 -/
abbrev classACode : Obj :=
  mkObj (0x6010) (3) 0x601003 (.u16) .ro (.none) (0) (none) []

/-- 0x6010 sub 4, STAMP RO (14 R375). As in R367 -/
abbrev classAStamp : Obj :=
  mkObj (0x6010) (4) 0x601004 (.stamp) .ro (.none) (0) (none) []

/-- 0x6011 sub 1, U8 RO (14 R375). From the previous power-on; 0xFF none -/
abbrev prevClassABlock : Obj :=
  mkObj (0x6011) (1) 0x601101 (.u8) .ro (.none) (255) (none) []

/-- 0x6011 sub 2, U16 RO (14 R375). From the previous power-on; 0xFF none -/
abbrev prevClassASource : Obj :=
  mkObj (0x6011) (2) 0x601102 (.u16) .ro (.none) (0) (none) []

/-- 0x6011 sub 3, U16 RO (14 R375). From the previous power-on; 0xFF none -/
abbrev prevClassACode : Obj :=
  mkObj (0x6011) (3) 0x601103 (.u16) .ro (.none) (0) (none) []

/-- 0x6011 sub 4, STAMP RO (14 R375). From the previous power-on; 0xFF none -/
abbrev prevClassAStamp : Obj :=
  mkObj (0x6011) (4) 0x601104 (.stamp) .ro (.none) (0) (none) []

/-- 0x6100 sub 1, U8 RO (14 R375). b0 C open, b1 B open, b2 A held -/
abbrev openMask (k : Nat) : Obj :=
  mkObj (0x6100 + k) (1) 0x610001 (.u8) .ro (.none) (0) (none) []

/-- 0x6100 sub 2, DOMAIN RO (14 R375). 16 × U16 listed sources; 0xFFFF empty -/
abbrev bSources (k : Nat) : Obj :=
  mkObj (0x6100 + k) (2) 0x610002 (.dom 32) .ro (.none) (0xffffffffffffffffffffffffffffffffffffffffffffffffffffffffffffffff) (none) []

/-- 0x6100 sub 3, STAMP RO (14 R375). First B event of the entry -/
abbrev bFirstStamp (k : Nat) : Obj :=
  mkObj (0x6100 + k) (3) 0x610003 (.stamp) .ro (.none) (0) (none) []

/-- 0x6100 sub 4, U16 RO (14 R375). Fault code -/
abbrev bFirstCode (k : Nat) : Obj :=
  mkObj (0x6100 + k) (4) 0x610004 (.u16) .ro (.none) (0) (none) []

/-- 0x6100 sub 5, DOMAIN RO (14 R375). 36 B, of the first B event -/
abbrev bParams (k : Nat) : Obj :=
  mkObj (0x6100 + k) (5) 0x610005 (.dom 36) .ro (.none) (0) (none) []

/-- 0x6100 sub 6, STAMP RO (14 R375). As in R360 -/
abbrev cFirstStamp (k : Nat) : Obj :=
  mkObj (0x6100 + k) (6) 0x610006 (.stamp) .ro (.none) (0) (none) []

/-- 0x6100 sub 7, U16 RO (14 R375). Fault code -/
abbrev cFirstCode (k : Nat) : Obj :=
  mkObj (0x6100 + k) (7) 0x610007 (.u16) .ro (.none) (0) (none) []

/-- 0x6100 sub 8, U16 RO (14 R375). Events in the C entry, saturating -/
abbrev cMergeCount (k : Nat) : Obj :=
  mkObj (0x6100 + k) (8) 0x610008 (.u16) .ro (.none) (0) (none) []

/-- 0x6100 sub 9, STAMP RO (14 R375). Last merged event -/
abbrev cLastStamp (k : Nat) : Obj :=
  mkObj (0x6100 + k) (9) 0x610009 (.stamp) .ro (.none) (0) (none) []

/-- 0x6100 sub 10, DOMAIN RO (14 R375). 36 B, of the first C event -/
abbrev cParams (k : Nat) : Obj :=
  mkObj (0x6100 + k) (10) 0x61000a (.dom 36) .ro (.none) (0) (none) []

/-- 0x6100 sub 11, STAMP RO (14 R375). As in R358 -/
abbrev aStamp (k : Nat) : Obj :=
  mkObj (0x6100 + k) (11) 0x61000b (.stamp) .ro (.none) (0) (none) []

/-- 0x6100 sub 12, U16 RO (14 R375). Source code -/
abbrev aSource (k : Nat) : Obj :=
  mkObj (0x6100 + k) (12) 0x61000c (.u16) .ro (.none) (0) (none) []

/-- 0x6100 sub 13, U16 RO (14 R375). Fault code -/
abbrev aCode (k : Nat) : Obj :=
  mkObj (0x6100 + k) (13) 0x61000d (.u16) .ro (.none) (0) (none) []

/-- 0x6100 sub 14, BOOL WO (14 R375). As in R361 -/
abbrev faultAck (k : Nat) : Obj :=
  mkObj (0x6100 + k) (14) 0x61000e (.bool) .wo (.L) (0) (none) []

/-- 0x6100 sub 15, U8 RWS (14 R375). As in R363 -/
abbrev intMask (k : Nat) : Obj :=
  mkObj (0x6100 + k) (15) 0x61000f (.u8) .rws (.L) (14) (none) []

/-- 0x6100 sub 16, BOOL RO (14 R375). As in R364 -/
abbrev retrying (k : Nat) : Obj :=
  mkObj (0x6100 + k) (16) 0x610010 (.bool) .ro (.none) (0) (none) []

/-- 0x6100 sub 17, U32 RO (14 R375). Since power-on -/
abbrev countD (k : Nat) : Obj :=
  mkObj (0x6100 + k) (17) 0x610011 (.u32) .ro (.none) (0) (none) []

/-- 0x6100 sub 18, U32 RO (14 R375). Since power-on -/
abbrev countC (k : Nat) : Obj :=
  mkObj (0x6100 + k) (18) 0x610012 (.u32) .ro (.none) (0) (none) []

/-- 0x6100 sub 19, U32 RO (14 R375). Since power-on -/
abbrev countB (k : Nat) : Obj :=
  mkObj (0x6100 + k) (19) 0x610013 (.u32) .ro (.none) (0) (none) []

/-- 0x6200 sub 1, U8 RWS (14 R375). °C/s, 1–10 -/
abbrev riseWarn : Obj :=
  mkObj (0x6200) (1) 0x620001 (.u8) .rws (.L) (5) (some (1, 10)) []

/-- 0x6200 sub 2, U8 CONST (14 R375). °C/s -/
abbrev riseShutdown : Obj :=
  mkObj (0x6200) (2) 0x620002 (.u8) .const (.none) (20) (none) []

/-- 0x6200 sub 3, I16 CONST (14 R375). °C -/
abbrev shutdownTemp : Obj :=
  mkObj (0x6200) (3) 0x620003 (.i16) .const (.none) (140) (none) []

/-- 0x6200 sub 4, U8 CONST (14 R375). °C -/
abbrev bandHysteresis : Obj :=
  mkObj (0x6200) (4) 0x620004 (.u8) .const (.none) (2) (none) []

/-- 0x6201 sub 1, I16 RO (14 R375). 0.1 °C -/
abbrev tj : Obj :=
  mkObj (0x6201) (1) 0x620101 (.i16) .ro (.none) (0) (none) []

/-- 0x6201 sub 2, U8 RO (14 R375). 0 T0 … 3 T3 -/
abbrev band : Obj :=
  mkObj (0x6201) (2) 0x620102 (.u8) .ro (.none) (3) (none) []

/-- 0x6201 sub 3, I16 RO (14 R375). 0.1 °C/s, S -/
abbrev riseRate : Obj :=
  mkObj (0x6201) (3) 0x620103 (.i16) .ro (.none) (0) (none) []

/-- 0x6201 sub 4, I16 RO (14 R375). 0.1 °C since power-on -/
abbrev tjMax : Obj :=
  mkObj (0x6201) (4) 0x620104 (.i16) .ro (.none) (0) (none) []

/-- 0x6201 sub 5, U32 RO (14 R375). Since power-on -/
abbrev bandChanges : Obj :=
  mkObj (0x6201) (5) 0x620105 (.u32) .ro (.none) (0) (none) []

/-- 0x6201 sub 6, U32 RO (14 R375). Since power-on -/
abbrev riseWarnings : Obj :=
  mkObj (0x6201) (6) 0x620106 (.u32) .ro (.none) (0) (none) []

/-- 0x6201 sub 7, BOOL RO (14 R375). As in R373 -/
abbrev sensorFault : Obj :=
  mkObj (0x6201) (7) 0x620107 (.bool) .ro (.none) (0) (none) []

/-- 0x6201 sub 8, BOOL RO (14 R375). Tj above 125 °C -/
abbrev aboveRange : Obj :=
  mkObj (0x6201) (8) 0x620108 (.bool) .ro (.none) (0) (none) []

/-- 0x1010 sub 1, U64 CONST (15 R404). MAC of NA in b47..b0; NB is +1 -/
abbrev macBase : Obj :=
  mkObj (0x1010) (1) 0x101001 (.u64) .const (.none) (Config.macBase) (none) []

/-- 0x1020 sub 1, BOOL RWS (15 R404). 0 disables the port -/
abbrev portEnable (k : Nat) : Obj :=
  mkObj (0x1020 + k) (1) 0x102001 (.bool) .rws (.Q) (1) (none) []

/-- 0x1020 sub 2, U8 RWS (15 R404). 0 coordinator, 1–31 follower, 0xFF CSMA/CD -/
abbrev plcaNodeId (k : Nat) : Obj :=
  mkObj (0x1020 + k) (2) 0x102002 (.u8) .rws (.Q) (255) (some (0, 31)) [255]

/-- 0x1020 sub 3, U8 RWS (15 R404). 2–32, coordinator only -/
abbrev plcaNodeCount (k : Nat) : Obj :=
  mkObj (0x1020 + k) (3) 0x102003 (.u8) .rws (.Q) (8) (some (2, 32)) []

/-- 0x1020 sub 4, U8 RWS (15 R404). Bit times, 1–255 -/
abbrev plcaToTimer (k : Nat) : Obj :=
  mkObj (0x1020 + k) (4) 0x102004 (.u8) .rws (.Q) (32) (some (1, 255)) []

/-- 0x1020 sub 5, U8 RWS (15 R404). Extra frames, 0–255 -/
abbrev plcaBurst (k : Nat) : Obj :=
  mkObj (0x1020 + k) (5) 0x102005 (.u8) .rws (.Q) (0) (some (0, 255)) []

/-- 0x1020 sub 6, U16 RWS (15 R404). ms, 2–1000 -/
abbrev beaconLossTime (k : Nat) : Obj :=
  mkObj (0x1020 + k) (6) 0x102006 (.u16) .rws (.L) (10) (some (2, 1000)) []

/-- 0x1020 sub 7, U16 RWS (15 R404). ms, 100–10 000 -/
abbrev portLossTime (k : Nat) : Obj :=
  mkObj (0x1020 + k) (7) 0x102007 (.u16) .rws (.L) (1000) (some (100, 10000)) []

/-- 0x1020 sub 8, BOOL WO (15 R404). Writing 1 measures (R382) -/
abbrev segmentMeasure (k : Nat) : Obj :=
  mkObj (0x1020 + k) (8) 0x102008 (.bool) .wo (.L) (0) (none) []

/-- 0x1020 sub 9, Q15 RWS (15 R404). Fraction of c (0.675) -/
abbrev velocityFactor (k : Nat) : Obj :=
  mkObj (0x1020 + k) (9) 0x102009 (.q15) .rws (.L) (22118) (none) []

/-- 0x1028 sub 1, U8 RO (15 R404). As in R379 -/
abbrev netPortState (k : Nat) : Obj :=
  mkObj (0x1028 + k) (1) 0x102801 (.u8) .ro (.none) (0) (none) []

/-- 0x1028 sub 2, U32 RO (15 R404). Verified IOP frames since power-on -/
abbrev netRxFrames (k : Nat) : Obj :=
  mkObj (0x1028 + k) (2) 0x102802 (.u32) .ro (.none) (0) (none) []

/-- 0x1028 sub 3, U32 RO (15 R404). Since power-on -/
abbrev txFrames (k : Nat) : Obj :=
  mkObj (0x1028 + k) (3) 0x102803 (.u32) .ro (.none) (0) (none) []

/-- 0x1028 sub 4, U32 RO (15 R404). Since power-on -/
abbrev fcsErrors (k : Nat) : Obj :=
  mkObj (0x1028 + k) (4) 0x102804 (.u32) .ro (.none) (0) (none) []

/-- 0x1028 sub 5, U32 RO (15 R404). Since power-on -/
abbrev collisions (k : Nat) : Obj :=
  mkObj (0x1028 + k) (5) 0x102805 (.u32) .ro (.none) (0) (none) []

/-- 0x1028 sub 6, U32 RO (15 R404). Since power-on -/
abbrev beaconLosses (k : Nat) : Obj :=
  mkObj (0x1028 + k) (6) 0x102806 (.u32) .ro (.none) (0) (none) []

/-- 0x1028 sub 7, U32 RO (15 R404). As in R381 -/
abbrev foreignFrames (k : Nat) : Obj :=
  mkObj (0x1028 + k) (7) 0x102807 (.u32) .ro (.none) (0) (none) []

/-- 0x1028 sub 8, U16 RO (15 R404). 0.1 m; 0xFFFF invalid -/
abbrev segmentLength (k : Nat) : Obj :=
  mkObj (0x1028 + k) (8) 0x102808 (.u16) .ro (.none) (65535) (none) []

/-- 0x1028 sub 9, U8 RO (15 R404). 0 terminated, 1 open, 2 short -/
abbrev segmentFault (k : Nat) : Obj :=
  mkObj (0x1028 + k) (9) 0x102809 (.u8) .ro (.none) (0) (none) []

/-- 0x1028 sub 10, U32 RO (15 R404). As in R383 and R384 -/
abbrev tagErrors (k : Nat) : Obj :=
  mkObj (0x1028 + k) (10) 0x10280a (.u32) .ro (.none) (0) (none) []

/-- 0x1028 sub 11, U32 RO (15 R404). As in R390 -/
abbrev portDuplicates (k : Nat) : Obj :=
  mkObj (0x1028 + k) (11) 0x10280b (.u32) .ro (.none) (0) (none) []

/-- 0x1030 sub 1, DOMAIN WO (15 R404). 16 B, as in R401 -/
abbrev wallClockSync : Obj :=
  mkObj (0x1030) (1) 0x103001 (.dom 16) .wo (.L) (0) (none) []

/-- 0x1030 sub 2, DOMAIN RO (15 R404). 16 B, the latest pair -/
abbrev syncPair : Obj :=
  mkObj (0x1030) (2) 0x103002 (.dom 16) .ro (.none) (0) (none) []

/-- 0x1030 sub 3, U64 RO (15 R404). ns UTC -/
abbrev wallClockNow : Obj :=
  mkObj (0x1030) (3) 0x103003 (.u64) .ro (.none) (0) (none) []

/-- 0x1100 sub 1, U8 RO (15 R404). 0 free, 1 opening, 2 open -/
abbrev sessionState (k : Nat) : Obj :=
  mkObj (0x1100 + k) (1) 0x110001 (.u8) .ro (.none) (0) (none) []

/-- 0x1100 sub 2, U32 RO (15 R404). SESSION_ID -/
abbrev sessionId (k : Nat) : Obj :=
  mkObj (0x1100 + k) (2) 0x110002 (.u32) .ro (.none) (0) (none) []

/-- 0x1100 sub 3, U8 RO (15 R404). Slot used at OPEN -/
abbrev sessionKeySlot (k : Nat) : Obj :=
  mkObj (0x1100 + k) (3) 0x110003 (.u8) .ro (.none) (255) (none) []

/-- 0x1100 sub 4, U8 RO (15 R404). b0 strict, b1 dual-port, b2 peer -/
abbrev sessionMode (k : Nat) : Obj :=
  mkObj (0x1100 + k) (4) 0x110004 (.u8) .ro (.none) (0) (none) []

/-- 0x1100 sub 5, U32 RO (15 R404). H of R389 -/
abbrev rxSeqHigh (k : Nat) : Obj :=
  mkObj (0x1100 + k) (5) 0x110005 (.u32) .ro (.none) (0) (none) []

/-- 0x1100 sub 6, U32 RO (15 R404). Last SEQ sent -/
abbrev txSeq (k : Nat) : Obj :=
  mkObj (0x1100 + k) (6) 0x110006 (.u32) .ro (.none) (0) (none) []

/-- 0x1100 sub 7, U64 RO (15 R404). Bit i: H − i seen -/
abbrev replayMask (k : Nat) : Obj :=
  mkObj (0x1100 + k) (7) 0x110007 (.u64) .ro (.none) (0) (none) []

/-- 0x1100 sub 8, U32 RO (15 R404). As in R390 -/
abbrev sessionDuplicates (k : Nat) : Obj :=
  mkObj (0x1100 + k) (8) 0x110008 (.u32) .ro (.none) (0) (none) []

/-- 0x1100 sub 9, U32 RO (15 R404). As in R389 -/
abbrev tooOld (k : Nat) : Obj :=
  mkObj (0x1100 + k) (9) 0x110009 (.u32) .ro (.none) (0) (none) []

/-- 0x1100 sub 10, U32 RO (15 R404). As in R399 -/
abbrev notifyDropped (k : Nat) : Obj :=
  mkObj (0x1100 + k) (10) 0x11000a (.u32) .ro (.none) (0) (none) []

/-- 0x1200 sub 1, U16 RWS (15 R404). s, 1–3600 -/
abbrev sessionIdle : Obj :=
  mkObj (0x1200) (1) 0x120001 (.u16) .rws (.L) (10) (some (1, 3600)) []

/-- 0x1200 sub 2, U32 RWS (15 R404). ms, 100–120 000; R397 -/
abbrev waitTimeout : Obj :=
  mkObj (0x1200) (2) 0x120002 (.u32) .rws (.L) (2000) (some (100, 120000)) []

/-- 0x1200 sub 3, U16 RWS (15 R404). ms, 10–1000 -/
abbrev notifyRetry : Obj :=
  mkObj (0x1200) (3) 0x120003 (.u16) .rws (.L) (50) (some (10, 1000)) []

/-- 0x1200 sub 4, U8 RWS (15 R404). 1–32 -/
abbrev notifyRetries : Obj :=
  mkObj (0x1200) (4) 0x120004 (.u8) .rws (.L) (8) (some (1, 32)) []

/-- 0x1200 sub 5, U32 RO (15 R404). As in R387 -/
abbrev openFailures : Obj :=
  mkObj (0x1200) (5) 0x120005 (.u32) .ro (.none) (0) (none) []

/-- 0x1200 sub 6, U32 RO (15 R404). As in R387 -/
abbrev sessionsRefused : Obj :=
  mkObj (0x1200) (6) 0x120006 (.u32) .ro (.none) (0) (none) []

/-- 0x1400 sub 1, DOMAIN WO (15 R404). 32 B, stored in MRAM, never readable -/
abbrev key (k : Nat) : Obj :=
  mkObj (0x1400 + k) (1) 0x140001 (.dom 32) .wo (.L) (0) (none) []

/-- 0x1400 sub 2, U16 RWS (15 R404). As in R386 -/
abbrev rights (k : Nat) : Obj :=
  mkObj (0x1400 + k) (2) 0x140002 (.u16) .rws (.L) (0) (none) []

/-- 0x1400 sub 3, BOOL RO (15 R404). Key present -/
abbrev keyValid (k : Nat) : Obj :=
  mkObj (0x1400 + k) (3) 0x140003 (.bool) .ro (.none) (0) (none) []

/-- 0x1400 sub 4, BOOL WO (15 R404). Writing 1 erases the key -/
abbrev keyClear (k : Nat) : Obj :=
  mkObj (0x1400 + k) (4) 0x140004 (.bool) .wo (.L) (0) (none) []

/-- 0x1500 sub 1, U8 RWS (15 R404). 0–7; 0xFF none; Q with CreditEnable as the block enable -/
abbrev peerKeySlot (k : Nat) : Obj :=
  mkObj (0x1500 + k) (1) 0x150001 (.u8) .rws (.Q) (255) (some (0, 7)) [255]

/-- 0x1500 sub 2, U64 RWS (15 R404). b47..b0 -/
abbrev peerMacNA (k : Nat) : Obj :=
  mkObj (0x1500 + k) (2) 0x150002 (.u64) .rws (.Q) (0) (some (0, 281474976710655)) []

/-- 0x1500 sub 3, U64 RWS (15 R404). b47..b0 -/
abbrev peerMacNB (k : Nat) : Obj :=
  mkObj (0x1500 + k) (3) 0x150003 (.u64) .rws (.Q) (0) (some (0, 281474976710655)) []

/-- 0x1500 sub 4, U8 RO (15 R404). Session number; 0xFF none -/
abbrev peerSession (k : Nat) : Obj :=
  mkObj (0x1500 + k) (4) 0x150004 (.u8) .ro (.none) (255) (none) []

/-- 0x1F00 sub 0, U8 WO (15 R404). Any value; fence of R395 -/
abbrev fence : Obj :=
  mkObj (0x1F00) (0) 0x1f0000 (.u8) .wo (.L) (0) (none) []

/-- 0x1F20 sub 1, U16 RW (15 R404). b0 FAULT, b1 HOLDUP, b2 ROUTE; needs NOTIFY -/
abbrev notifyMask : Obj :=
  mkObj (0x1F20) (1) 0x1f2001 (.u16) .rw (.L) (0) (none) []

/-- 0x9000 sub 0, U8 WO (16 R428). Any value captures (R427) -/
abbrev snapshotFence : Obj :=
  mkObj (0x9000) (0) 0x900000 (.u8) .wo (.L) (0) (none) []

/-- 0x9001 sub 1, U32 RO (16 R428). Captures since power-on, wrapping -/
abbrev generation : Obj :=
  mkObj (0x9001) (1) 0x900101 (.u32) .ro (.none) (0) (none) []

/-- 0x9001 sub 2, STAMP RO (16 R428). Capture stamp -/
abbrev captureStamp : Obj :=
  mkObj (0x9001) (2) 0x900102 (.stamp) .ro (.none) (0) (none) []

/-- 0x9001 sub 3, U8 RO (16 R428). 0–15 session, 0x10 management port, 0xFF none -/
abbrev capturedBy : Obj :=
  mkObj (0x9001) (3) 0x900103 (.u8) .ro (.none) (255) (none) []

/-- 0x9010–0x901F sub 0, DOMAIN RO (16 R428). 16 B, engine e of R355: state U8 (as 0xA000); role U8 (0 none, 1 active, 2 standby, 3 reserve, 4 holds a pair); pair U8 (n of LEn, 0xFF none); reserved U8; checkpoints U32; last checkpoint STAMP -/
abbrev engineMirror (k : Nat) : Obj :=
  mkObj (0x9010 + k) (0) 0x901000 (.dom 16) .ro (.none) (0) (none) []

/-- 0x9100 sub 0, DOMAIN RO (16 R428). 80 B: frequency word U32; accumulator U32; pending slew I32 au; state, class, rotation, template valid U8 each; FIRE_CNT of slots 0–63, U8 each -/
abbrev timebaseMirror : Obj :=
  mkObj (0x9100) (0) 0x910000 (.dom 80) .ro (.none) (0) (none) []

/-- 0x9101 sub 0, DOMAIN RO (16 R428). 16 B: HoldupState U8; BusArmed U8; stagger position of groups A and B, U8 each; LapsSinceChange U32; laps since return commit U32; reserved U32 -/
abbrev holdupMirror : Obj :=
  mkObj (0x9101) (0) 0x910100 (.dom 16) .ro (.none) (0) (none) []

/-- 0x9200–0x925F sub 0, DOMAIN RO (16 R428). 16 B, cell Pn: CellState U8; rotation pointer of its feed U8; re-armed U8; reserved U8; x_i I32 mA; b_i Q15; reserved U16; pulses since ACTIVE U32 -/
abbrev cellMirror (k : Nat) : Obj :=
  mkObj (0x9200 + k) (0) 0x920000 (.dom 16) .ro (.none) (0) (none) []

/-- 0x9300 + 0x10·k sub 1, DOMAIN RO (16 R428). 112 B: I, e[n−1], q1, q2, N1 w1, N1 w2, N2 w1, N2 w2 I32 µV each; V_lp, V_set, V_tgt U32 µV; pacer class, diode emulation, shed state, drain pulse U8 each; P I32 µV; step early-start state U8, reserved 3 B; early-start stamp STAMP; window end STAMP; SpecActiveMask U16, reserved U16; shed dwell, add dwell, settle and UV timers U32 µs each; OV count, limited rounds, OcState U8 each, reserved U8; hiccup or recovery remaining U32 µs; shed dwell at Hint receipt U32 µs; reserved 8 B -/
abbrev feedCheckpoint (k : Nat) : Obj :=
  mkObj (0x9300 + 0x10 * k) (1) 0x930001 (.dom 112) .ro (.none) (0) (none) []

/-- 0x9300 + 0x10·k sub 2, DOMAIN RO (16 R428). 16 B, map in force, layout as in R56 -/
abbrev phaseMapMirror (k : Nat) : Obj :=
  mkObj (0x9300 + 0x10 * k) (2) 0x930002 (.dom 16) .ro (.none) (0) (none) []

/-- 0x9300 + 0x10·k sub 3, DOMAIN RO (16 R428). 40 B: LAST U8; LAST valid U8; notice SEQ U8; TYPE awaiting Ack U8 (0 none); retries used U8; reserved 3 B; cached answer frame 14 B, zero-padded; pending CapNotice payload 8 B; pending Reached payload 4 B; reserved 6 B -/
abbrev linkMirror (k : Nat) : Obj :=
  mkObj (0x9300 + 0x10 * k) (3) 0x930003 (.dom 40) .ro (.none) (0) (none) []

/-- 0x9400–0x940F sub 0, DOMAIN RO (16 R428). 72 B: TgState U8; retry count U8; reserved U16; presence timer U32 µs; insertion remaining, cool-down remaining U32 ms each; fold-back timer U32 µs; fit samples U32; Σv̇², Σv̇·V, ΣV², ΣI·v̇, ΣI·V, ΣI² I64 each, in the units of R173 scaled by 10⁶ -/
abbrev trayGateMirror (k : Nat) : Obj :=
  mkObj (0x9400 + k) (0) 0x940000 (.dom 72) .ro (.none) (0) (none) []

/-- 0x9410–0x9415 sub 0, DOMAIN RO (16 R428). 8 B, ORA, ORB, SG0–SG3: drive state U8 (0 off, 1 precharge, 2 regulating, 3 full, 4 reverse-off hold, 5 pre-bias); GateMode U8; reserved U16; precharge or fault timer U32 µs -/
abbrev diodeGateMirror (k : Nat) : Obj :=
  mkObj (0x9410 + k) (0) 0x941000 (.dom 8) .ro (.none) (0) (none) []

/-- 0x9500 sub 0, DOMAIN RO (16 R428). 24 B: V_b U32 µV; I_b I32 µV; u I32 µV; slot 4 angle U16, candidate slot U8, armed U8; slot 5 the same; reserved U32 -/
abbrev busMirror : Obj :=
  mkObj (0x9500) (0) 0x950000 (.dom 24) .ro (.none) (0) (none) []

/-- 0x9510–0x952F sub 0, DOMAIN RO (16 R428). 16 B, slot s: s_i I32 µV; dwell laps U16; retry delay remaining U16 laps; shed ramp position U8; reserved 7 B -/
abbrev slotMirror (k : Nat) : Obj :=
  mkObj (0x9510 + k) (0) 0x951000 (.dom 16) .ro (.none) (0) (none) []

/-- 0x9530–0x9533 sub 0, DOMAIN RO (16 R428). 8 B, port p: schedule position U8; PortState U8; retries used U8; reserved U8; next STUCK retry U32 ms -/
abbrev pmbusMirror (k : Nat) : Obj :=
  mkObj (0x9530 + k) (0) 0x953000 (.dom 8) .ro (.none) (0) (none) []

/-- 0x9600–0x9603 sub 0, DOMAIN RO (16 R428). 144 B, string n: I_r I32 mA; δ I32 mA; V_pk U16 mV per cell; reserved U16; slope window 60 × I16 0.1 °C; hold-off remaining U32 s; state elapsed U32 s; identity reads U8; reserved 3 B -/
abbrev chargerMirror (k : Nat) : Obj :=
  mkObj (0x9600 + k) (0) 0x960000 (.dom 144) .ro (.none) (0) (none) []

/-- 0x9610–0x9613 sub 0, DOMAIN RO (16 R428). 80 B: s Q31; V_p I32 µV; P₁₁ I64 in 10⁻¹²; P₁₂ I64 in 10⁻⁹ V; P₂₂ I64 in 10⁻¹² V²; rest timer U32 ms; two step windows of mean I I32 mA and mean V U32 mV; span Q_in and Q_out I64 µAs; accumulator I64 µAs; reserved U32 -/
abbrev gaugeMirror (k : Nat) : Obj :=
  mkObj (0x9610 + k) (0) 0x961000 (.dom 80) .ro (.none) (0) (none) []

/-- 0x9700 sub 0, DOMAIN RO (16 R428). 104 B: bytes 16–119 of the ledger record of R289 -/
abbrev ledgerMirror : Obj :=
  mkObj (0x9700) (0) 0x970000 (.dom 104) .ro (.none) (0) (none) []

/-- 0x9701 sub 0, DOMAIN RO (16 R428). 2048 B: the table of R304 -/
abbrev transferMirror : Obj :=
  mkObj (0x9701) (0) 0x970100 (.dom 2048) .ro (.none) (0) (none) []

/-- 0x9702 sub 0, DOMAIN RO (16 R428). 192 B: as 0x5031 -/
abbrev floorMirror : Obj :=
  mkObj (0x9702) (0) 0x970200 (.dom 192) .ro (.none) (0) (none) []

/-- 0x9710–0x971F sub 0, DOMAIN RO (16 R428). 16 B, feed Fk: EnforceState, GraceLeft, clear count, fault count U8 each; pending GrantRequest U32; I_cr U16 0.1 A; reserved U16; LapPower U32 W -/
abbrev enforceMirror (k : Nat) : Obj :=
  mkObj (0x9710 + k) (0) 0x971000 (.dom 16) .ro (.none) (0) (none) []

/-- 0x9800–0x9817 sub 0, DOMAIN RO (16 R428). 24 B, rail r: RailState, ChatterCount, SubtreeRetryCount U8 each; reserved U8; qualification, PgTimeout, delay (start, stop or retry) and discharge elapsed U32 µs each; deglitch elapsed U16 µs; PgTimeout paused U8; reserved U8 -/
abbrev railMirror (k : Nat) : Obj :=
  mkObj (0x9800 + k) (0) 0x980000 (.dom 24) .ro (.none) (0) (none) []

/-- 0x9820 sub 0, DOMAIN RO (16 R428). 16 B: SeqState U8; SequenceRetryCount U8; reserved U16; sequence retry delay remaining U32 ms; SEQ_FLT_N release elapsed U32 ms; stuck timer U32 s -/
abbrev sequencerMirror : Obj :=
  mkObj (0x9820) (0) 0x982000 (.dom 16) .ro (.none) (0) (none) []

/-- 0x9828 sub 0, DOMAIN RO (16 R428). 16 B: stretch remaining of RST_OUT0–RST_OUT7, U16 ms each -/
abbrev resetMirror : Obj :=
  mkObj (0x9828) (0) 0x982800 (.dom 16) .ro (.none) (0) (none) []

/-- 0x9900–0x993F sub 0, DOMAIN RO (16 R428). 4 B, Wu: output, count, edge flags, RouteHold U8 each -/
abbrev unitMirror (k : Nat) : Obj :=
  mkObj (0x9900 + k) (0) 0x990000 (.dom 4) .ro (.none) (0) (none) []

/-- 0x9940–0x9943 sub 0, U32 RO (16 R428). µs remaining of TMR0–TMR3 -/
abbrev timerMirror (k : Nat) : Obj :=
  mkObj (0x9940 + k) (0) 0x994000 (.u32) .ro (.none) (0) (none) []

/-- 0x9A00–0x9A57 sub 0, DOMAIN RO (16 R428). 160 B, block b: subs 1–13 of 0x6100 + b in sub order (147 B); Retrying U8; paused upper timer elapsed U32 ms; reserved 8 B -/
abbrev faultMirror (k : Nat) : Obj :=
  mkObj (0x9A00 + k) (0) 0x9a0000 (.dom 160) .ro (.none) (0) (none) []

/-- 0x9A60 sub 0, DOMAIN RO (16 R428). 64 B: FAULT_N pulse remainder U32 µs; last 16 Tj samples I16 0.1 °C; 1 s means at 100 ms steps, 11 × I16 0.1 °C; reserved 6 B -/
abbrev thermalMirror : Obj :=
  mkObj (0x9A60) (0) 0x9a6000 (.dom 64) .ro (.none) (0) (none) []

/-- 0x9B00–0x9B0F sub 1, DOMAIN RO (16 R428). 64 B, session s: H U32; replay mask U64; outstanding REQ SEQ 8 × U32; pending WAITs, notifications unacknowledged, queued, reserved U8 each; TxSeq U32; idle elapsed U32 ms; reserved 8 B -/
abbrev sessionMirror (k : Nat) : Obj :=
  mkObj (0x9B00 + k) (1) 0x9b0001 (.dom 64) .ro (.none) (0) (none) []

/-- 0x9B00–0x9B0F sub 2–65, DOMAIN RO (16 R428). Up to 1476 B: cached RESPONSE body, window entry sub − 2; empty when none -/
abbrev cachedResponse (k i : Nat) : Obj :=
  mkObj (0x9B00 + k) (2 + i) 0x9b0002 (.domUpTo 1476) .ro (.none) (0) (none) []

/-- 0x9B20–0x9B21 sub 0, DOMAIN RO (16 R428). 8 B, port p: PortState U8; PLCA ID in use U8; present transmit opportunity U8; reserved U8; time since BEACON U32 µs -/
abbrev plcaMirror (k : Nat) : Obj :=
  mkObj (0x9B20 + k) (0) 0x9b2000 (.dom 8) .ro (.none) (0) (none) []

/-- 0x9C00 sub 0, DOMAIN RO (16 R428). Up to 24 576 B: queued U16; staged U16; staging owner U8; reserved 3 B; per pending write: index U16, sub U8, kind U8 (0 queued, 1 staged), length U16, path U8, reserved U8, value padded to 4 B -/
abbrev dictMirror : Obj :=
  mkObj (0x9C00) (0) 0x9c0000 (.domUpTo 24576) .ro (.none) (0) (none) []

/-- 0x9D00–0x9D7F sub 0, DOMAIN RO (16 R428). 32 B, lane Qq: head cell U32; tail cell U32; items U32; cells U32; lost items U32; idle elapsed U32 ms; cells of the packet in progress U32; pool U8; reserved 3 B -/
abbrev laneMirror (k : Nat) : Obj :=
  mkObj (0x9D00 + k) (0) 0x9d0000 (.dom 32) .ro (.none) (0) (none) []

/-- 0x9D80 sub 0, DOMAIN RO (16 R428). 32 B: free, allocated, in flight and total, U32 each, for the on-chip pool and then the bulk pool -/
abbrev poolMirror : Obj :=
  mkObj (0x9D80) (0) 0x9d8000 (.dom 32) .ro (.none) (0) (none) []

/-- 0x9E00 sub 0, DOMAIN RO (16 R428). 32 B: next record U32; records written U32; frozen U8; full U8; reserved U16; frozen count U32; refused count U32; captures held U8; armed U8; reserved U16; capture write position U32; reserved U32 -/
abbrev recorderMirror : Obj :=
  mkObj (0x9E00) (0) 0x9e0000 (.dom 32) .ro (.none) (0) (none) []

/-- 0x1000 sub 1, STR CONST (16 R429). — -/
abbrev vendorName : Obj :=
  mkObj (0x1000) (1) 0x100001 (.str 20) .const (.none) (0) (none) []

/-- 0x1000 sub 2, STR CONST (16 R429). — -/
abbrev deviceName : Obj :=
  mkObj (0x1000) (2) 0x100002 (.str 13) .const (.none) (0) (none) []

/-- 0x1000 sub 3, STR CONST (16 R429). — -/
abbrev orderingCode : Obj :=
  mkObj (0x1000) (3) 0x100003 (.str 13) .const (.none) (0) (none) []

/-- 0x1000 sub 4, U16 CONST (16 R429). Stepping number -/
abbrev siliconStepping : Obj :=
  mkObj (0x1000) (4) 0x100004 (.u16) .const (.none) (Config.siliconStepping) (none) []

/-- 0x1000 sub 5, U64 CONST (16 R429). Unit serial -/
abbrev serialNumber : Obj :=
  mkObj (0x1000) (5) 0x100005 (.u64) .const (.none) (Config.serialNumber) (none) []

/-- 0x1000 sub 6, U16 CONST (16 R429). b15..b8 major, b7..b0 minor -/
abbrev dictionaryRevision : Obj :=
  mkObj (0x1000) (6) 0x100006 (.u16) .const (.none) (256) (none) []

/-- 0x1001 sub 1–16, U32 RO (16 R429). Engine sub − 1 of R355: b31..b24 major, b23..b16 minor, b15..b0 build -/
abbrev firmwareVersion (i : Nat) : Obj :=
  mkObj (0x1001) (1 + i) 0x100101 (.u32) .ro (.none) (Config.factoryVersion (engineClass i)) (none) []

/-- 0x1002 sub 1, U32 RO (16 R429). Power-ons since manufacture -/
abbrev powerOnCount : Obj :=
  mkObj (0x1002) (1) 0x100201 (.u32) .ro (.none) (0) (none) []

/-- 0x1F10 sub 0, U8 WO (16 R429). 1 begin, 2 commit, 3 discard (R417, R418) -/
abbrev commit : Obj :=
  mkObj (0x1F10) (0) 0x1f1000 (.u8) .wo (.L) (0) (some (1, 3)) []

/-- 0x1F11 sub 1, U8 RO (16 R429). 0–15 session, 0x10 management port, 0xFF none -/
abbrev stagingOwner : Obj :=
  mkObj (0x1F11) (1) 0x1f1101 (.u8) .ro (.none) (255) (none) []

/-- 0x1F11 sub 2, U16 RO (16 R429). Writes in the set -/
abbrev stagedCount : Obj :=
  mkObj (0x1F11) (2) 0x1f1102 (.u16) .ro (.none) (0) (none) []

/-- 0x1F11 sub 3, U16 RO (16 R429). Writes in the apply queue -/
abbrev queuedCount : Obj :=
  mkObj (0x1F11) (3) 0x1f1103 (.u16) .ro (.none) (0) (none) []

/-- 0x1F11 sub 4, U32 RO (16 R429). Since power-on -/
abbrev commits : Obj :=
  mkObj (0x1F11) (4) 0x1f1104 (.u32) .ro (.none) (0) (none) []

/-- 0x1F11 sub 5, U32 RO (16 R429). Since power-on -/
abbrev commitsRefused : Obj :=
  mkObj (0x1F11) (5) 0x1f1105 (.u32) .ro (.none) (0) (none) []

/-- 0x1F11 sub 6, U32 RO (16 R429). Sets discarded since power-on, by StagingTimeout, by the closing of the path or by a write of 3 to Commit (R417) -/
abbrev stagingDiscarded : Obj :=
  mkObj (0x1F11) (6) 0x1f1106 (.u32) .ro (.none) (0) (none) []

/-- 0x1F11 sub 7, U16 RWS (16 R429). s, 1–600 -/
abbrev stagingTimeout : Obj :=
  mkObj (0x1F11) (7) 0x1f1107 (.u16) .rws (.L) (30) (some (1, 600)) []

/-- 0x1F11 sub 8, U32 RO (16 R429). Since power-on -/
abbrev storeFailures : Obj :=
  mkObj (0x1F11) (8) 0x1f1108 (.u32) .ro (.none) (0) (none) []

/-- 0x1F11 sub 9, U32 RO (16 R429). Objects defaulted at this power-on -/
abbrev storeLoadErrors : Obj :=
  mkObj (0x1F11) (9) 0x1f1109 (.u32) .ro (.none) (0) (none) []

/-- 0x1F11 sub 10, STAMP RO (16 R429). Last commit stamp -/
abbrev stagingLastCommitStamp : Obj :=
  mkObj (0x1F11) (10) 0x1f110a (.stamp) .ro (.none) (0) (none) []

/-- 0x1F11 sub 11, U32 RO (16 R429). b15..b0 index, b23..b16 sub, b31..b24 reserved -/
abbrev commitFailObject : Obj :=
  mkObj (0x1F11) (11) 0x1f110b (.u32) .ro (.none) (0) (none) []

/-- 0x1F11 sub 12, U32 RO (16 R429). Queued writes discarded since power-on -/
abbrev queueDiscarded : Obj :=
  mkObj (0x1F11) (12) 0x1f110c (.u32) .ro (.none) (0) (none) []

/-- 0x1F12 sub 1, DOMAIN RW (16 R429). 8 B: index U16, sub U8, reserved U8, offset U32 -/
abbrev segmentSelect : Obj :=
  mkObj (0x1F12) (1) 0x1f1201 (.dom 8) .rw (.L) (0) (none) []

/-- 0x1F12 sub 2, DOMAIN RO (16 R429). Up to 1024 B from the selected offset -/
abbrev segmentData : Obj :=
  mkObj (0x1F12) (2) 0x1f1202 (.domUpTo 1024) .ro (.none) (0) (none) []

/-- 0x1F30 sub 1, U32 WO (16 R429). 0x5443_4146 restores (R424) -/
abbrev factoryRestore : Obj :=
  mkObj (0x1F30) (1) 0x1f3001 (.u32) .wo (.L) (0) (none) [1413693766]

/-- 0x2200 sub 1, BOOL RWS (16 R429). As in R423 -/
abbrev autostartEnable : Obj :=
  mkObj (0x2200) (1) 0x220001 (.bool) .rws (.L) (0) (none) []

/-- 0x2200 sub 2, U32 RWS (16 R429). ms, 1000–3 600 000, at least WorstRecovery -/
abbrev bringUpTimeout : Obj :=
  mkObj (0x2200) (2) 0x220002 (.u32) .rws (.L) (60000) (some (1000, 3600000)) []

/-- 0x2200 sub 3, U16 RWS (16 R429). laps, 0–65 535 -/
abbrev lockWaitLaps : Obj :=
  mkObj (0x2200) (3) 0x220003 (.u16) .rws (.L) (500) (some (0, 65535)) []

/-- 0x2201 sub 1, U8 RO (16 R429). 0 idle, 1 running, 2 complete, 3 failed -/
abbrev autostartState : Obj :=
  mkObj (0x2201) (1) 0x220101 (.u8) .ro (.none) (0) (none) []

/-- 0x2201 sub 2, U8 RO (16 R429). Step of the start-up chapter -/
abbrev autostartStep : Obj :=
  mkObj (0x2201) (2) 0x220102 (.u8) .ro (.none) (0) (none) []

/-- 0x2201 sub 3, STAMP RO (16 R429). Entry to the present state -/
abbrev autostartStamp : Obj :=
  mkObj (0x2201) (3) 0x220103 (.stamp) .ro (.none) (0) (none) []

/-- 0x2201 sub 4, U8 RO (16 R429). As in the start-up chapter -/
abbrev autostartFailCause : Obj :=
  mkObj (0x2201) (4) 0x220104 (.u8) .ro (.none) (0) (none) []

/-- 0x2202 sub 0, DOMAIN RO (16 R429). 8 B of stored values: bytes 0–1 FeedEnable F0–F15; bytes 2–3 TgEnable TG0–TG15; byte 4 b0 LineTrackEnable, b1 HoldupEnable, b2 RectEnable, b3 ChargeEnable, b4 SeqEnable, b5 SeqFltEnable, b6 CreditEnable, b7 RouterEnable; byte 5 b3..b0 StringEnable S3–S0; byte 6 b5..b0 GateRequest DIODE of SG3, SG2, SG1, SG0, ORB, ORA; byte 7 b0 NA, b1 NB port configuration applied -/
abbrev storedEnables : Obj :=
  mkObj (0x2202) (0) 0x220200 (.dom 8) .ro (.none) (0) (none) []

/-- 0xA000 sub 1–16, U8 RO (16 R429). Engine sub − 1: 0 stopped, 1 running, 2 standby, 3 shadow, 4 failed, 5 retired, 6 updating -/
abbrev engineState (i : Nat) : Obj :=
  mkObj (0xA000) (1 + i) 0xa00001 (.u8) .ro (.none) (0) (none) []

/-- 0xA001 sub 1, U8 RO (16 R429). 0 SC0, 1 SC1, 0xFF none -/
abbrev activeShelfCore : Obj :=
  mkObj (0xA001) (1) 0xa00101 (.u8) .ro (.none) (0) (none) []

/-- 0xA001 sub 2, U8 RO (16 R429). n of the LEn whose pair LE8 holds; 0xFF reserve -/
abbrev le8Pair : Obj :=
  mkObj (0xA001) (2) 0xa00102 (.u8) .ro (.none) (255) (none) []

/-- 0x7000 sub 1, BOOL RWS (18 R472). Train and use DDR4 (R448) -/
abbrev ddrEnable : Obj :=
  mkObj (0x7000) (1) 0x700001 (.bool) .rws (.L) (0) (none) []

/-- 0x7000 sub 2, U8 RWS (18 R472). As in R447 -/
abbrev memDensity : Obj :=
  mkObj (0x7000) (2) 0x700002 (.u8) .rws (.Q) (0) (none) []

/-- 0x7000 sub 3, U16 RWS (18 R472). MiB, 0–256 -/
abbrev bulkPoolSize : Obj :=
  mkObj (0x7000) (3) 0x700003 (.u16) .rws (.Q) (64) (some (0, 256)) []

/-- 0x7000 sub 4, U32 RWS (18 R472). Splits, 0–1 048 576 -/
abbrev historyLaps : Obj :=
  mkObj (0x7000) (4) 0x700004 (.u32) .rws (.Q) (65536) (some (0, 1048576)) []

/-- 0x7000 sub 5, U8 RWS (18 R472). h, 1–168 -/
abbrev patrolPeriod : Obj :=
  mkObj (0x7000) (5) 0x700005 (.u8) .rws (.L) (24) (some (1, 168)) []

/-- 0x7000 sub 6, U8 RWS (18 R472). h, 1–168 -/
abbrev mramScrubPeriod : Obj :=
  mkObj (0x7000) (6) 0x700006 (.u8) .rws (.L) (24) (some (1, 168)) []

/-- 0x7000 sub 7, BOOL RWS (18 R472). 1: 3.9 µs in every band (R454) -/
abbrev refreshFast : Obj :=
  mkObj (0x7000) (7) 0x700007 (.bool) .rws (.L) (0) (none) []

/-- 0x7001 sub 1, U8 RO (18 R472). As in R448 -/
abbrev ddrState : Obj :=
  mkObj (0x7001) (1) 0x700101 (.u8) .ro (.none) (0) (none) []

/-- 0x7001 sub 2, U16 RO (18 R472). MiB -/
abbrev sizeInUse : Obj :=
  mkObj (0x7001) (2) 0x700102 (.u16) .ro (.none) (0) (none) []

/-- 0x7001 sub 3, U8 RO (18 R472). 0–3; 0xFF never trained -/
abbrev trainedBand : Obj :=
  mkObj (0x7001) (3) 0x700103 (.u8) .ro (.none) (255) (none) []

/-- 0x7001 sub 4, U32 RO (18 R472). Since power-on -/
abbrev trainings : Obj :=
  mkObj (0x7001) (4) 0x700104 (.u32) .ro (.none) (0) (none) []

/-- 0x7001 sub 5, U32 RO (18 R472). Bursts -/
abbrev correctedDdr : Obj :=
  mkObj (0x7001) (5) 0x700105 (.u32) .ro (.none) (0) (none) []

/-- 0x7001 sub 6, U32 RO (18 R472). Bursts -/
abbrev uncorrectableDdr : Obj :=
  mkObj (0x7001) (6) 0x700106 (.u32) .ro (.none) (0) (none) []

/-- 0x7001 sub 7, U32 RO (18 R472). As in R449 -/
abbrev caParityRetries : Obj :=
  mkObj (0x7001) (7) 0x700107 (.u32) .ro (.none) (0) (none) []

/-- 0x7001 sub 8, U32 RO (18 R472). Completed DDR4 passes -/
abbrev patrolPasses : Obj :=
  mkObj (0x7001) (8) 0x700108 (.u32) .ro (.none) (0) (none) []

/-- 0x7001 sub 9, U64 RO (18 R472). b63 0 DDR4, 1 MRAM; b62..b0 byte address -/
abbrev lastCorrectedAddress : Obj :=
  mkObj (0x7001) (9) 0x700109 (.u64) .ro (.none) (0) (none) []

/-- 0x7001 sub 10, U32 RO (18 R472). Bursts -/
abbrev correctedMram : Obj :=
  mkObj (0x7001) (10) 0x70010a (.u32) .ro (.none) (0) (none) []

/-- 0x7001 sub 11, U32 RO (18 R472). Bursts -/
abbrev uncorrectableMram : Obj :=
  mkObj (0x7001) (11) 0x70010b (.u32) .ro (.none) (0) (none) []

/-- 0x7001 sub 12, U32 RO (18 R472). Completed passes -/
abbrev mramScrubPasses : Obj :=
  mkObj (0x7001) (12) 0x70010c (.u32) .ro (.none) (0) (none) []

/-- 0x7002 sub 1–4, I16 RWS (18 R472). ps, −100 to +100 -/
abbrev readOffset (i : Nat) : Obj :=
  mkObj (0x7002) (1 + i) 0x700201 (.i16) .rws (.L) (sel i [-6, 0, 8, 14]) (some (-100, 100)) []

/-- 0x7002 sub 5–8, I16 RWS (18 R472). ps, −100 to +100 -/
abbrev writeOffset (i : Nat) : Obj :=
  mkObj (0x7002) (5 + i) 0x700205 (.i16) .rws (.L) (sel i [-4, 0, 6, 10]) (some (-100, 100)) []

/-- 0x7003 sub 1, U32 RO (18 R472). Bytes used in the active half -/
abbrev journalUse : Obj :=
  mkObj (0x7003) (1) 0x700301 (.u32) .ro (.none) (0) (none) []

/-- 0x7003 sub 2, U32 RO (18 R472). As in R459 -/
abbrev compactions : Obj :=
  mkObj (0x7003) (2) 0x700302 (.u32) .ro (.none) (0) (none) []

/-- 0x7003 sub 3, U64 RO (18 R472). Bursts written since power-on -/
abbrev mramWrites : Obj :=
  mkObj (0x7003) (3) 0x700303 (.u64) .ro (.none) (0) (none) []

/-- 0x7010, 0x7011 sub 1, U32 RO (18 R472). Cells -/
abbrev poolTotal (k : Nat) : Obj :=
  mkObj (0x7010 + k) (1) 0x701001 (.u32) .ro (.none) (if k = 0 then 8192 else 0) (none) []

/-- 0x7010, 0x7011 sub 2, U32 RO (18 R472). Cells -/
abbrev poolFree (k : Nat) : Obj :=
  mkObj (0x7010 + k) (2) 0x701002 (.u32) .ro (.none) (if k = 0 then 8192 else 0) (none) []

/-- 0x7010, 0x7011 sub 3, U32 RO (18 R472). Cells -/
abbrev poolAllocated (k : Nat) : Obj :=
  mkObj (0x7010 + k) (3) 0x701003 (.u32) .ro (.none) (0) (none) []

/-- 0x7010, 0x7011 sub 4, U32 RO (18 R472). Cells -/
abbrev poolInFlight (k : Nat) : Obj :=
  mkObj (0x7010 + k) (4) 0x701004 (.u32) .ro (.none) (0) (none) []

/-- 0x7010, 0x7011 sub 5, U32 RO (18 R472). Cells, over enabled lanes -/
abbrev quotaSum (k : Nat) : Obj :=
  mkObj (0x7010 + k) (5) 0x701005 (.u32) .ro (.none) (if k = 0 then 64 else 0) (none) []

/-- 0x7010, 0x7011 sub 6, U32 RO (18 R472). Failed checks of R468 -/
abbrev mismatches (k : Nat) : Obj :=
  mkObj (0x7010 + k) (6) 0x701006 (.u32) .ro (.none) (0) (none) []

/-- 0x7010, 0x7011 sub 7, U32 RO (18 R472). Cells, as in R468 -/
abbrev reclaimed (k : Nat) : Obj :=
  mkObj (0x7010 + k) (7) 0x701007 (.u32) .ro (.none) (0) (none) []

/-- 0x7020 sub 2, U64 RW (18 R472). Capture lap -/
abbrev historySelect : Obj :=
  mkObj (0x7020) (2) 0x702002 (.u64) .rw (.L) (0) (none) []

/-- 0x7020 sub 3, DOMAIN RO (18 R472). 512 B, as in R457 -/
abbrev historySplit : Obj :=
  mkObj (0x7020) (3) 0x702003 (.dom 512) .ro (.none) (0) (none) []

/-- 0x7020 sub 4, U64 RO (18 R472). Oldest lap held -/
abbrev oldestLap : Obj :=
  mkObj (0x7020) (4) 0x702004 (.u64) .ro (.none) (0) (none) []

/-- 0x7020 sub 5, U64 RO (18 R472). Newest lap held -/
abbrev newestLap : Obj :=
  mkObj (0x7020) (5) 0x702005 (.u64) .ro (.none) (0) (none) []

/-- 0x7100 sub 1, BOOL RWS (18 R472). As in R470 -/
abbrev laneEnable (k : Nat) : Obj :=
  mkObj (0x7100 + k) (1) 0x710001 (.bool) .rws (.L) (if k = 0 then 1 else 0) (none) []

/-- 0x7100 sub 2, U8 RWS (18 R472). 0 on-chip, 1 bulk -/
abbrev lanePool (k : Nat) : Obj :=
  mkObj (0x7100 + k) (2) 0x710002 (.u8) .rws (.Q) (0) (some (0, 1)) []

/-- 0x7100 sub 3, U8 RWS (18 R472). B: 4, 8, 16, 32, 64 -/
abbrev wordSize (k : Nat) : Obj :=
  mkObj (0x7100 + k) (3) 0x710003 (.u8) .rws (.Q) (8) (none) [4, 8, 16, 32, 64]

/-- 0x7100 sub 4, U32 RWS (18 R472). Cells, 0–4 194 304 -/
abbrev quota (k : Nat) : Obj :=
  mkObj (0x7100 + k) (4) 0x710004 (.u32) .rws (.Q) (if k = 0 then 64 else 0) (some (0, 4194304)) []

/-- 0x7100 sub 5, U16 RWS (18 R472). ms, 0 off, 1–60 000 -/
abbrev idleTime (k : Nat) : Obj :=
  mkObj (0x7100 + k) (5) 0x710005 (.u16) .rws (.L) (1000) (some (1, 60000)) [0]

/-- 0x7100 sub 6, BOOL WO (18 R472). As in R465 -/
abbrev claim (k : Nat) : Obj :=
  mkObj (0x7100 + k) (6) 0x710006 (.bool) .wo (.L) (0) (none) []

/-- 0x7100 sub 7, DOMAIN RO (18 R472). 16 B header, then data -/
abbrev claimedItem (k : Nat) : Obj :=
  mkObj (0x7100 + k) (7) 0x710007 (.domUpTo 65552) .ro (.none) (0) (none) []

/-- 0x7100 sub 8, U32 WO (18 R472). Sequence number of the claimed item -/
abbrev release (k : Nat) : Obj :=
  mkObj (0x7100 + k) (8) 0x710008 (.u32) .wo (.L) (0) (none) []

/-- 0x7100 sub 9, DOMAIN WO (18 R472). Up to 1024 B, as in R464 -/
abbrev pushSegment (k : Nat) : Obj :=
  mkObj (0x7100 + k) (9) 0x710009 (.domUpTo 1024) .wo (.L) (0) (none) []

/-- 0x7200 sub 1, U32 RO (18 R472). Committed items held -/
abbrev items (k : Nat) : Obj :=
  mkObj (0x7200 + k) (1) 0x720001 (.u32) .ro (.none) (0) (none) []

/-- 0x7200 sub 2, U32 RO (18 R472). Cells held, all states -/
abbrev cells (k : Nat) : Obj :=
  mkObj (0x7200 + k) (2) 0x720002 (.u32) .ro (.none) (0) (none) []

/-- 0x7200 sub 3, U32 RO (18 R472). Sum of subs 4–7 -/
abbrev lostItems (k : Nat) : Obj :=
  mkObj (0x7200 + k) (3) 0x720003 (.u32) .ro (.none) (0) (none) []

/-- 0x7200 sub 4, U32 RO (18 R472). As in R466 -/
abbrev overwritten (k : Nat) : Obj :=
  mkObj (0x7200 + k) (4) 0x720004 (.u32) .ro (.none) (0) (none) []

/-- 0x7200 sub 5, U32 RO (18 R472). As in R453, R469 -/
abbrev damaged (k : Nat) : Obj :=
  mkObj (0x7200 + k) (5) 0x720005 (.u32) .ro (.none) (0) (none) []

/-- 0x7200 sub 6, U32 RO (18 R472). As in R466, R469 -/
abbrev refused (k : Nat) : Obj :=
  mkObj (0x7200 + k) (6) 0x720006 (.u32) .ro (.none) (0) (none) []

/-- 0x7200 sub 7, U32 RO (18 R472). As in R470 -/
abbrev flushed (k : Nat) : Obj :=
  mkObj (0x7200 + k) (7) 0x720007 (.u32) .ro (.none) (0) (none) []

/-- 0x7200 sub 8, U32 RO (18 R472). As in R463 -/
abbrev rewinds (k : Nat) : Obj :=
  mkObj (0x7200 + k) (8) 0x720008 (.u32) .ro (.none) (0) (none) []

/-- 0x7200 sub 9, U64 RO (18 R472). Cells -/
abbrev rewoundCells (k : Nat) : Obj :=
  mkObj (0x7200 + k) (9) 0x720009 (.u64) .ro (.none) (0) (none) []

/-- 0x7200 sub 10, U32 RO (18 R472). Last sequence number -/
abbrev committed (k : Nat) : Obj :=
  mkObj (0x7200 + k) (10) 0x72000a (.u32) .ro (.none) (0) (none) []

/-- 0x7200 sub 11, U32 RO (18 R472). As in R467 -/
abbrev idleNotices (k : Nat) : Obj :=
  mkObj (0x7200 + k) (11) 0x72000b (.u32) .ro (.none) (0) (none) []

/-- 0x7200 sub 12, U8 RO (18 R472). 0–15 session, 0x10 management port, 0xFF none -/
abbrev claimOwner (k : Nat) : Obj :=
  mkObj (0x7200 + k) (12) 0x72000c (.u8) .ro (.none) (255) (none) []

/-- 0x7200 sub 13, BOOL RO (18 R472). As in R467 -/
abbrev laneIdle (k : Nat) : Obj :=
  mkObj (0x7200 + k) (13) 0x72000d (.bool) .ro (.none) (0) (none) []

/-- 0x7800 sub 1, BOOL RW (19 R496). 1 freezes, 0 releases (R480) -/
abbrev freeze : Obj :=
  mkObj (0x7800) (1) 0x780001 (.bool) .rw (.L) (0) (none) []

/-- 0x7800 sub 2, U16 RWS (19 R496). s, 1–3600 -/
abbrev freezeTimeout : Obj :=
  mkObj (0x7800) (2) 0x780002 (.u16) .rws (.L) (60) (some (1, 3600)) []

/-- 0x7800 sub 3, U32 RW (19 R496). Position, 0–65 535 -/
abbrev recordSelect : Obj :=
  mkObj (0x7800) (3) 0x780003 (.u32) .rw (.L) (0) (some (0, 65535)) []

/-- 0x7800 sub 4, DOMAIN RO (19 R496). Up to 1024 B, as in R483 -/
abbrev recordBlock : Obj :=
  mkObj (0x7800) (4) 0x780004 (.domUpTo 1024) .ro (.none) (0) (none) []

/-- 0x7800 sub 5, DOMAIN RO (19 R496). 64 B, position RecordsHeld − 1 -/
abbrev lastRecord : Obj :=
  mkObj (0x7800) (5) 0x780005 (.dom 64) .ro (.none) (0) (none) []

/-- 0x7801 sub 1, U32 RO (19 R496). As in R473 -/
abbrev recordsHeld : Obj :=
  mkObj (0x7801) (1) 0x780101 (.u32) .ro (.none) (0) (none) []

/-- 0x7801 sub 2, BOOL RO (19 R496). As in R479 -/
abbrev full : Obj :=
  mkObj (0x7801) (2) 0x780102 (.bool) .ro (.none) (0) (none) []

/-- 0x7801 sub 3, BOOL RO (19 R496). As in R480 -/
abbrev frozen : Obj :=
  mkObj (0x7801) (3) 0x780103 (.bool) .ro (.none) (0) (none) []

/-- 0x7801 sub 4, U32 RO (19 R496). Since the last clear -/
abbrev frozenCount : Obj :=
  mkObj (0x7801) (4) 0x780104 (.u32) .ro (.none) (0) (none) []

/-- 0x7801 sub 5, U32 RO (19 R496). Since the last clear -/
abbrev refusedCount : Obj :=
  mkObj (0x7801) (5) 0x780105 (.u32) .ro (.none) (0) (none) []

/-- 0x7801 sub 6, U64 RO (19 R496). Since the last clear -/
abbrev repeatsTotal : Obj :=
  mkObj (0x7801) (6) 0x780106 (.u64) .ro (.none) (0) (none) []

/-- 0x7801 sub 7, U64 RO (19 R496). Since the last clear, as in R482 -/
abbrev eventsRaised : Obj :=
  mkObj (0x7801) (7) 0x780107 (.u64) .ro (.none) (0) (none) []

/-- 0x7801 sub 8, U32 RO (19 R496). Record writes and rewrites since power-on -/
abbrev recordWrites : Obj :=
  mkObj (0x7801) (8) 0x780108 (.u32) .ro (.none) (0) (none) []

/-- 0x7801 sub 9, U32 RO (19 R496). As in R483 -/
abbrev damagedReads : Obj :=
  mkObj (0x7801) (9) 0x780109 (.u32) .ro (.none) (0) (none) []

/-- 0x7801 sub 10, U32 RO (19 R496). Clears since manufacture -/
abbrev clearCount : Obj :=
  mkObj (0x7801) (10) 0x78010a (.u32) .ro (.none) (0) (none) []

/-- 0x7801 sub 11, STAMP RO (19 R496). Stamp of the last clear -/
abbrev lastClearStamp : Obj :=
  mkObj (0x7801) (11) 0x78010b (.stamp) .ro (.none) (0) (none) []

/-- 0x7801 sub 12, STAMP RO (19 R496). Stamp of the last freeze -/
abbrev freezeStamp : Obj :=
  mkObj (0x7801) (12) 0x78010c (.stamp) .ro (.none) (0) (none) []

/-- 0x7802 sub 1, BOOL WO (19 R496). Writing 1 draws a challenge -/
abbrev clearRequest : Obj :=
  mkObj (0x7802) (1) 0x780201 (.bool) .wo (.L) (0) (none) []

/-- 0x7802 sub 2, DOMAIN RO (19 R496). 16 B, as in R486 -/
abbrev clearChallenge : Obj :=
  mkObj (0x7802) (2) 0x780202 (.dom 16) .ro (.none) (0) (none) []

/-- 0x7802 sub 3, DOMAIN WO (19 R496). 16 B, as in R486 -/
abbrev clearResponse : Obj :=
  mkObj (0x7802) (3) 0x780203 (.dom 16) .wo (.L) (0) (none) []

/-- 0x7802 sub 4, DOMAIN WO (19 R496). 32 B, never readable (R485) -/
abbrev clearKey : Obj :=
  mkObj (0x7802) (4) 0x780204 (.dom 32) .wo (.L) (0) (none) []

/-- 0x7802 sub 5, BOOL RO (19 R496). Clear key present -/
abbrev clearKeyValid : Obj :=
  mkObj (0x7802) (5) 0x780205 (.bool) .ro (.none) (0) (none) []

/-- 0x7802 sub 6, U32 RO (19 R496). Since power-on -/
abbrev clearFailures : Obj :=
  mkObj (0x7802) (6) 0x780206 (.u32) .ro (.none) (0) (none) []

/-- 0x7810 sub 1, BOOL RWS (19 R496). Photo finish running (R490) -/
abbrev pfEnable : Obj :=
  mkObj (0x7810) (1) 0x781001 (.bool) .rws (.L) (0) (none) []

/-- 0x7810 sub 2, U8 RWS (19 R496). Slots, 1–16 -/
abbrev pfSlots : Obj :=
  mkObj (0x7810) (2) 0x781002 (.u8) .rws (.Q) (16) (some (1, 16)) []

/-- 0x7810 sub 3, U16 RWS (19 R496). MiB, 1–64 -/
abbrev pfSlotSize : Obj :=
  mkObj (0x7810) (3) 0x781003 (.u16) .rws (.Q) (8) (some (1, 64)) []

/-- 0x7810 sub 4, U8 RWS (19 R496). As in R488 -/
abbrev pfRate : Obj :=
  mkObj (0x7810) (4) 0x781004 (.u8) .rws (.Q) (0) (some (0, 4)) []

/-- 0x7810 sub 5, U32 RWS (19 R496). Frames, 0–F -/
abbrev pfPreFrames : Obj :=
  mkObj (0x7810) (5) 0x781005 (.u32) .rws (.Q) (100000) (none) []

/-- 0x7810 sub 6, U32 RWS (19 R496). Frames, 1–F -/
abbrev pfPostFrames : Obj :=
  mkObj (0x7810) (6) 0x781006 (.u32) .rws (.Q) (100000) (none) []

/-- 0x7810 sub 7, BOOL RWS (19 R496). As in R490 -/
abbrev pfAutoRearm : Obj :=
  mkObj (0x7810) (7) 0x781007 (.bool) .rws (.L) (1) (none) []

/-- 0x7810 sub 8, BOOL WO (19 R496). Writing 1 triggers -/
abbrev pfTrigger : Obj :=
  mkObj (0x7810) (8) 0x781008 (.bool) .wo (.L) (0) (none) []

/-- 0x7811 sub 0, DOMAIN RWS (19 R496). 64 B, as in R488 -/
abbrev pfChannels : Obj :=
  mkObj (0x7811) (0) 0x781100 (.dom 64) .rws (.Q) (0xffffffffffffffffffffffffffffffffffffffffffffffffffffffffffffffffffffffffffffffffffffffffffffffffffffffffffffffff9e96959493929190) (none) []

/-- 0x7812 sub 1, U8 RO (19 R496). 0 off, 1 live, 2 post-trigger, 3 no free slot -/
abbrev pfState : Obj :=
  mkObj (0x7812) (1) 0x781201 (.u8) .ro (.none) (0) (none) []

/-- 0x7812 sub 2, U8 RO (19 R496). Frozen slots -/
abbrev capturesHeld : Obj :=
  mkObj (0x7812) (2) 0x781202 (.u8) .ro (.none) (0) (none) []

/-- 0x7812 sub 3, U32 RO (19 R496). Since power-on -/
abbrev captures : Obj :=
  mkObj (0x7812) (3) 0x781203 (.u32) .ro (.none) (0) (none) []

/-- 0x7812 sub 4, U32 RO (19 R496). Triggers refused (R490) -/
abbrev pfRefused : Obj :=
  mkObj (0x7812) (4) 0x781204 (.u32) .ro (.none) (0) (none) []

/-- 0x7812 sub 5, U32 RO (19 R496). Captures lost (R493) -/
abbrev pfLost : Obj :=
  mkObj (0x7812) (5) 0x781205 (.u32) .ro (.none) (0) (none) []

/-- 0x7812 sub 6, U8 RO (19 R496). Slot being written; 0xFF none -/
abbrev liveSlot : Obj :=
  mkObj (0x7812) (6) 0x781206 (.u8) .ro (.none) (255) (none) []

/-- 0x7813 sub 1, DOMAIN RW (19 R496). 8 B: slot U8, reserved 3 B, offset U32 -/
abbrev pfSelect : Obj :=
  mkObj (0x7813) (1) 0x781301 (.dom 8) .rw (.L) (0) (none) []

/-- 0x7813 sub 2, DOMAIN RO (19 R496). Up to 1024 B, as in R492 -/
abbrev pfData : Obj :=
  mkObj (0x7813) (2) 0x781302 (.domUpTo 1024) .ro (.none) (0) (none) []

/-- 0x7813 sub 3, U8 WO (19 R496). Slot to free, 0–15 -/
abbrev pfRelease : Obj :=
  mkObj (0x7813) (3) 0x781303 (.u8) .wo (.L) (0) (some (0, 15)) []

/-- 0xA002 sub 1, U32 CONST (20 R515). Identifier of the package verification key -/
abbrev vendorKeyId : Obj :=
  mkObj (0xA002) (1) 0xa00201 (.u32) .const (.none) (Config.vendorKeyId) (none) []

/-- 0xA010 sub 1, DOMAIN WO (20 R515). Up to 1024 B: offset U32, data -/
abbrev packageWrite : Obj :=
  mkObj (0xA010) (1) 0xa01001 (.domUpTo 1024) .wo (.L) (0) (none) []

/-- 0xA010 sub 2, U32 RO (20 R515). Bytes held contiguously from 0 -/
abbrev packageBytes : Obj :=
  mkObj (0xA010) (2) 0xa01002 (.u32) .ro (.none) (0) (none) []

/-- 0xA010 sub 3, BOOL WO (20 R515). As in R505 -/
abbrev packageVerify : Obj :=
  mkObj (0xA010) (3) 0xa01003 (.bool) .wo (.L) (0) (none) []

/-- 0xA010 sub 4, U8 RO (20 R515). 0 empty, 1 loading, 2 verified, 3 rejected, 4 installed -/
abbrev packageState : Obj :=
  mkObj (0xA010) (4) 0xa01004 (.u8) .ro (.none) (0) (none) []

/-- 0xA010 sub 5, U8 RO (20 R515). As in R505 -/
abbrev packageReject : Obj :=
  mkObj (0xA010) (5) 0xa01005 (.u8) .ro (.none) (0) (none) []

/-- 0xA010 sub 6, U8 RO (20 R515). As in R504 -/
abbrev packageClass : Obj :=
  mkObj (0xA010) (6) 0xa01006 (.u8) .ro (.none) (255) (none) []

/-- 0xA010 sub 7, U32 RO (20 R515). As in R504 -/
abbrev packageVersion : Obj :=
  mkObj (0xA010) (7) 0xa01007 (.u32) .ro (.none) (0) (none) []

/-- 0xA010 sub 8, U16 RO (20 R515). As in R504 -/
abbrev packageSecurity : Obj :=
  mkObj (0xA010) (8) 0xa01008 (.u16) .ro (.none) (0) (none) []

/-- 0xA010 sub 9, BOOL WO (20 R515). As in R506 -/
abbrev packageInstall : Obj :=
  mkObj (0xA010) (9) 0xa01009 (.bool) .wo (.L) (0) (none) []

/-- 0xA010 sub 10, BOOL WO (20 R515). Empties the buffer -/
abbrev packageDiscard : Obj :=
  mkObj (0xA010) (10) 0xa0100a (.bool) .wo (.L) (0) (none) []

/-- 0xA020 sub 1, U32 RO (20 R515). As 0x1001 -/
abbrev bank0Version (k : Nat) : Obj :=
  mkObj (0xA020 + k) (1) 0xa02001 (.u32) .ro (.none) (Config.factoryVersion k) (none) []

/-- 0xA020 sub 2, U32 RO (20 R515). As 0x1001 -/
abbrev bank1Version (k : Nat) : Obj :=
  mkObj (0xA020 + k) (2) 0xa02002 (.u32) .ro (.none) (0) (none) []

/-- 0xA020 sub 3, U8 RO (20 R515). b0 bank 0, b1 bank 1 -/
abbrev bankValid (k : Nat) : Obj :=
  mkObj (0xA020 + k) (3) 0xa02003 (.u8) .ro (.none) (1) (none) []

/-- 0xA020 sub 4, U8 RO (20 R515). As in R510 -/
abbrev bootBank (k : Nat) : Obj :=
  mkObj (0xA020 + k) (4) 0xa02004 (.u8) .ro (.none) (0) (none) []

/-- 0xA020 sub 5, U16 RO (20 R515). As in R510 -/
abbrev securityFloor (k : Nat) : Obj :=
  mkObj (0xA020 + k) (5) 0xa02005 (.u16) .ro (.none) (Config.factorySecurity k) (none) []

/-- 0xA030 sub 1, U8 WO (20 R515). Bank, 0–1 (R509) -/
abbrev engineUpdate (k : Nat) : Obj :=
  mkObj (0xA030 + k) (1) 0xa03001 (.u8) .wo (.L) (0) (some (0, 1)) []

/-- 0xA030 sub 2, U8 RO (20 R515). Bank in use; b7 set when a GD load is pending -/
abbrev runningBank (k : Nat) : Obj :=
  mkObj (0xA030 + k) (2) 0xa03002 (.u8) .ro (.none) (0) (none) []

/-- 0xA030 sub 3, BOOL WO (20 R515). As in R512 -/
abbrev engineRetire (k : Nat) : Obj :=
  mkObj (0xA030 + k) (3) 0xa03003 (.bool) .wo (.L) (0) (none) []

/-- 0xA030 sub 4, U32 RO (20 R515). Since power-on -/
abbrev engineFailures (k : Nat) : Obj :=
  mkObj (0xA030 + k) (4) 0xa03004 (.u32) .ro (.none) (0) (none) []

/-- 0xA030 sub 5, STAMP RO (20 R515). Entry to the present EngineState -/
abbrev engineStateStamp (k : Nat) : Obj :=
  mkObj (0xA030 + k) (5) 0xa03005 (.stamp) .ro (.none) (0) (none) []

/-- 0xA040 sub 1, DOMAIN WO (20 R515). 12 B, as in R507 -/
abbrev pairMove : Obj :=
  mkObj (0xA040) (1) 0xa04001 (.dom 12) .wo (.L) (0) (none) []

/-- 0xA040 sub 2, U8 RO (20 R515). 0 none; 1–4 as in R508 -/
abbrev pairMoveState : Obj :=
  mkObj (0xA040) (2) 0xa04002 (.u8) .ro (.none) (0) (none) []

/-- 0xA040 sub 3, U64 RO (20 R515). B of the last move -/
abbrev pairMoveLap : Obj :=
  mkObj (0xA040) (3) 0xa04003 (.u64) .ro (.none) (0) (none) []

/-- 0xA040 sub 4, U64 WO (20 R515). Lap boundary; 0 next (R507) -/
abbrev swapLap : Obj :=
  mkObj (0xA040) (4) 0xa04004 (.u64) .wo (.L) (0) (none) []

/-- 0xA040 sub 5, U32 RO (20 R515). Since power-on -/
abbrev swaps : Obj :=
  mkObj (0xA040) (5) 0xa04005 (.u32) .ro (.none) (0) (none) []

/-- 0xA050 sub 1, BOOL WO (20 R515). As in R500 -/
abbrev standbyRequest : Obj :=
  mkObj (0xA050) (1) 0xa05001 (.bool) .wo (.L) (0) (none) []

/-- 0xA050 sub 2, U64 RO (20 R515). ms, as in R500 -/
abbrev lastStandbyDuration : Obj :=
  mkObj (0xA050) (2) 0xa05002 (.u64) .ro (.none) (0) (none) []

end Sys2Proof.Machine.O

namespace Sys2Proof.Machine

open O

/-- Index families, part 0 (16 R425). -/
def famTable0 : List Fam := [
  ⟨0x2001, 1, 1, 0, fun _ => [lineTrackEnable]⟩,
  ⟨0x2010, 1, 1, 0, fun _ => [nominalFreq, nominalVoltage, slewLimit, holdoverLaps, virtualRamp, bandwidthUtility, bandwidthGenerator, lockThreshold, lockLaps]⟩,
  ⟨0x2011, 1, 1, 0, fun _ => [lossLevel, lossDwell, returnLevel]⟩,
  ⟨0x2012, 1, 1, 0, fun _ => [varThreshold, varReleaseLaps, dcMinLevel]⟩,
  ⟨0x2013, 1, 1, 0, fun _ => [learnShift, devWindow, devCount, minLearnLaps, templateReset]⟩,
  ⟨0x2014, 1, 1, 0, fun _ => [qualFreqTol, qualUpperLevel]⟩,
  ⟨0x2020, 1, 1, 0, fun _ => [zoneOpen, zoneLength]⟩,
  ⟨0x2021, 1, 1, 0, fun _ => [splitAngle, splitLane]⟩,
  ⟨0x2022, 1, 1, 0, fun _ => [applyAngle]⟩,
  ⟨0x2030, 1, 1, 0, fun _ => [lastSplit]⟩,
  ⟨0x2040, 1, 8, 0, fun k => [systemSlot k]⟩,
  ⟨0x2048, 1, 56, 8, fun k => [slotWord k]⟩]

/-- Index families, part 1 (16 R425). -/
def famTable1 : List Fam := [
  ⟨0x2080, 1, 1, 0, fun _ => [timebaseState, sourceClass, lineFreq, phaseError, rotation, templateValid, qualifiedLaps, stampNow]⟩,
  ⟨0x2081, 1, 1, 0, fun _ => [lineLosses, relocks, devStarts]⟩,
  ⟨0x2410, 1, 16, 0, fun k => [phaseMap k]⟩,
  ⟨0x2420, 1, 1, 0, fun _ => (List.range 8).map (deadTime)⟩,
  ⟨0x2500, 16, 96, 0, fun k => [cellState k, cellFeed k, mapPosition k, balanceTrim k, lastOnTime k, retireCause k, retireStamp k, readmit k, imonZero k, imonGain k, limitedPulses k]⟩,
  ⟨0x3020, 256, 16, 0, fun k => [switchFreq k, onTimeMin k, onTimeMax k, offTimeMin k, trigMinInterval k, lossResistance k, phaseInductance k, rippleGain k, rippleLeak k, balanceGain k, balanceClamp k, phaseRating k, phaseLimit k, peakAllowance k, rearmLevel k, leadingBlank k, hiccupRounds k, hiccupTime k, recoveryQual k, deEnable k, deEntry k, deExit k, deDwell k, zcdThreshold k, floorFreq k, openRiseFrac k, sumTolerance k]⟩,
  ⟨0x3021, 256, 16, 0, fun k => [ocState k, activePhases k, retiredMask k, limitedRounds k, cappedRounds k, hiccups k, hsTestFail k, capacity k, deActive k]⟩,
  ⟨0x8020, 1, 16, 0, fun k => [stepEsState k, stepEsStamp k, stepEsWindowEnd k, specActiveMask k, specPreBias k]⟩,
  ⟨0x3000, 256, 16, 0, fun k => [feedEnable k, feedState k, stopMode k, stopFloor k, startTimeout k, loopRate k, controlEngine k, reached k, faultCause k]⟩,
  ⟨0x3001, 256, 16, 0, fun k => [targetVoltage k, hostSlewClass k, setpointOwner k, settleTime k, targetInForce k]⟩,
  ⟨0x3002, 256, 16, 0, fun k => (List.range 4).map (paceRate k) ++ [pacerPosition k]⟩,
  ⟨0x3003, 256, 16, 0, fun k => [compensator k]⟩]

/-- Index families, part 2 (16 R425). -/
def famTable2 : List Fam := [
  ⟨0x3004, 256, 16, 0, fun k => [notch1 k]⟩,
  ⟨0x3005, 256, 16, 0, fun k => [notch2 k]⟩,
  ⟨0x3006, 256, 16, 0, fun k => [ffGain k, ffCorner k]⟩,
  ⟨0x3007, 256, 16, 0, fun k => [shedEnable k, minPhases k, shedLevel k, addLevel k, shedDwell k, addDwell k, drainCycles k, undershootWindow k, riseThreshold k, riseSpan k, shedAborts k, shedCount k]⟩,
  ⟨0x3008, 256, 16, 0, fun k => [stepEsEnable k, stepThreshold k, preBiasFrac k, preBiasMax k, preBiasRelease k, stepCleanStarts k, stepFalseStarts k, ignoredHints k]⟩,
  ⟨0x3009, 256, 16, 0, fun k => [ovFrac k, uvFrac k, uvTime k, busRestart k]⟩,
  ⟨0x300A, 256, 16, 0, fun k => [linkEnable k, beatPeriod k, missLimit k, noticeTimeout k, noticeRetries k, linkLossAction k, samplePhaseOverride k]⟩,
  ⟨0x300B, 256, 16, 0, fun k => [linkState k, samplePhase k, linkRxFrames k, crcErrors k, linkDuplicates k, refusals k, lastRefusal k, missedTurns k, linkLosses k, noticesDiscarded k, lastSeq k]⟩,
  ⟨0x300C, 256, 16, 0, fun k => [tgEnable k, presenceDeglitch k, insertDelay k, tgUvLevel k, tgOvLevel k, tgUvTime k, inrushPower k, inrushCurrent k, inrushTimeout k, inrushDoneDrop k, foldbackDrop k, foldbackTime k, shortCurrent k, tgRetries k, coolDown k, tgRetryReset k, cableMinCurrent k, tgAck k]⟩,
  ⟨0x300D, 256, 16, 0, fun k => [tgState k, tgRetryCount k, tgTripCause k, tgTrips k, trayCapacitance k, trayLeakage k, cableResistance k, gateOnResistance k, inrushEnergy k, lastCloseStamp k, presence k, tgRetrying k]⟩,
  ⟨0x4700, 368, 2, 0, fun k => [regDrop k, revThreshold k, onThreshold k, prechargeDrop k, prechargeCurrent k, prechargeTimeout k, dropFault k, dropFaultTime k, revFaultCurrent k, revFaultTime k]⟩,
  ⟨0x4870, 1, 1, 0, fun _ => [preBiasLevel]⟩]

/-- Index families, part 3 (16 R425). -/
def famTable3 : List Fam := [
  ⟨0x4701, 1, 2, 0, fun k => [gateRequest k, gateMode k, forceOffCause k, conducting k, drop k, reverseOffs k, gateFault k, gateAck k]⟩,
  ⟨0x4871, 1, 4, 2, fun k => [gateRequest k, gateMode k, forceOffCause k, conducting k, drop k, reverseOffs k, gateFault k, gateAck k]⟩,
  ⟨0x4703, 1, 1, 0, fun _ => [busBarResistance, bbStepMin, bbSteps]⟩,
  ⟨0x8030, 1, 1, 0, fun _ => (List.range 4).map (specGateEnhance)⟩,
  ⟨0x4000, 1, 1, 0, fun _ => [rectEnable, groupEnableA, groupEnableB, rectPolicy, pecMode]⟩,
  ⟨0x4001, 1, 1, 0, fun _ => [busTarget, busPaceRate, busKp, busKi, trimRange, trimWindow, busMeasWindow, regFloor]⟩,
  ⟨0x4002, 1, 1, 0, fun _ => [busNotch]⟩,
  ⟨0x4003, 1, 1, 0, fun _ => [shareGain, shareClamp, droopResistance, shareMinCurrent]⟩,
  ⟨0x4004, 1, 1, 0, fun _ => [addFrac, shedFrac, redundantCount, minOnline, avgLaps, addSpacing, minOnLaps, minOffLaps, addOffset, shedOffset, addPreTrim, shedPreTrim, shedRampLaps, addSettleLaps, addCurrentFrac, rectRetries, rectRetryDelay, pairIdentMin]⟩,
  ⟨0x4005, 1, 1, 0, fun _ => [busSetpoint, busMean, integralTrim, commonTrim, regFrozen, rectPower, onlineCount, onlineCapacity, capacityState, adds, sheds]⟩,
  ⟨0x4010, 1, 4, 0, fun k => [portSpeed k, pbPortState k, speedInUse k, recoveries k, stuckCount k, portTxErrors k, overruns k, clockTimeouts k]⟩,
  ⟨0x4100, 1, 32, 0, fun k => [slotEnable k, address k, linePairFixed k, rectAck k]⟩]

/-- Index families, part 4 (16 R425). -/
def famTable4 : List Fam := [
  ⟨0x4200, 1, 32, 0, fun k => [rectState k, linePair k, outputCurrent k, voutCommand k, shareTrim k, lastStatusWord k, retryCount k, rectStateStamp k, rectRetrying k, slotTxErrors k]⟩,
  ⟨0x4300, 1, 32, 0, fun k => [capability k]⟩,
  ⟨0x4800, 1, 1, 0, fun _ => [chargeEnable, chargerFreq, chargerInductance, chargerPeakLimit] ++ (List.range 4).map (inputLimit) ++ [inputLimit4, thermNominal, thermBeta, tempHysteresis, coldLimit, coolLimit, warmLimit, hotLimit, coolFrac, warmFrac, dischargeHotLimit, stringDeglitch, chargeRamp, chargerEfficiency, sourceRow]⟩,
  ⟨0x4810, 1, 4, 0, fun k => [stringEnable k, cellCount k, ratedCapacity k, fastCurrent k, topoffCurrent k, topoffTime k, maintainCurrent k, qualifyCurrent k, qualifyVoltage k, qualifyTimeout k, negDeltaV k, dtDtLimit k, detectHoldoff k, fastTimeout k, maxCellVoltage k, rechargeCharge k, rechargeVoltage k, cutoffRelease k, cutoffTime k, chargerOvCell k, chargeSenseTol k, stringAck k, lampOverride k]⟩,
  ⟨0x4820, 1, 4, 0, fun k => [stringState k, suspendCause k, chargeSetpoint k, chargeCurrent k, stringVoltage k, temperature k, tempWindow k, stringIdentity k, endCause k, stringStateStamp k, chargerFault k, cutoffHold k, peakLimited k, removals k, lampCode k, stateElapsed k, cutoffVoltage k]⟩,
  ⟨0x8031, 1, 1, 0, fun _ => (List.range 4).map (specChargePause)⟩,
  ⟨0x4880, 1, 1, 0, fun _ => [chargeEfficiency, polarizationFrac, polarizationTau, processNoiseSoc, processNoiseVp, measNoise, initialSocSigma, ocvTempCoef, restCurrent, restTime, anchorMinSlope, capLearnMinSpan, rStepMin, resistanceTempCoef, disagreeLimit, holdupMinLoad, outlierGate]⟩,
  ⟨0x4881, 1, 1, 0, fun _ => [ocvTable]⟩,
  ⟨0x4890, 1, 4, 0, fun k => [shuntResistance k, shuntOffset k, shuntGainTrim k, initialResistance k, forgetLearned k]⟩,
  ⟨0x48A0, 1, 4, 0, fun k => [socValid k, stateOfCharge k, chargeSoC k, holdupSoC k, coulombIntegral k, anchorSum k, anchorCount k, lastAnchorStamp k, learnedCapacity k, resistanceInUse k, resistance25 k, polarizationVoltage k, capacityUpdates k, resistanceUpdates k, outliers k, usableCharge k, learnedSource k, disagree k, overloads k, socSigma k]⟩,
  ⟨0x48B0, 1, 1, 0, fun _ => [holdupSeconds, holdupLoad, writeBacks, writeBacksDeferred]⟩,
  ⟨0x48C0, 1, 4, 0, fun k => [recordA k, recordB k, newestSlot k]⟩]

/-- Index families, part 5 (16 R425). -/
def famTable5 : List Fam := [
  ⟨0x2100, 1, 1, 0, fun _ => [holdupEnable, holdupEsEnable, confirmAngle, holdupThreshold, holdupSamples, armHysteresis, preloadFrac, preloadMax, preloadRelease, returnQualLaps, returnLift, returnStagger, returnLaps, holdupTarget]⟩,
  ⟨0x2101, 1, 1, 0, fun _ => [holdupState, batonHolder, entryCause, deviationStamp, earlyStartStamp, entryStamp, holdupBudget, returnStamp, exitStamp, busArmed, lapsSinceChange]⟩,
  ⟨0x2102, 1, 1, 0, fun _ => [holdups, holdupCleanStarts, holdupFalseStarts, ignoredDeviations, returnsCompleted, returnsCancelled, returnsTimedOut, rideThroughs]⟩,
  ⟨0x8000, 1, 1, 0, fun _ => [holdupEsState, stepEsMask]⟩,
  ⟨0x8010, 1, 1, 0, fun _ => [specEarlyStartStamp, specDeviationStamp, specConfirmStamp, specBudget, specSagVoltage, specPreload]⟩,
  ⟨0x5000, 1, 1, 0, fun _ => [shelfId, creditEnable, creditRetryLaps, creditStaleLaps, maxTransfer, acceptEnable, feedEfficiency, chargeReservePerString]⟩,
  ⟨0x5001, 1, 1, 0, fun _ => [allotment, creditPool, chargingReserve, holdupReserve, escrowOut, escrowIn, ledgerFrozen, creditLastCommitStamp, holdupReserveTarget, holdupReserveShortfall, chargeReserveTarget]⟩,
  ⟨0x5002, 1, 1, 0, fun _ => [transfersOut, transfersIn, refusedOut, refusedOutCredits, refusedIn, refusedInCredits, adjustedTotal, duplicatesAnswered, staleTransfers, badMessages]⟩,
  ⟨0x5003, 1, 1, 0, fun _ => [transferOffer]⟩,
  ⟨0x5004, 1, 1, 0, fun _ => [lastOfferId]⟩,
  ⟨0x5005, 1, 1, 0, fun _ => [transferWithdraw]⟩,
  ⟨0x5006, 1, 1, 0, fun _ => [escrowResolve]⟩]

/-- Index families, part 6 (16 R425). -/
def famTable6 : List Fam := [
  ⟨0x5007, 1, 1, 0, fun _ => [ledgerAdjust]⟩,
  ⟨0x5008, 1, 1, 0, fun _ => [ledgerAck]⟩,
  ⟨0x5010, 1, 16, 0, fun k => [grantRequest k, grant k, grantMax k, capacityCeiling k, enforceState k, graceLeft k, capInForce k, overrunLaps k, lapPower k, grantShortfall k]⟩,
  ⟨0x5020, 1, 1, 0, fun _ => [overrunTol, graceLaps, capMargin, clearLaps, faultLaps]⟩,
  ⟨0x5030, 1, 1, 0, fun _ => [transferTable]⟩,
  ⟨0x5031, 1, 1, 0, fun _ => [peerFloors]⟩,
  ⟨0x5040, 1, 1, 0, fun _ => [ledgerRecordA, ledgerRecordB]⟩,
  ⟨0x5050, 1, 16, 0, fun k => [peerShelfId k]⟩,
  ⟨0x5800, 1, 1, 0, fun _ => [seqEnable, subtreeRetries, sequenceRetries, retryDelay, seqRetryDelay, seqRetryReset, seqAck]⟩,
  ⟨0x5801, 1, 1, 0, fun _ => [seqState, seqRetrying, sequenceRetryCount, worstRecovery, seqFltLine, seqFltDriving, sharedShutdowns, dischargeTimeouts, downFailures, latches, lastFailRail, snapshots]⟩,
  ⟨0x5802, 1, 1, 0, fun _ => [seqFltEnable, seqFltMode, seqFltDeglitch, seqFltRelease, seqFltRestart, seqFltStuckTime]⟩,
  ⟨0x5810, 1, 24, 0, fun k => [railKind k, feedNumber k, predecessors k, pgDeglitch k, qualTime k, chatterLimit k, pgTimeout k, startDelay k, stopDelay k, dischargeTimeout k, pgPolarity k]⟩]

/-- Index families, part 7 (16 R425). -/
def famTable7 : List Fam := [
  ⟨0x5840, 1, 24, 0, fun k => [railState k, railFailCause k, chatterCount k, subtreeRetryCount k, railFailures k, railStateStamp k, pgLevel k, sourceRetrying k]⟩,
  ⟨0x5880, 1, 8, 0, fun k => [rstMask k, rstStretch k, rstAsserted k]⟩,
  ⟨0x6800, 1, 1, 0, fun _ => [routerEnable, evoWidth]⟩,
  ⟨0x6810, 1, 64, 0, fun k => [unitEnable k, input k, mode k, threshLo k, threshHi k, tickSource k, persist k, routeHold k, output k, clear k, trips k, lastTripStamp k, edgeFlags k, edgeClear k]⟩,
  ⟨0x6860, 1, 1, 0, fun _ => [outputMask, latchClearMask]⟩,
  ⟨0x6880, 1, 4, 0, fun k => [timerDelay k, timerRunning k, ignoredStarts k]⟩,
  ⟨0x6900, 1, 64, 0, fun k => [sourceMask k, hits k, lastHitStamp k, lastSources k]⟩,
  ⟨0x6000, 1, 1, 0, fun _ => [faultNPulse, faultNPulseMask, faultNHoldMask, faultNLevel]⟩,
  ⟨0x6001, 1, 1, 0, fun _ => [openBView, openCView, classAView, controllerClassA]⟩,
  ⟨0x6010, 1, 1, 0, fun _ => [classABlock, classASource, classACode, classAStamp]⟩,
  ⟨0x6011, 1, 1, 0, fun _ => [prevClassABlock, prevClassASource, prevClassACode, prevClassAStamp]⟩,
  ⟨0x6100, 1, 96, 0, fun k => [openMask k, bSources k, bFirstStamp k, bFirstCode k, bParams k, cFirstStamp k, cFirstCode k, cMergeCount k, cLastStamp k, cParams k, aStamp k, aSource k, aCode k, faultAck k, intMask k, retrying k, countD k, countC k, countB k]⟩]

/-- Index families, part 8 (16 R425). -/
def famTable8 : List Fam := [
  ⟨0x6200, 1, 1, 0, fun _ => [riseWarn, riseShutdown, shutdownTemp, bandHysteresis]⟩,
  ⟨0x6201, 1, 1, 0, fun _ => [tj, band, riseRate, tjMax, bandChanges, riseWarnings, sensorFault, aboveRange]⟩,
  ⟨0x1010, 1, 1, 0, fun _ => [macBase]⟩,
  ⟨0x1020, 1, 2, 0, fun k => [portEnable k, plcaNodeId k, plcaNodeCount k, plcaToTimer k, plcaBurst k, beaconLossTime k, portLossTime k, segmentMeasure k, velocityFactor k]⟩,
  ⟨0x1028, 1, 2, 0, fun k => [netPortState k, netRxFrames k, txFrames k, fcsErrors k, collisions k, beaconLosses k, foreignFrames k, segmentLength k, segmentFault k, tagErrors k, portDuplicates k]⟩,
  ⟨0x1030, 1, 1, 0, fun _ => [wallClockSync, syncPair, wallClockNow]⟩,
  ⟨0x1100, 1, 16, 0, fun k => [sessionState k, sessionId k, sessionKeySlot k, sessionMode k, rxSeqHigh k, txSeq k, replayMask k, sessionDuplicates k, tooOld k, notifyDropped k]⟩,
  ⟨0x1200, 1, 1, 0, fun _ => [sessionIdle, waitTimeout, notifyRetry, notifyRetries, openFailures, sessionsRefused]⟩,
  ⟨0x1400, 1, 8, 0, fun k => [key k, rights k, keyValid k, keyClear k]⟩,
  ⟨0x1500, 1, 16, 0, fun k => [peerKeySlot k, peerMacNA k, peerMacNB k, peerSession k]⟩,
  ⟨0x1F00, 1, 1, 0, fun _ => [fence]⟩,
  ⟨0x1F20, 1, 1, 0, fun _ => [notifyMask]⟩]

/-- Index families, part 9 (16 R425). -/
def famTable9 : List Fam := [
  ⟨0x9000, 1, 1, 0, fun _ => [snapshotFence]⟩,
  ⟨0x9001, 1, 1, 0, fun _ => [generation, captureStamp, capturedBy]⟩,
  ⟨0x9010, 1, 16, 0, fun k => [engineMirror k]⟩,
  ⟨0x9100, 1, 1, 0, fun _ => [timebaseMirror]⟩,
  ⟨0x9101, 1, 1, 0, fun _ => [holdupMirror]⟩,
  ⟨0x9200, 1, 96, 0, fun k => [cellMirror k]⟩,
  ⟨0x9300, 16, 16, 0, fun k => [feedCheckpoint k, phaseMapMirror k, linkMirror k]⟩,
  ⟨0x9400, 1, 16, 0, fun k => [trayGateMirror k]⟩,
  ⟨0x9410, 1, 6, 0, fun k => [diodeGateMirror k]⟩,
  ⟨0x9500, 1, 1, 0, fun _ => [busMirror]⟩,
  ⟨0x9510, 1, 32, 0, fun k => [slotMirror k]⟩,
  ⟨0x9530, 1, 4, 0, fun k => [pmbusMirror k]⟩]

/-- Index families, part 10 (16 R425). -/
def famTable10 : List Fam := [
  ⟨0x9600, 1, 4, 0, fun k => [chargerMirror k]⟩,
  ⟨0x9610, 1, 4, 0, fun k => [gaugeMirror k]⟩,
  ⟨0x9700, 1, 1, 0, fun _ => [ledgerMirror]⟩,
  ⟨0x9701, 1, 1, 0, fun _ => [transferMirror]⟩,
  ⟨0x9702, 1, 1, 0, fun _ => [floorMirror]⟩,
  ⟨0x9710, 1, 16, 0, fun k => [enforceMirror k]⟩,
  ⟨0x9800, 1, 24, 0, fun k => [railMirror k]⟩,
  ⟨0x9820, 1, 1, 0, fun _ => [sequencerMirror]⟩,
  ⟨0x9828, 1, 1, 0, fun _ => [resetMirror]⟩,
  ⟨0x9900, 1, 64, 0, fun k => [unitMirror k]⟩,
  ⟨0x9940, 1, 4, 0, fun k => [timerMirror k]⟩,
  ⟨0x9A00, 1, 88, 0, fun k => [faultMirror k]⟩]

/-- Index families, part 11 (16 R425). -/
def famTable11 : List Fam := [
  ⟨0x9A60, 1, 1, 0, fun _ => [thermalMirror]⟩,
  ⟨0x9B00, 1, 16, 0, fun k => [sessionMirror k] ++ (List.range 64).map (cachedResponse k)⟩,
  ⟨0x9B20, 1, 2, 0, fun k => [plcaMirror k]⟩,
  ⟨0x9C00, 1, 1, 0, fun _ => [dictMirror]⟩,
  ⟨0x9D00, 1, 128, 0, fun k => [laneMirror k]⟩,
  ⟨0x9D80, 1, 1, 0, fun _ => [poolMirror]⟩,
  ⟨0x9E00, 1, 1, 0, fun _ => [recorderMirror]⟩,
  ⟨0x1000, 1, 1, 0, fun _ => [vendorName, deviceName, orderingCode, siliconStepping, serialNumber, dictionaryRevision]⟩,
  ⟨0x1001, 1, 1, 0, fun _ => (List.range 16).map (firmwareVersion)⟩,
  ⟨0x1002, 1, 1, 0, fun _ => [powerOnCount]⟩,
  ⟨0x1F10, 1, 1, 0, fun _ => [commit]⟩,
  ⟨0x1F11, 1, 1, 0, fun _ => [stagingOwner, stagedCount, queuedCount, commits, commitsRefused, stagingDiscarded, stagingTimeout, storeFailures, storeLoadErrors, stagingLastCommitStamp, commitFailObject, queueDiscarded]⟩]

/-- Index families, part 12 (16 R425). -/
def famTable12 : List Fam := [
  ⟨0x1F12, 1, 1, 0, fun _ => [segmentSelect, segmentData]⟩,
  ⟨0x1F30, 1, 1, 0, fun _ => [factoryRestore]⟩,
  ⟨0x2200, 1, 1, 0, fun _ => [autostartEnable, bringUpTimeout, lockWaitLaps]⟩,
  ⟨0x2201, 1, 1, 0, fun _ => [autostartState, autostartStep, autostartStamp, autostartFailCause]⟩,
  ⟨0x2202, 1, 1, 0, fun _ => [storedEnables]⟩,
  ⟨0xA000, 1, 1, 0, fun _ => (List.range 16).map (engineState)⟩,
  ⟨0xA001, 1, 1, 0, fun _ => [activeShelfCore, le8Pair]⟩,
  ⟨0x7000, 1, 1, 0, fun _ => [ddrEnable, memDensity, bulkPoolSize, historyLaps, patrolPeriod, mramScrubPeriod, refreshFast]⟩,
  ⟨0x7001, 1, 1, 0, fun _ => [ddrState, sizeInUse, trainedBand, trainings, correctedDdr, uncorrectableDdr, caParityRetries, patrolPasses, lastCorrectedAddress, correctedMram, uncorrectableMram, mramScrubPasses]⟩,
  ⟨0x7002, 1, 1, 0, fun _ => (List.range 4).map (readOffset) ++ (List.range 4).map (writeOffset)⟩,
  ⟨0x7003, 1, 1, 0, fun _ => [journalUse, compactions, mramWrites]⟩,
  ⟨0x7010, 1, 2, 0, fun k => [poolTotal k, poolFree k, poolAllocated k, poolInFlight k, quotaSum k, mismatches k, reclaimed k]⟩]

/-- Index families, part 13 (16 R425). -/
def famTable13 : List Fam := [
  ⟨0x7020, 1, 1, 0, fun _ => [historySelect, historySplit, oldestLap, newestLap]⟩,
  ⟨0x7100, 1, 128, 0, fun k => [laneEnable k, lanePool k, wordSize k, quota k, idleTime k, claim k, claimedItem k, release k, pushSegment k]⟩,
  ⟨0x7200, 1, 128, 0, fun k => [items k, cells k, lostItems k, overwritten k, damaged k, refused k, flushed k, rewinds k, rewoundCells k, committed k, idleNotices k, claimOwner k, laneIdle k]⟩,
  ⟨0x7800, 1, 1, 0, fun _ => [freeze, freezeTimeout, recordSelect, recordBlock, lastRecord]⟩,
  ⟨0x7801, 1, 1, 0, fun _ => [recordsHeld, full, frozen, frozenCount, refusedCount, repeatsTotal, eventsRaised, recordWrites, damagedReads, clearCount, lastClearStamp, freezeStamp]⟩,
  ⟨0x7802, 1, 1, 0, fun _ => [clearRequest, clearChallenge, clearResponse, clearKey, clearKeyValid, clearFailures]⟩,
  ⟨0x7810, 1, 1, 0, fun _ => [pfEnable, pfSlots, pfSlotSize, pfRate, pfPreFrames, pfPostFrames, pfAutoRearm, pfTrigger]⟩,
  ⟨0x7811, 1, 1, 0, fun _ => [pfChannels]⟩,
  ⟨0x7812, 1, 1, 0, fun _ => [pfState, capturesHeld, captures, pfRefused, pfLost, liveSlot]⟩,
  ⟨0x7813, 1, 1, 0, fun _ => [pfSelect, pfData, pfRelease]⟩,
  ⟨0xA002, 1, 1, 0, fun _ => [vendorKeyId]⟩,
  ⟨0xA010, 1, 1, 0, fun _ => [packageWrite, packageBytes, packageVerify, packageState, packageReject, packageClass, packageVersion, packageSecurity, packageInstall, packageDiscard]⟩]

/-- Index families, part 14 (16 R425). -/
def famTable14 : List Fam := [
  ⟨0xA020, 1, 7, 0, fun k => [bank0Version k, bank1Version k, bankValid k, bootBank k, securityFloor k]⟩,
  ⟨0xA030, 1, 16, 0, fun k => [engineUpdate k, runningBank k, engineRetire k, engineFailures k, engineStateStamp k]⟩,
  ⟨0xA040, 1, 1, 0, fun _ => [pairMove, pairMoveState, pairMoveLap, swapLap, swaps]⟩,
  ⟨0xA050, 1, 1, 0, fun _ => [standbyRequest, lastStandbyDuration]⟩]

/-- Every index family of the dictionary (16 R425); an index in none of them does not exist (R406). -/
def famTable : List Fam :=
  famTable0 ++ famTable1 ++ famTable2 ++ famTable3 ++ famTable4 ++ famTable5 ++ famTable6 ++ famTable7 ++ famTable8 ++ famTable9 ++ famTable10 ++ famTable11 ++ famTable12 ++ famTable13 ++ famTable14

end Sys2Proof.Machine
end

