-- ==== Sys2Proof/Machine/Device.lean ====
section
/-! DEFINITION. What the block holds. The dictionary's scalar values stand in the register file `regs`, each
under its index and sub; everything else the spec gives the block stands in the records below. -/

namespace Sys2Proof.Machine

/-- The register file: address and value of every object that does not hold its default, addresses
strictly rising. -/
abbrev RegFile := List (Nat × Int)

/-- A set of pending writes of one path: address, value. -/
abbrev WriteSet := List (Nat × Int)

/-- What the block has sent or driven, in the order of sending (newest first in `Device.outs`).
DESIGN CHOICE 7 (notes/assumptions). -/
inductive Out where
  /-- Block interrupt to its engine, NE and the management port (14 R363). -/
  | irq (block sub : Nat)
  /-- Pulse of a scheduler line (02 R45). -/
  | sched (line : Nat)
  /-- Answer to an access of a path (16 R411–R419): status, disposition, value read. -/
  | result (path index sub status disp : Nat) (value : List Byte)
  /-- Frame sent on a feed link (05). -/
  | zfl (link : Nat) (frame : List Byte)
  /-- PMBus transaction: port, target address, command code, data written (07 R180). -/
  | pmbus (port address code : Nat) (data : List Byte)
  /-- Ethernet frame sent on a field port, from the destination address to the padding (15 R383). -/
  | frame (port : Nat) (bytes : List Byte)
  /-- BEACON cycle, test pulse and other signals of a field port, by rule (15 R378, R382). -/
  | medium (port rule : Nat)
  /-- Pulse of an external pin or line of the router: kind and number (13). -/
  | pulse (kind num : Nat)
  /-- Edge of a router source (13 R346). -/
  | source (s : Nat)
  /-- Request of a hardware or host action that has no state of its own, named by its rule. -/
  | note (rule : Nat) (args : List Int)
  deriving DecidableEq, Repr

/-- An event offered to the recorder (19 R477). -/
structure Event where
  code : Nat
  source : Nat
  block : Nat
  /-- 0 D, 1 C, 2 B, 3 A (19 R474). -/
  cls : Nat
  stamp : Nat
  params : List Byte
  twoStamp : Bool
  deriving DecidableEq, Repr

/-- A record position (19 R474). -/
structure Record where
  ev : Event
  forced : Bool
  repeats : Nat
  lastStamp : Nat
  /-- The stored bytes no longer decode (19 R483). -/
  damaged : Bool
  deriving DecidableEq, Repr

/-- The cause latched at the controller's class-A safe state (14 R367). -/
structure ClassACause where
  block : Nat
  source : Nat
  code : Nat
  stamp : Nat
  deriving DecidableEq, Repr

/-- Fault status of one block, 0x6100 + b (14 R355–R361). -/
structure FaultBlock where
  /-- Listed sources of the open B entry with stamp and code of their listing; empty: no open entry. -/
  bSources : List (Nat × Nat × Nat)
  bFirstStamp : Nat
  bFirstCode : Nat
  bParams : List Byte
  cOpen : Bool
  cFirstStamp : Nat
  cFirstCode : Nat
  cMerge : Nat
  cLastStamp : Nat
  cParams : List Byte
  aHeld : Bool
  aStamp : Nat
  aSource : Nat
  aCode : Nat
  countD : Int
  countC : Int
  countB : Int
  /-- (source, class) of the events taken at `seenStamp` (14 R357). -/
  seenStamp : Nat
  seen : List (Nat × Nat)
  deriving DecidableEq, Repr

/-- A block with nothing open. -/
def FaultBlock.reset : FaultBlock :=
  ⟨[], 0, 0, [], false, 0, 0, 0, 0, [], false, 0, 0, 0, 0, 0, 0, 0, []⟩

/-- Level of a three-state output (03 R83, 08 R220).
DESIGN CHOICE 159 (notes/assumptions). -/
inductive Tri where
  | low | mid | high
  deriving DecidableEq, Repr

/-- Drive of an ideal-diode gate (06 R166–R172, 16 R428).
DESIGN CHOICE 159 (notes/assumptions). -/
inductive Drive where
  | off | precharge | regulating | full | reverseHold | preBias
  deriving DecidableEq, Repr

/-- What a lamp does (08 R235): off, steady, slow or fast blink. -/
inductive Blink where
  | off | steady | slow | fast
  deriving DecidableEq, Repr

/-- The output pins of the block (20 R497).
DESIGN CHOICE 159 (notes/assumptions). -/
structure Pins where
  pwm : List Tri
  chPwm : List Tri
  drven : List Bool
  chDrven : List Bool
  tgg : List Bool
  gate : List Drive
  seqEn : List Bool
  rstOut : List Bool
  faultN : Bool
  seqFltN : Bool
  alertN : Bool
  /-- Green and amber lamp of each string. -/
  lamp : List (Blink × Blink)
  zclkRun : List Bool
  evo : List Bool
  deriving DecidableEq, Repr

/-- Every output at its inert level: mid, deasserted, low, off, reset outputs asserted, open-drain
lines released, lamps off (20 R497). -/
def Pins.inert : Pins :=
  { pwm := List.replicate 96 .mid, chPwm := List.replicate 4 .mid
    drven := List.replicate 16 false, chDrven := List.replicate 4 false
    tgg := List.replicate 16 false, gate := List.replicate 6 .off
    seqEn := List.replicate 24 false, rstOut := List.replicate 8 true
    faultN := true, seqFltN := true, alertN := true
    lamp := List.replicate 4 (.off, .off), zclkRun := List.replicate 16 false, evo := List.replicate 4 false }

/-- Supplies, clocks and power states (01 R18–R24, 20 R497–R500, 21 R520–R523). -/
structure Sys where
  /-- The power-on reset of the controller is released (21 R523). -/
  vdd : Bool
  /-- VAON is inside its operating conditions. -/
  vaon : Bool
  brownOut : Bool
  coreRunning : Bool
  /-- 0 not in standby, 1 by StandbyRequest, 2 by the thermal shutdown. -/
  standby : Nat
  /-- Rails out of range, by their source code in block 86. -/
  outOfRange : List Nat
  /-- 0 supply on, 1 brown-out, 2 watchdog (19 R484). -/
  resetCause : Nat
  aonCalibrated : Bool
  /-- Class-A causes after the first, counted by GD (14 R367). -/
  laterCauses : Nat
  deriving DecidableEq, Repr

/-- State of the AON domain: it survives a fall of VDD (14 R367, 17 R440). -/
structure Aon where
  classA : Option ClassACause
  prevClassA : Option ClassACause
  address : Nat
  wakes : Nat
  wakeFailures : Nat
  stuckReleases : Nat
  discarded : Nat
  busyNacks : Nat
  deriving DecidableEq, Repr

/-- The AON domain when VAON has just come up, with A = 0 on the address pins. -/
def Aon.reset : Aon := ⟨none, none, 0x68, 0, 0, 0, 0, 0⟩

/-- One scheduler slot: the word in force, its firings and the stamp of the last one (02 R44–R46). -/
structure Slot where
  word : Nat
  fires : Nat
  last : Option Nat
  deriving DecidableEq, Repr

/-- One SV10 sample of a lap: bin and the three line-to-line voltages in mV (02 R40). -/
structure Bin where
  k : Nat
  ab : Rat
  bc : Rat
  ca : Rat
  deriving DecidableEq, Repr

/-- The angle engine (02). -/
structure Timebase where
  /-- Stamp: lap × 65 536 + angle (00 R5). -/
  stamp : Nat
  /-- Frequency word, in Hz. -/
  freq : Rat
  /-- f_I of the loop filter, in Hz. -/
  freqI : Rat
  linePresent : Bool
  /-- Consecutive samples below LossLevel. -/
  belowRun : Nat
  /-- Consecutive samples at or above ReturnLevel. -/
  aboveRun : Nat
  lockRun : Nat
  unlockRun : Nat
  /-- Index of the last SV10 trigger of the lap. -/
  lastSample : Option Nat
  /-- What that trigger converted: voltages of LA, LB, LC in mV and their currents in mA (02 R32). -/
  lineInputs : List Int
  /-- Line frequency of the last lap in mHz, and its duration in ns. -/
  lapFreq : Rat
  lapDur : Nat
  /-- Lap frequencies in mHz since the line became present, newest first. -/
  freqs : List Rat
  /-- Frequencies in mHz of the last 16 laps measured with the line present, newest first (02 R34). -/
  seenFreqs : List Rat
  /-- Stamp of the entry to HOLDOVER (02 R34). -/
  holdFrom : Nat
  negRun : Nat
  dcTest : Bool
  dcRun : Nat
  dcFailRun : Nat
  varRun : Nat
  /-- What the samples of the lap in progress were. -/
  lapSamples : List Bin
  lapOutside : Bool
  lapLocked : Bool
  lapTracked : Bool
  lapDc : Bool
  lapAmpOk : Bool
  /-- The line was present throughout the lap so far. -/
  lapPresent : Bool
  template : List Bin
  templateLaps : Nat
  outRun : Nat
  inRun : Nat
  /-- Stamps of the first 16 samples of the run outside the window and of the run inside it, oldest first (02 R42). -/
  outStamps : List Nat
  inStamps : List Nat
  /-- The DEV_START that no DEV_END has followed: stamps of its first and K-th sample. -/
  dev : Option (Nat × Nat)
  /-- The two stamps of the last DEV_END (02 R42). -/
  devEnd : Option (Nat × Nat)
  qualFreqs : List Rat
  slots : List Slot
  /-- Slot 2 has opened a zone that slot 3 has not closed: its stamp and length (02 R49, R50). -/
  zoneOpen : Bool
  zoneFrom : Nat
  zoneLen : Nat
  /-- Lap in which the last zone opened. -/
  zoneLap : Option Nat
  splitSeq : Nat
  lastSplit : List Byte
  splitStamp : Nat
  splitDev : Bool
  worstErr : Int
  deriving DecidableEq, Repr

/-- Word of a system slot: ANGLE, OUT = its own number, MODE, EN, divider 1 (02 R44, R48). -/
def slotWordOf (angle out mode : Nat) (en : Bool) : Nat :=
  angle * 2 ^ 48 + out * 2 ^ 28 + mode * 2 ^ 26 + (if en then 2 ^ 24 else 0)

/-- The slots at power-on: the controller's own at their default angles, the others empty (02 R48). -/
def slotsReset : List Slot :=
  [⟨slotWordOf 0 0 0 true, 0, none⟩, ⟨slotWordOf 0x4000 1 0 true, 0, none⟩,
   ⟨slotWordOf 0 2 2 true, 0, none⟩, ⟨slotWordOf 0x2000 3 2 true, 0, none⟩,
   ⟨slotWordOf 0 4 0 false, 0, none⟩, ⟨slotWordOf 0 5 0 false, 0, none⟩,
   ⟨slotWordOf 0 6 0 true, 0, none⟩, ⟨slotWordOf 0 7 0 false, 0, none⟩] ++
  List.replicate 56 ⟨0, 0, none⟩

/-- The timebase at power-on: stamp 0, 50.000 Hz, no line (02 R28).
DESIGN CHOICE 8 (notes/assumptions). -/
def Timebase.reset : Timebase :=
  { stamp := 0, freq := 50, freqI := 50, linePresent := false, belowRun := 0, aboveRun := 0
    lockRun := 0, unlockRun := 0, lastSample := none, lineInputs := List.replicate 6 0
    lapFreq := 50000, lapDur := 20000000, freqs := [], seenFreqs := [], holdFrom := 0, negRun := 0, dcTest := false, dcRun := 0, dcFailRun := 0, varRun := 0
    lapSamples := [], lapOutside := false, lapLocked := false, lapTracked := false, lapDc := false
    lapAmpOk := false, lapPresent := false, template := [], templateLaps := 0, outRun := 0
    inRun := 0, outStamps := [], inStamps := [], dev := none, devEnd := none, qualFreqs := [], slots := slotsReset
    zoneOpen := false, zoneFrom := 0, zoneLen := 0, zoneLap := none, splitSeq := 0, lastSplit := List.replicate 512 0
    splitStamp := 0, splitDev := false, worstErr := 0 }


/-- A write waiting in the apply queue, or staged: path, address, value (16 R416, R417). -/
structure Pending where
  path : Nat
  key : Nat
  value : Int
  deriving DecidableEq, Repr

/-- A write of MRAM that waits for a brown-out to clear (01 R24, 16 R421): the store of values, or of the defaults of a
factory restore, with the answer that waits for it (path, index, sub); a host's write whose effect is a write of MRAM
(path, address, bytes); the count of a power-on; the bank that GD has loaded. -/
inductive Deferred where
  | store (entry : List (Nat × Int)) (answer : Option (Nat × Nat × Nat))
  | restore (entry : List (Nat × Int)) (answer : Option (Nat × Nat × Nat))
  | write (path key : Nat) (bytes : List Byte)
  | count (n : Int)
  | gdLoad
  deriving DecidableEq, Repr

/-- The dictionary's own machinery (16 R416–R427). -/
structure Dict where
  queue : List Pending
  /-- The staging set and its owner. -/
  staged : Option (Nat × List Pending)
  /-- Address of each path's segment select value (16 R408), by path 0–16. -/
  segSelect : List Int
  /-- Held objects that a host has written since power-on (20 R503). -/
  hostWritten : List Nat
  /-- Port configuration applied since power-on, for NA and NB (15 R380, 16 R415). -/
  portApplied : List Bool
  /-- Capture buffer of the state mirror: address and bytes (16 R427). -/
  mirror : List (Nat × List Byte)
  deferred : List Deferred
  deriving DecidableEq, Repr

/-- Nothing queued, staged or captured. -/
def Dict.reset : Dict := ⟨[], none, List.replicate 17 0, [], [false, false], [], []⟩

/-- The management port (17). -/
structure Mgmt where
  pointer : Nat
  alertCause : Nat
  alertMask : Nat
  winIndex : Nat
  winSub : Nat
  winOp : Nat
  winLen : Nat
  winState : Nat
  winDisp : Nat
  winStatus : Nat
  winStamp : Nat
  opCount : Nat
  /-- The operation of the window has been started; its result: status, disposition, value, stamp. -/
  started : Bool
  result : Option (Nat × Nat × List Byte × Nat)
  data : List Byte
  /-- Fast status page as of its last refresh, and the refresh count. -/
  page : List Byte
  refreshes : Nat
  deriving DecidableEq, Repr

/-- The port at a reset of the controller. -/
def Mgmt.reset : Mgmt := ⟨0, 0, 0x0100, 0, 0, 0, 0, 0, 0, 0, 0, 0, false, none, List.replicate 1024 0, List.replicate 256 0, 0⟩

/-- An image bank of an engine class (20 R506). -/
structure Bank where
  valid : Bool
  image : List Byte
  version : Int
  security : Int
  deriving DecidableEq, Repr

/-- One engine class in MRAM: its two banks, the boot bank and the security floor (20 R506, R510). -/
structure ClassBanks where
  bank0 : Bank
  bank1 : Bank
  boot : Nat
  floor : Int
  deriving DecidableEq, Repr

/-- One engine (01 R10–R16, 20 R509, R512). EngineState itself is the object 0xA000. -/
structure Engine where
  /-- Bank it runs. -/
  bank : Nat
  failedOnce : Bool
  /-- Bank being loaded by an update in progress, and the path whose write it answers. -/
  load : Option (Nat × Nat)
  deriving DecidableEq, Repr

/-- A pair move in progress (20 R507, R508): pair, back to LEn, boundary lap. -/
structure Move where
  pair : Nat
  back : Bool
  boundary : Nat
  deriving DecidableEq, Repr

/-- The events of 10 R268 and a DEV_END that share a stamp: they are ruled together (10 R270). -/
structure HoldDue where
  stamp : Nat
  /-- First sample of the DEV_START, 0 for none. -/
  dev : Nat
  /-- Bits of EntryCause. -/
  causes : Int
  /-- A DEV_END whose K-th sample has this stamp. -/
  ended : Bool
  deriving DecidableEq, Repr

/-- Policy work that fell due in a lap after the active shelf core had failed (01 R15): the lap commit of a split whose
interval began at a stamp, with the feeds' powers in mW; the sharing update with V̄ in V; a ruling of hold-up; the
cancellation of a return. -/
inductive PolicyWork where
  | commit (start : Nat) (powers : List Int)
  | sharing (vBar : Rat)
  | hold (u : HoldDue)
  | returnCancel
  deriving DecidableEq, Repr

/-- Engines, moves and the package buffer (20). -/
structure Engines where
  engine : List Engine
  move : Option Move
  /-- Lap boundary of a shelf-core swap that is pending. -/
  swap : Option Nat
  /-- Lap in which the active shelf core failed, until the swap, and the policy work due since (01 R15). -/
  failedLap : Option Nat
  due : List PolicyWork
  package : List Byte
  /-- A verification in progress: path and verdict. An installation in progress: path. -/
  verifying : Option (Nat × Nat)
  installing : Option Nat
  /-- Autostart: the objects of the present step have been applied; lap of the entry to it; step 3 ended on its
  laps; feeds that step 9 has enabled. -/
  applied : Bool
  waitFromLap : Nat
  lockExpired : Bool
  enabledFeeds : List Nat
  deriving DecidableEq, Repr

/-- Engines stopped, no move, empty buffer. -/
def Engines.reset : Engines :=
  ⟨List.replicate 16 ⟨0, false, none⟩, none, none, none, [], [], none, none, false, 0, false, []⟩




/-- A learned record of a string in MRAM (09 R257). Sequence 0: never written. -/
structure Learned where
  seq : Nat
  identity : Nat
  qInt : Int
  aSum : Int
  /-- C_L in mAh and R_25 in µΩ, as stored. -/
  cl : Int
  r25 : Int
  lastAnchor : Nat
  capUpdates : Nat
  /-- b0 capacity learned, b1 resistance learned, b2 absent at the write. -/
  flags : Nat
  stamp : Nat
  powerOns : Nat
  /-- The stored CRC does not match. -/
  damaged : Bool
  deriving DecidableEq, Repr

/-- A slot never written. -/
def Learned.blank : Learned := ⟨0, 0, 0, 0, 0, 0, 0, 0, 0, 0, 0, false⟩

/-- One gauge sample as GE uses it (09 R240–R242): I_n and I_d in A, V_str in V, and whether it is an overload sample. -/
structure GaugeCell where
  i : Rat
  id : Rat
  v : Rat
  ovl : Bool
  deriving DecidableEq, Repr

/-- Sums over samples: I_n, I_d, the charger current, V_str, and how many. -/
structure GaugeSum where
  i : Rat
  id : Rat
  ch : Rat
  v : Rat
  n : Nat
  deriving DecidableEq, Repr

/-- No sample. -/
def GaugeSum.zero : GaugeSum := ⟨0, 0, 0, 0, 0⟩

/-- What GE counts in gauge samples of 250 µs or in seconds, and the measured values that it keeps (08 R220–R233,
09 R242–R253). -/
structure Watch where
  /-- Latest samples, newest first, at most 20; samples so far. -/
  win : List GaugeCell
  count : Nat
  /-- Latest V_str in V and charger current in A. -/
  v : Rat
  ch : Rat
  /-- Samples since the last Kalman step and whether one is an overload, since the last 1 s means, the last lap boundary; the largest I_d of the lap. -/
  step : GaugeSum
  stepOvl : Bool
  sec : GaugeSum
  lap : GaugeSum
  idPeak : Rat
  /-- The last 1 s means (08 R222, R228, R230). -/
  last : Option GaugeSum
  /-- Samples since the gate changed mode, since the last resistance step used, and the mode then (09 R249, R251). -/
  sinceMode : Nat
  mode : Int
  sinceStep : Nat
  /-- Samples in a row with |I_n| < RestCurrent (09 R253). -/
  rest : Nat
  /-- Samples in a row at or above QualifyVoltage, MaxCellVoltage, the release of the cut-off (08 R227, R229, R233). -/
  qualify : Nat
  atMax : Nat
  release : Nat
  /-- 1 ms means in a row with V_cut below V_eod (08 R233). -/
  cut : Nat
  /-- Seconds in a row of a recharge by voltage and of a sense error (08 R222, R230). -/
  low : Nat
  sense : Nat
  deriving DecidableEq, Repr

/-- Nothing measured yet: neither a change of the gate's mode nor a step in the last 100 ms. -/
def Watch.reset : Watch :=
  { win := [], count := 0, v := 0, ch := 0, step := .zero, stepOvl := false, sec := .zero, lap := .zero, idPeak := 0, last := none
    sinceMode := 400, mode := 0, sinceStep := 400, rest := 0, qualify := 0, atMax := 0, release := 0, cut := 0, low := 0
    sense := 0 }

/-- One string with its charger and its gauge, beyond its objects (08, 09). -/
structure Str where
  /-- An identity read is in progress; failed reads in a row. -/
  reading : Bool
  fails : Nat
  /-- Identity held when the string was last present; the present string is anonymous. -/
  held : Nat
  anonymous : Bool
  /-- The output window has tripped and nothing has ruled it yet (08 R222). -/
  tripped : Bool
  /-- Charge state that a suspension has left (08 R231). -/
  left : Nat
  /-- Forced OFF by DischargeHotLimit (08 R232). -/
  hotOff : Bool
  /-- I_r in A (08 R220). -/
  ir : Rat
  /-- I_set in A (08 R223). -/
  iset : Rat
  /-- The trim δ in A (08 R220). -/
  delta : Rat
  /-- ns in the charge state at the last lap boundary, without SUSPENDED (08 R229); below 0 by the part of the lap before
  the entry. -/
  elapsed : Int
  /-- Criteria of R228: peak, consecutive counts, temperature means with their evaluations, evaluations so far, seconds since
  the reset, I_set then. -/
  vPk : Option Rat
  negRun : Nat
  riseRun : Nat
  temps : List (Nat × Rat)
  evals : Nat
  sinceReset : Nat
  isetAtReset : Rat
  /-- Evaluations that take no sample after a pause (08 R234). -/
  skip : Nat
  /-- Q_int at the last entry to MAINTAIN, in µAs (08 R230). -/
  qMaintain : Int
  /-- Lap means: T_s in °C, V_str in V, I_n in A; largest I_d of the lap in A; R_s in Ω as of the lap boundary (09 R248). -/
  temp : Rat
  vLap : Rat
  iLap : Rat
  idMax : Rat
  rs : Rat
  /-- What is counted and kept from sample to sample. -/
  watch : Watch
  /-- Q_stored and the hardware accumulator in µAs, with the residue (09 R243). -/
  qStored : Int
  acc : Int
  residue : Rat
  aSum : Int
  /-- C_L in As and R_25 in Ω. -/
  cl : Rat
  r25 : Rat
  capLearned : Bool
  resLearned : Bool
  capUpdates : Nat
  lastAnchor : Nat
  /-- Kalman state: s, V_p in V, covariance (09 R248). -/
  soc : Rat
  vp : Rat
  p11 : Rat
  p12 : Rat
  p21 : Rat
  p22 : Rat
  /-- The record has been restored, or an insertion anchor taken, since identification (09 R250). -/
  ready : Bool
  /-- The rest in progress has had its anchor; V_rest in V of a rest anchor that its lap boundary takes (09 R253, R263). -/
  rested : Bool
  restDue : Option Rat
  /-- Identified while GE did not run: whether with the identity held, and the 1 s mean of V_str then (08 R216, 09 R263). -/
  due : Option (Bool × Rat)
  /-- Open capacity span: s_a at its start, Q_in and Q_out in As (09 R254). -/
  span : Option (Rat × Rat × Rat)
  /-- Consecutive overload samples (09 R241). -/
  overRun : Nat
  /-- Record last written or restored, and whether a write waits for the brown-out to clear (09 R259, R260). -/
  written : Learned
  deferred : Bool
  /-- An anchor has been taken since the last split (09 R264). -/
  anchored : Bool
  /-- Q_int at the last split (09 R264). -/
  qSplit : Int
  deriving DecidableEq, Repr

/-- A string that has never been present: defaults of R258.
DESIGN CHOICE 62 (notes/assumptions). -/
def Str.reset : Str :=
  { reading := false, fails := 0, held := 0, anonymous := false, tripped := false, left := 0, hotOff := false
    ir := 0, iset := 0, delta := 0, elapsed := 0, vPk := none, negRun := 0, riseRun := 0, temps := [], evals := 0, sinceReset := 0
    isetAtReset := 0, skip := 0, qMaintain := 0, temp := 25, vLap := 0, iLap := 0, idMax := 0, rs := 6 / 1000, watch := .reset
    qStored := 0, acc := 0, residue := 0, aSum := 0, cl := 432000, r25 := 6 / 1000, capLearned := false
    resLearned := false, capUpdates := 0, lastAnchor := 0, soc := 0, vp := 0, p11 := 0, p12 := 0, p21 := 0
    p22 := 0, ready := false, rested := false, restDue := none, due := none, span := none, overRun := 0, written := Learned.blank
    deferred := false, anchored := false, qSplit := 0 }



/-- The entries of the ledger with the fields that stand beside them in its record (11 R287, R289). -/
structure Book where
  /-- A, P, G_0 … G_15, R_c, R_h, E_out, E_in. -/
  allot : Int
  pool : Int
  grants : List Int
  rc : Int
  rh : Int
  eout : Int
  ein : Int
  /-- Next transfer counter. -/
  next : Nat
  frozen : Bool
  /-- The baton is with the strings. -/
  baton : Bool
  deriving DecidableEq, Repr

/-- Every entry 0: a controller that leaves the factory (11 R288). -/
def Book.zero : Book := ⟨0, 0, List.replicate 16 0, 0, 0, 0, 0, 0, false, false⟩

/-- A ledger record in MRAM (11 R289). Sequence 0: never written. -/
structure LedgerRec where
  seq : Nat
  stamp : Nat
  book : Book
  powerOns : Int
  kind : Nat
  xfer : List Byte
  /-- The stored CRC does not match. -/
  damaged : Bool
  deriving DecidableEq, Repr

/-- A slot never written. -/
def LedgerRec.blank : LedgerRec := ⟨0, 0, Book.zero, 0, 0, List.replicate 32 0, false⟩

/-- When the message of a record was last sent: not since a restart or a takeover (11 R305), not yet at all, or at a lap
commit of a lap (11 R303). -/
inductive Sending where
  | restart
  | never
  | at (lap : Nat)
  deriving DecidableEq, Repr

/-- A transfer record (11 R304), with what the repeats need. -/
structure Transfer where
  id : Nat
  peer : Nat
  giver : Bool
  /-- 1 OFFERED, 2 WITHDRAWING, 3 SETTLED, 4 CLOSED, 5 ACCEPTED, 6 RELEASED, 7 REFUSED. -/
  st : Nat
  amount : Int
  stamp : Nat
  reason : Nat
  repeats : Nat
  /-- The allotment after the commit that the record's message reports (11 R301). -/
  allot : Int
  /-- Sequence of the ledger record that brought it in. -/
  born : Nat
  sent : Sending
  /-- Lap commits waited in the present state; the stale notice has been recorded. -/
  waited : Nat
  said : Bool
  deriving DecidableEq, Repr

/-- The floor of a giver, and the highest of its counters that has been evicted (11 R304). -/
structure Floor where
  giver : Nat
  floor : Nat
  top : Nat
  deriving DecidableEq, Repr

/-- Enforcement counts of a feed: clear laps and fault laps (11 R308). -/
structure Enforce where
  clear : Nat
  fault : Nat
  deriving DecidableEq, Repr


/-- An operation of an accepted request: it has been started, and its result, once it has one (15 R391). -/
structure OpSlot where
  op : Op
  started : Bool
  result : Option (Nat × List Byte)
  deriving DecidableEq, Repr

/-- An outstanding request (15 R393). -/
structure Req where
  seq : Nat
  /-- Place in the order in which NE accepts requests (15 R394). -/
  turn : Nat
  fence : Bool
  ops : List OpSlot
  deriving DecidableEq, Repr

/-- A notification that waits for its acknowledgement, or for its sending (15 R399). -/
structure Notif where
  seq : Nat
  tries : Nat
  body : List Byte
  deriving DecidableEq, Repr

/-- One session entry, beyond its objects 0x1100 + s (15 R387–R399). -/
structure Session where
  /-- Peer entry of a peer session; this controller has sent its OPEN. -/
  peer : Option Nat
  opener : Bool
  /-- Port of the OPEN, and the MAC bound on each port. -/
  port : Nat
  macs : List (Nat × Nat)
  /-- N_h and K_s (15 R387). -/
  nonce : List Byte
  key : List Byte
  requests : List Req
  /-- Cached responses: request SEQ, response SEQ, body. -/
  cache : List (Nat × Nat × List Byte)
  notifyMask : Int
  unacked : List Notif
  queued : List Notif
  deriving DecidableEq, Repr

/-- A free session entry. -/
def Session.reset : Session := ⟨none, false, 0, [], [], [], [], [], 0, [], []⟩

/-- One field port, beyond its objects (15 R376–R382). -/
structure NetPort where
  /-- PLCA ID in use, 0xFF for CSMA/CD. -/
  id : Nat
  /-- A follower that has fallen back to CSMA/CD. -/
  fellBack : Bool
  silent : Bool
  /-- A segment measurement is in progress, and has been repeated once. -/
  measuring : Bool
  repeated : Bool
  deriving DecidableEq, Repr

/-- The field network (15). -/
structure Net where
  port : List NetPort
  session : List Session
  /-- UTC and stamp of the latest pair, zero before the first. -/
  syncPair : List Byte
  /-- 1 s interval of the crystal in which a tag error has last been raised (15 R384). -/
  tagSecond : Option Nat
  /-- Requests accepted so far, in all sessions. -/
  accepted : Nat
  deriving DecidableEq, Repr

/-- Ports silent and unconfigured, no session, no pair. -/
def Net.reset : Net :=
  ⟨List.replicate 2 ⟨0xFF, false, true, false, false⟩, List.replicate 16 Session.reset,
   List.replicate 16 0, none, 0⟩

/-- The parts of the recorder that do not survive a loss of supply (19 R477, R480, R486). -/
structure Rec where
  queue : List Event
  challenge : Option (List Byte)
  /-- Position read by RecordSelect stands in its object. -/
  lost : Nat
  deriving DecidableEq, Repr

/-- One photo-finish slot (19 R489–R491). State: 0 empty, 1 live, 2 post-trigger, 3 frozen, 4 damaged. -/
structure PfSlot where
  state : Nat
  number : Nat
  trigger : Nat
  sources : List Byte
  extra : Nat
  recordPos : Option Nat
  clears : Nat
  channels : List Byte
  rate : Nat
  /-- Frames kept before the trigger, and from it on, oldest first; each frame is its channel words. -/
  pre : List (Nat × List Nat)
  post : List (Nat × List Nat)
  short : Bool
  deriving DecidableEq, Repr

/-- An empty slot. -/
def PfSlot.reset : PfSlot := ⟨0, 0, 0, [], 0, none, 0, [], 0, [], [], false⟩

/-- What MRAM holds: it survives every loss of supply (01 R24, 16 R421, 19 R473, 20 R506). -/
structure Mram where
  /-- Stored values of RWS objects that have been written. -/
  store : RegFile
  powerOnCount : Int
  /-- Records, newest first: RecordsHeld is their number. -/
  log : List Record
  repeats : Nat
  frozen : Nat
  refused : Nat
  raised : Nat
  clears : Nat
  clearKey : Option (List Byte)
  keys : List (Option (List Byte))
  /-- Learned records: slot A of string n at 2n, slot B at 2n + 1 (09 R257). -/
  learned : List Learned
  /-- Ledger slots A and B, transfer table, peer floors and AdjustedTotal (11 R289, R304, R314). -/
  ledA : LedgerRec
  ledB : LedgerRec
  transfers : List Transfer
  floors : List Floor
  adjusted : Int
  banks : List ClassBanks
  /-- Bank that GD loads at its next load (20 R509). -/
  gdPending : Option Nat
  /-- Bytes used in the active half of the journal (18 R459). -/
  journal : Nat
  /-- A port configuration has been stored, for NA and NB (16 R429 StoredEnables byte 7). -/
  portStored : List Bool
  deriving DecidableEq, Repr

/-- MRAM of a unit as manufactured: nothing stored, no record, bank 0 of every class valid.
DESIGN CHOICE 6 (notes/assumptions). -/
def Mram.factory : Mram :=
  { store := [], powerOnCount := 0, log := [], repeats := 0, frozen := 0, refused := 0, raised := 0
    clears := 0, clearKey := none, keys := List.replicate 8 none
    learned := List.replicate 8 Learned.blank, ledA := LedgerRec.blank, ledB := LedgerRec.blank
    transfers := [], floors := [], adjusted := 0
    banks := (List.range 7).map fun c =>
      ⟨⟨true, Config.factoryImage c, Config.factoryVersion c, Config.factorySecurity c⟩, ⟨false, [], 0, 0⟩, 0,
        Config.factorySecurity c⟩
    gdPending := none, journal := 0, portStored := [false, false] }


/-- One pulse of a cell, from the evaluation tick that fired it (03 R64). -/
structure Pulse where
  /-- eu since that tick. -/
  age : Nat
  /-- DT_LH and DT_HL in eu, as they stand at the low-to-mid edge (R84). -/
  lh : Nat
  hl : Nat
  /-- The on-time in eu. -/
  on : Nat
  /-- The age at which the current limit ended the pulse, if it did (R72). -/
  cut : Option Nat
  /-- Its currents have been compared (R78). -/
  measured : Bool
  /-- IMON has fallen below ZcdThreshold within DT_HL (R69). -/
  zero : Bool
  /-- The round that the firing belongs to (R73). -/
  round : Nat
  deriving DecidableEq, Repr

/-- A round of a feed that is not counted yet (03 R73): its number, its firings, those whose pulse has not ended, whether
it has all its firings, and whether one was an over-current or a capped pulse. -/
structure Round where
  no : Nat
  fired : Nat
  left : Nat
  full : Bool
  limited : Bool
  capped : Bool
  deriving DecidableEq, Repr

/-- A target that takes force at the next loop sample (04 R94): mV, slew class, and the SEQ of the tray command. -/
structure Target where
  mv : Int
  slew : Nat
  cmd : Option Nat
  deriving DecidableEq, Repr

/-- One phase cell, beyond its objects 0x2500 + 0x10·n (03 R59–R82). -/
structure Cell where
  /-- Emulated ripple x_i, in A (R61). -/
  x : Rat
  /-- Balance trim b_i (R67). -/
  trim : Rat
  /-- The last pulse, until a safe state, parking or retirement ends it. -/
  pulse : Option Pulse
  /-- Low side turned off by the zero-current comparator (R69). -/
  lowOff : Bool
  /-- Current-limit threshold of the pulse, in A, and whether the cap term was the smaller (R71, R72). -/
  limit : Rat
  capped : Bool
  rearmed : Bool
  /-- Pulses since the cell entered ACTIVE, and since it entered DRAINING (R67, R101). -/
  pulses : Nat
  drained : Nat
  /-- Last IMON samples in A, newest first, at most 8. -/
  imon : List Rat
  /-- Consecutive samples outside 24–1176 mV, and consecutive pulses without a rise (R78, R79). -/
  rangeRun : Nat
  noRise : Nat
  /-- Re-admitted and waiting for its own pre-start test (R82). -/
  waiting : Bool
  deriving DecidableEq, Repr

/-- A cell that has taken no pulse. -/
def Cell.reset : Cell :=
  ⟨0, 0, none, false, 0, false, true, 0, 0, [], 0, 0, false⟩

/-- An unruled step early start (04 R105–R107). -/
structure StepEs where
  stamp : Nat
  windowEnd : Nat
  /-- I_F at the receipt of the Hint, in A. -/
  base : Rat
  /-- Diode emulation was in force at the receipt. -/
  wasDe : Bool
  /-- Cells that were PARKED, and the cell that was DRAINING, at the receipt. -/
  parked : List Nat
  draining : Option Nat
  deriving DecidableEq, Repr

/-- One feed, beyond its objects (03 R61–R81, 04 R89–R117). Voltages in V, currents in A. -/
structure Feed where
  integ : Rat
  err : Rat
  q1 : Rat
  q2 : Rat
  n1w1 : Rat
  n1w2 : Rat
  n2w1 : Rat
  n2w2 : Rat
  /-- Step pre-bias P, its step per sample while it is released, and the samples left. -/
  pre : Rat
  preStep : Rat
  preLeft : Nat
  vlp : Rat
  vset : Rat
  vtgt : Rat
  /-- Expected-sag preload ΔV_pre (10 R272). -/
  sag : Rat
  /-- Its fall per µs while it is released. -/
  sagStep : Rat
  u : Rat
  /-- The last U was clamped at U_min (−1), at U_max (1) or not (0). -/
  clamped : Int
  slew : Nat
  /-- A target that waits for the next loop sample (04 R94). -/
  order : Option Target
  /-- Diode emulation forced by a start (R112 step 5). -/
  forcedDe : Bool
  /-- Ripple mean m, in V (03 R62). -/
  ripple : Rat
  rot : Nat
  pendingFire : Bool
  /-- Rounds that are not counted yet, oldest first, the number of the last one, and the limited rounds in a row (03
  R73, R74). -/
  rounds : List Round
  roundNo : Nat
  limitedRun : Nat
  /-- Stamp of the entry to RUNNING (11 R308). -/
  runFrom : Nat
  /-- Stamps of the last capped round and of the last ruling of a step early start (04 R100). -/
  cappedStamp : Option Nat
  esStamp : Option Nat
  /-- Cap of credit enforcement in 0.1 A, and whether the capacity limit is in force (R71, R81). -/
  creditCap : Option Int
  capacityLimit : Bool
  iHist : List Rat
  /-- The last four conversions of SV6 and SV7 input k, newest first (04 R87). -/
  vConv : List Rat
  iConv : List Rat
  vfb : Rat
  vbus : Rat
  /-- Consecutive samples beyond SumTolerance: the excess and the cell currents (R79). -/
  sums : List (Rat × List (Nat × Rat))
  sumSuspended : Bool
  settling : Bool
  ovRun : Nat
  senseRun : Nat
  busRun : Nat
  uvRun : Bool
  /-- eu since the last firing (R63). -/
  sinceFire : Nat
  /-- The cell that is DRAINING (R101). -/
  draining : Option Nat
  /-- Cells that drain back after a false start (R107). -/
  drainBack : List Nat
  /-- Diode emulation resumes at the next firing (R107). -/
  resumeDe : Bool
  es : Option StepEs
  /-- Reserve cell brought in since the last map write (03 R58). -/
  reserveIn : Bool
  checkpoints : Nat
  /-- V_fb of the last 16 loop samples, newest first, and the Query items 1 to 8 as of the last loop sample (05 R142). -/
  vHist : List Rat
  items : List Int
  deriving DecidableEq, Repr

/-- A feed whose law has never run.
DESIGN CHOICE 8 (notes/assumptions). -/
def Feed.reset : Feed :=
  { integ := 0, err := 0, q1 := 0, q2 := 0, n1w1 := 0, n1w2 := 0, n2w1 := 0, n2w2 := 0, pre := 0
    preStep := 0, preLeft := 0, vlp := 0, vset := 0, vtgt := 0, sag := 0, sagStep := 0, u := 0, clamped := 0, slew := 0
    forcedDe := false, order := none, ripple := 0, rot := 0, pendingFire := false, rounds := []
    roundNo := 0, limitedRun := 0, runFrom := 0, cappedStamp := none, esStamp := none
    creditCap := none, capacityLimit := false, iHist := [], vConv := [], iConv := [], vfb := 0, vbus := 0, sums := []
    sumSuspended := false, settling := false, ovRun := 0, senseRun := 0, busRun := 0, uvRun := false
    sinceFire := 0, draining := none, drainBack := [], resumeDe := false, es := none
    reserveIn := false, checkpoints := 0, vHist := [], items := [] }


/-- A notice of the controller: sequence number, type, payload and the times it has been sent again
(05 R136). -/
structure Notice where
  seq : Nat
  kind : Nat
  payload : List Byte
  tries : Nat
  deriving DecidableEq, Repr

/-- One feed link, beyond its objects 0x300B (05 R133–R148). -/
structure Link where
  /-- LAST: SEQ, TYPE and payload of the last executed command, with the cached answer: TYPE, payload. -/
  last : Option (Nat × Nat × List Byte)
  answer : Nat × List Byte
  noticeSeq : Nat
  outstanding : Option Notice
  capPending : Option (List Byte)
  reachedPending : Option (List Byte)
  missRun : Nat
  /-- SEQ of the SetVoltage that put the target in force, while one did (R145). -/
  command : Option Nat
  /-- The turns of the sweep so far, oldest first: whether an Idle reply passed; four turns a tap (R147). -/
  sweep : List Bool
  deriving DecidableEq, Repr

/-- A link that has never been up.
DESIGN CHOICE 8 (notes/assumptions). -/
def Link.reset : Link := ⟨none, (0, []), 0, none, none, none, 0, none, []⟩


/-- One tray gate, beyond its objects 0x300D (06 R156–R174). -/
structure TrayGate where
  /-- The insertion delay has been met since the last presence loss or enable. -/
  delayMet : Bool
  /-- Constant-power regulation is back in force and the fold-back timer runs (R159). -/
  foldback : Bool
  /-- CLOSED at every instant of the present lap so far (R174). -/
  closedLap : Bool
  /-- Exact running values of CableResistance and GateOnResistance, in µΩ. -/
  cable : Option Rat
  onRes : Option Rat
  /-- Accumulators of the last fit: samples, Σv̇², Σv̇·V, ΣV², ΣI·v̇, ΣI·V, ΣI² in A, V and s (R173). -/
  fit : List Rat
  deriving DecidableEq, Repr

/-- A tray gate at power-on. -/
def TrayGate.reset : TrayGate := ⟨false, false, false, none, none, List.replicate 7 0⟩

/-- One ideal-diode gate, beyond its objects (06 R165–R172). -/
structure DiodeGate where
  /-- The coarse drop V_AK in V that the present command brings, where it brings one (R167, R168). -/
  vak : Option Rat
  deriving DecidableEq, Repr

/-- The bus bar (06 R175): exact running resistance in µΩ. -/
structure BusBar where
  resistance : Rat
  deriving DecidableEq, Repr

/-- The event router and the window units, beyond their objects (13). -/
structure Router where
  /-- Edges of sources that have not reached their targets yet. -/
  edges : List Nat
  /-- Count of each window unit (13 R344). -/
  counts : List Nat
  deriving DecidableEq, Repr

/-- No edge, every count 0. -/
def Router.reset : Router := ⟨[], List.replicate 64 0⟩

/-- What a PMBus transaction is for (07 R185–R205): `droop` a VOUT_DROOP after a change of DroopResistance, `late` a fixed
transaction that was under way when its lap's work was dropped (R187). -/
inductive Purpose where
  | fixed | probe | identity | discover | rotation | follow | order | droop | late
  deriving DecidableEq, Repr

/-- One PMBus transaction of a port: slot, command code, whether it writes, data written, errors so far, and the lap in
which it began, outside of which it is not repeated (07 R188). -/
structure Job where
  slot : Nat
  code : Nat
  write : Bool
  data : List Byte
  tries : Nat
  lap : Nat
  purpose : Purpose
  deriving DecidableEq, Repr

/-- One PMBus port, beyond its objects (07 R184–R188). -/
structure PbPort where
  busy : Option Job
  queue : List Job
  /-- Position in the rotation of the slots' readings (07 R183, R187). -/
  rot : Nat
  deriving DecidableEq, Repr

/-- Cause of a FAULTED or LATCHED slot (07 R202, R205): what the rectifier reports, "add timeout" or "unexpected off". -/
inductive RectCause where
  | reported | addTimeout | unexpectedOff
  deriving DecidableEq, Repr

/-- One rectifier slot, beyond its objects (07 R188–R205). -/
structure RectSlot where
  /-- Share trim s_i, in V. -/
  share : Rat
  /-- VOUT_COMMAND code last written. -/
  written : Option Int
  /-- READ_IOUT since the last update, in A. -/
  iout : Option Rat
  /-- Replies of a discovery in progress: command code and data. -/
  found : List (Nat × List Byte)
  /-- The capability record is valid (07 R190, R193). -/
  known : Bool
  /-- The address has NACKed since the last update; consecutive laps in which it did. -/
  nack : Bool
  nackLaps : Nat
  /-- An UNSUPPORTED slot has NACKed since it was read (07 R189). -/
  gone : Bool
  /-- State before LOST (07 R188). -/
  before : Nat
  /-- Lap of the entry to the present state. -/
  since : Nat
  /-- Lap of the OPERATION 0x40 of the last shed. -/
  offLap : Option Nat
  rampFrom : Rat
  /-- The ramp has ended and the OPERATION 0x40 waits for its angle. -/
  rampDone : Bool
  /-- Adopted ONLINE at discovery, and ONLINE since (07 R189). -/
  adopted : Bool
  /-- Cause of the fault (07 R202, R205). -/
  cause : Option RectCause
  /-- Lap of the change of DroopResistance that is still to be written (07 R211). -/
  droopDue : Option Nat
  /-- Line RMS currents of the lap before the add, and its lap (07 R193). -/
  pairBefore : Option (Nat × List Rat)
  /-- STATUS_x bytes last read, by command code. -/
  statusBytes : List (Nat × Nat)
  deriving DecidableEq, Repr

/-- A slot that has never answered. -/
def RectSlot.reset : RectSlot :=
  { share := 0, written := none, iout := none, found := [], known := false, nack := false
    nackLaps := 0, gone := false, before := 0, since := 0, offLap := none, rampFrom := 0
    rampDone := false, adopted := false, cause := none, droopDue := none, pairBefore := none, statusBytes := [] }

/-- Bus regulation and policy (07 R194–R203). Voltages in V. -/
structure BusReg where
  /-- The pacer has started since RectEnable. -/
  started : Bool
  vb : Rat
  integ : Rat
  u : Rat
  /-- V̄ of the last firing of slot 1 (R194). -/
  vbar : Option Rat
  /-- States of the bus notch (R194). -/
  w1 : Rat
  w2 : Rat
  /-- Rectifier output power of the last laps in W, newest first. -/
  powers : List Rat
  /-- RMS currents of LA, LB and LC of the last laps, newest first. -/
  rms : List (List Rat)
  /-- Lap from which the spacing counts. -/
  actionLap : Option Nat
  /-- Slot that the add slot and the shed slot of the scheduler carry, and the lap they fire in. -/
  place4 : List (Nat × Nat)
  place5 : List (Nat × Nat)
  /-- Lap of the last add or shed that was carried out (07 R193). -/
  lastOp : Option Nat
  deriving DecidableEq, Repr

/-- Regulation that has not started. -/
def BusReg.reset : BusReg := ⟨false, 0, 0, 0, none, 0, 0, [], [], none, [], [], none⟩

/-- One rail, beyond its objects (12 R318–R327). -/
structure Rail where
  /-- The rail's power-down has been ordered and its step has not begun. -/
  down : Bool
  /-- UP flag of the hardware (12 R338). -/
  up : Bool
  /-- Power-good fell while no shelf core ran. -/
  fell : Bool
  /-- The rail was HELD and has not come back to UP (12 R324). -/
  held : Bool
  /-- The latch of its source in a power-down has been reported (12 R323). -/
  latched : Bool
  deriving DecidableEq, Repr

/-- The rail sequencer, beyond its objects (12). -/
structure Sequencer where
  rails : List Rail
  /-- Roots of the subtree retries in progress (12 R325, R327). -/
  retries : List Nat
  /-- A restart has been armed in SHARED_WAIT (12 R322). -/
  armed : Bool
  /-- Both waits of a sequence retry: its delay has ended; the line has been released long enough. -/
  delayDone : Bool
  releaseDone : Bool
  /-- The 100 µs pulse of target 44 (12 R334). -/
  routePulse : Bool
  /-- The line is driven for a power-down, or held while latched (12 R332, R333). -/
  drive : Bool
  /-- The stuck notice of the present low has been recorded (12 R333). -/
  stuckSaid : Bool
  /-- The controller has released the line, which has not risen since (12 R333). -/
  released : Bool
  /-- Falls counted by GD while no core ran (12 R338). -/
  gdFalls : Nat
  deriving DecidableEq, Repr

/-- The sequencer at power-on.
DESIGN CHOICE 8 (notes/assumptions). -/
def Sequencer.reset : Sequencer :=
  ⟨List.replicate 24 ⟨false, false, false, false, false⟩, [], false, false, false, false, false, false, false, 0⟩

/-- An unruled hold-up early start (10 R271–R273). -/
structure HoldEs where
  stamp : Nat
  /-- First sample of its DEV_START. -/
  dev : Nat
  confirm : Nat
  budget : Int
  /-- V_sag in mV, and the preload in V. -/
  sag : Rat
  preload : Rat
  /-- The strings that contributed to the reserved budget (R272). -/
  strings : List Nat
  /-- Lowest bus voltage measured since the early-start stamp, in V. -/
  low : Option Rat
  deriving DecidableEq, Repr

/-- Hold-up (10). -/
structure Hold where
  es : Option HoldEs
  /-- What is ruled as soon as the stamp goes on (R270). -/
  due : Option HoldDue
  /-- The strings that contributed to HoldupSeconds of the last lap boundary (09 R256). -/
  contrib : List Nat
  /-- Lap of the return commit, and laps not counted because a slot was retrying (14 R364). -/
  returnLap : Nat
  returnPaused : Nat
  /-- Lap of the last restart placement of groups A and B (R280). -/
  staggerLap : List Nat
  /-- A restart placement may be carried by the add slot and the shed slot (R280). -/
  restarts : Bool
  /-- Lap mean of SV9 input 0, in V. -/
  vLap : Rat
  /-- Latest bus voltage in V and currents of groups A and B in A; the load of R256 in W summed over the gauge samples of
  the lap, and how many; P_L of the last lap boundary (09 R256). -/
  vNow : Rat
  iA : Rat
  iB : Rat
  loadSum : Rat
  loadN : Nat
  load : Rat
  /-- Usable energy of the contributing strings at the last lap boundary, in J (09 R256). -/
  energy : Rat
  /-- Bus samples in a row below HoldupThreshold, by what has brought them: feeds 0–15, strings 16–19 (10 R268 b2). -/
  lowRuns : List Nat
  deriving DecidableEq, Repr

/-- Hold-up at power-on.
DESIGN CHOICE 8 (notes/assumptions). -/
def Hold.reset : Hold := ⟨none, none, [], 0, 0, [0, 0], false, 0, 0, 0, 0, 0, 0, 0, 0, List.replicate 20 0⟩


/-- Thermal supervision (14 R370–R373). Temperatures in °C. -/
structure Thermal where
  /-- Valid samples, newest first, at most 2000. -/
  samples : List Rat
  /-- Samples in a row that are invalid, and that are valid. -/
  badRun : Nat
  goodRun : Nat
  /-- The band has been chosen since power-on, or since a sensor fault cleared. -/
  chosen : Bool
  /-- The rise warning may be raised. -/
  armed : Bool
  /-- A Tj has been formed since power-on. -/
  formed : Bool
  /-- The rise rate stands above RiseShutdown: the event has been raised (14 R359). -/
  rising : Bool
  deriving DecidableEq, Repr

/-- No sample yet.
DESIGN CHOICE 8 (notes/assumptions). -/
def Thermal.reset : Thermal := ⟨[], 0, 0, false, true, false, false⟩


/-- A committed item of a lane (18 R462). -/
structure Item where
  seq : Nat
  words : Nat
  stamp : Nat
  data : List Byte
  /-- A burst of it could not be corrected (18 R453). -/
  damaged : Bool
  /-- Pool of its cells: a claimed item keeps them when its lane, disabled, is given another pool (18 R470). -/
  pool : Nat
  deriving DecidableEq, Repr

/-- A packet in progress: the path that owns it (0xFE the split generator), its cells, its data (18 R463). -/
structure Packet where
  owner : Nat
  cells : Nat
  data : List Byte
  deriving DecidableEq, Repr

/-- A lane: committed items, oldest first; the claimed item and its path; the packet in progress (18 R460–R466). -/
structure Lane where
  items : List Item
  claim : Option (Item × Nat)
  packet : Option Packet
  deriving DecidableEq, Repr

/-- An empty lane. -/
def Lane.reset : Lane := ⟨[], none, none⟩

/-- DDR4, the pools and the patrols (18). -/
structure Mem where
  lanes : List Lane
  /-- Cells on the free lists of the on-chip pool and of the bulk pool. -/
  free : List Nat
  /-- The refresh interval in force in ns, and the offsets in force of the read and the write delay in ps. -/
  refi : Nat
  rdOff : Int
  wrOff : Int
  /-- Errors in a row on one command sequence (18 R449). -/
  caRun : Nat
  /-- Next burst of the DDR4 patrol and of the MRAM patrol. -/
  patrolDdr : Nat
  patrolMram : Nat
  /-- The history ring: capture lap and split, newest first (18 R457). -/
  history : List (Nat × List Byte)
  deriving DecidableEq, Repr

/-- Every cell free, nothing trained. -/
def Mem.reset : Mem := ⟨List.replicate 128 Lane.reset, [8192, 0], 7800, 0, 0, 0, 0, 0, []⟩
/-- The block: everything the spec gives it but the queue of commands. -/
structure Device where
  regs : RegFile
  outs : List Out
  /-- Free values drawn so far (notes/assumptions/3.md). -/
  free : Nat
  sys : Sys
  aon : Aon
  mram : Mram
  pins : Pins
  tb : Timebase
  cells : List Cell
  feeds : List Feed
  links : List Link
  gates : List TrayGate
  diodes : List DiodeGate
  bar : BusBar
  ports : List PbPort
  slots : List RectSlot
  bus : BusReg
  seq : Sequencer
  router : Router
  therm : Thermal
  hold : Hold
  strings : List Str
  ledger : Book
  mem : Mem
  enf : List Enforce
  faults : List FaultBlock
  /-- The hardware pulse of FAULT_N runs (14 R368). -/
  faultPulse : Bool
  net : Net
  dict : Dict
  mgmt : Mgmt
  recorder : Rec
  pf : List PfSlot
  eng : Engines
  deriving DecidableEq, Repr

/-- The block held in reset: everything at its reset value; MRAM and the AON domain hold what they held
(14 R367, 19 R473, 21 R523). -/
def Device.reset (mram : Mram) (aon : Aon) (sys : Sys) : Device :=
  { regs := [], outs := [], free := 0, sys := sys, aon := aon, mram := mram, pins := Pins.inert
    tb := Timebase.reset, cells := List.replicate 96 Cell.reset, feeds := List.replicate 16 Feed.reset
    links := List.replicate 16 Link.reset, gates := List.replicate 16 TrayGate.reset
    diodes := List.replicate 6 ⟨none⟩, bar := ⟨0⟩, ports := List.replicate 4 ⟨none, [], 0⟩
    slots := List.replicate 32 RectSlot.reset, bus := BusReg.reset, seq := Sequencer.reset
    router := Router.reset, therm := Thermal.reset,
    hold := Hold.reset, strings := List.replicate 4 Str.reset
    mem := Mem.reset, ledger := Book.zero, enf := List.replicate 16 ⟨0, 0⟩
    faults := List.replicate 96 FaultBlock.reset, faultPulse := false
    net := Net.reset, dict := Dict.reset, mgmt := Mgmt.reset, recorder := ⟨[], none, 0⟩
    pf := List.replicate 16 PfSlot.reset, eng := Engines.reset }

/-- A unit as manufactured, without supply.
DESIGN CHOICE 6, 8 (notes/assumptions). -/
def Device.factory : Device :=
  Device.reset Mram.factory Aon.reset
    { vdd := false, vaon := false, brownOut := false, coreRunning := false, standby := 0, outOfRange := []
      resetCause := 0, aonCalibrated := false
      laterCauses := 0 }

end Sys2Proof.Machine
end

