-- ==== Sys2Proof/Machine/Ops.lean ====
section
/-! DEFINITION. The named operations over the register file, the pins and the parts of the block that
every family uses. -/

namespace Sys2Proof.Machine

/-- Value at an address of the register file, `dflt` where none is listed.
DESIGN CHOICE 152 (notes/assumptions). -/
def RegFile.find (k : Nat) (dflt : Int) : RegFile → Int
  | [] => dflt
  | (k', v) :: r => if k' = k then v else RegFile.find k dflt r

/-- The register file without an address. -/
def RegFile.drop (k : Nat) (r : RegFile) : RegFile := r.filter fun e => e.1 != k

/-- The register file with an address that it does not list, in its place. -/
def RegFile.insert (k : Nat) (v : Int) : RegFile → RegFile
  | [] => [(k, v)]
  | (k', v') :: r => if k < k' then (k, v) :: (k', v') :: r else (k', v') :: RegFile.insert k v r

/-- The register file with address `k` holding `v`; a value equal to `dflt` is not listed.
DESIGN CHOICE 152 (notes/assumptions). -/
def RegFile.put (k : Nat) (v dflt : Int) (r : RegFile) : RegFile :=
  if v = dflt then r.drop k else (r.drop k).insert k v

/-- Addresses strictly rising, all above `lo`. -/
def RegFile.sortedFrom (lo : Nat) : RegFile → Bool
  | [] => true
  | (k, _) :: r => decide (lo ≤ k) && RegFile.sortedFrom (k + 1) r

/-- The canonical form of a register file: addresses strictly rising.
DESIGN CHOICE 152 (notes/assumptions). -/
def RegFile.wf (r : RegFile) : Bool := RegFile.sortedFrom 0 r

/-- The value in force of an object (16 R409, R410). -/
def Device.get (d : Device) (o : Obj) : Int := RegFile.find o.key o.dflt d.regs

/-- The value in force as a natural number. -/
def Device.getN (d : Device) (o : Obj) : Nat := (d.get o).toNat

/-- The value in force of a BOOL. -/
def Device.flag (d : Device) (o : Obj) : Bool := d.get o == 1

/-- The block with an object holding `v`. -/
def Device.set (d : Device) (o : Obj) (v : Int) : Device :=
  { d with regs := RegFile.put o.key v o.dflt d.regs }

/-- A BOOL object set or cleared. -/
def Device.setFlag (d : Device) (o : Obj) (b : Bool) : Device := d.set o (b2i b)

/-- The stored value of an object in MRAM, its default where none is stored (16 R422). -/
def Device.stored (d : Device) (o : Obj) : Int := RegFile.find o.key o.dflt d.mram.store

/-- A write of MRAM that waits for the brown-out to clear (01 R24). -/
def Device.deferWrite (d : Device) (w : Deferred) : Device :=
  { d with dict := { d.dict with deferred := d.dict.deferred ++ [w] } }

/-- Something sent or driven.
DESIGN CHOICE 7 (notes/assumptions). -/
def Device.emit (d : Device) (o : Out) : Device := { d with outs := o :: d.outs }

/-- The next free value (notes/assumptions/3.md).
DESIGN CHOICE 3 (notes/assumptions). -/
def Device.freeVal (d : Device) : Int := Config.freeInt d.free

/-- One free value has been used.
DESIGN CHOICE 3 (notes/assumptions). -/
def Device.used (d : Device) : Device := { d with free := d.free + 1 }

/-- Largest value of an unsigned type; counters use it. -/
def Ty.top (t : Ty) : Int := 2 ^ (8 * t.size.getD 4) - 1

/-- A counter object one higher. The spec states no value after its largest one: a free value then.
DESIGN CHOICE 15 (notes/assumptions). -/
def Device.bump (d : Device) (o : Obj) : Device :=
  if d.get o < o.ty.top then d.set o (d.get o + 1) else (d.set o (d.freeVal % (o.ty.top + 1))).used

/-- A counter object `n` higher, in the same way.
DESIGN CHOICE 15 (notes/assumptions). -/
def Device.bumpBy (d : Device) (o : Obj) (n : Int) : Device :=
  if d.get o + n ≤ o.ty.top then d.set o (d.get o + n) else (d.set o (d.freeVal % (o.ty.top + 1))).used

/-- A counter object one higher that saturates.
DESIGN CHOICE 15 (notes/assumptions). -/
def Device.bumpSat (d : Device) (o : Obj) : Device :=
  if d.get o < o.ty.top then d.set o (d.get o + 1) else d

/-- A fraction shown in whole units: exact where it is whole; otherwise the spec states no rounding and
the choice is free (notes/assumptions/4.md).
DESIGN CHOICE 4 (notes/assumptions). -/
def quant (q : Rat) : Int := if q.den = 1 then q.num else q.floor + b2i (Config.roundUp q)

/-- A quotient; by 0 it is not stated: a free value of the dividend.
DESIGN CHOICE 12 (notes/assumptions). -/
def quot (a b : Rat) : Rat := if b = 0 then Config.overZero a else a / b

/-- One notch filter: output and new states (04 R91, R98, 07 R194).
DESIGN CHOICE 11 (notes/assumptions). -/
def notch (v : Int) (w1 w2 x : Rat) : Rat × Rat × Rat :=
  if field v 0 1 = 0 then (x, 0, 0)
  else
    let c := fun off => ((fieldS v off 4 : Int) : Rat) / 1073741824
    let y := c 4 * x + w1
    (y, c 8 * x - c 16 * y + w2, c 12 * x - c 20 * y)

/-- The present stamp (00 R5). -/
def Device.now (d : Device) : Nat := d.tb.stamp

/-- Lap and angle of the present stamp. -/
def Device.lap (d : Device) : Nat := d.tb.stamp / 65536
/-- See `Device.lap`. -/
def Device.angle (d : Device) : Nat := d.tb.stamp % 65536

/-- Microseconds as angle units of the last lap (00 R5). -/
def Device.usToAu (d : Device) (us : Nat) : Nat := (roundQ ((us * 1000 * 65536 : Nat) / (d.tb.lapDur : Rat))).toNat

/-- A stamp object set to the present stamp. -/
def Device.stampAt (d : Device) (o : Obj) : Device := d.set o d.now

/-- The zone in progress has not passed its closing angle (02 R49, R50). -/
def Device.zoneRuns (d : Device) : Bool := d.tb.zoneOpen && decide (d.now ≤ d.tb.zoneFrom + d.tb.zoneLen)

/-- The exchange zone is open: opened by slot 2, not closed by slot 3, and the angle inside the window of R30, which ends
at its length where slot 3 does not fire (02 R30, R49). -/
def Device.inZone (d : Device) : Bool := d.tb.zoneOpen && decide (d.now < d.tb.zoneFrom + d.tb.zoneLen)

/-- Engine numbers of 14 R355. -/
def engLE (n : Nat) : Nat := 2 + n
/-- See `engLE`. -/
def engAE : Nat := 11
/-- See `engLE`. -/
def engGE : Nat := 12
/-- See `engLE`. -/
def engNE : Nat := 13
/-- See `engLE`. -/
def engBE : Nat := 14
/-- See `engLE`. -/
def engGD : Nat := 15

/-- The engine runs (16 R429).
DESIGN CHOICE 22 (notes/assumptions). -/
def Device.runs (d : Device) (e : Nat) : Bool := d.get (O.engineState e) == 1

/-- Exactly `n` bytes: cut, or padded with zeros.
DESIGN CHOICE 9 (notes/assumptions). -/
def fit (n : Nat) (bs : List Byte) : List Byte := (bs ++ List.replicate n 0).take n

/-- CORE runs and the controller is not in its class-A safe state.
DESIGN CHOICE 22 (notes/assumptions). -/
def Device.live (d : Device) : Bool := d.sys.coreRunning && !(d.flag O.controllerClassA)

/-- A shelf core is active (01 R15). -/
def Device.scActive (d : Device) : Bool :=
  d.live && d.get O.activeShelfCore != 0xFF && d.runs (d.getN O.activeShelfCore)

/-- The loop engine that runs a feed runs (01 R12, 04 R117).
DESIGN CHOICE 22 (notes/assumptions). -/
def Device.leRuns (d : Device) (k : Nat) : Bool := d.live && d.runs (engLE (d.getN (O.controlEngine k)))

/-- The active shelf core has failed and the other one takes over at the next lap boundary (01 R15). -/
def Device.coreWaits (d : Device) : Bool := d.eng.failedLap.isSome

/-- Policy work left to the core that takes over (01 R15).
DEDUCED 142 (notes/assumptions). -/
def Device.workDue (d : Device) (w : PolicyWork) : Device := { d with eng := { d.eng with due := d.eng.due ++ [w] } }

/-- A change made only where a condition holds: elsewhere the command has no effect.
DESIGN CHOICE 2, 158 (notes/assumptions). -/
def Device.when (d : Device) (b : Bool) (f : Device → Device) : Device := if b then f d else d

/-- One step per number of a list. -/
def Device.forAll (d : Device) (l : List Nat) (f : Nat → Device → Device) : Device :=
  l.foldl (fun d n => f n d) d

/-- An edge of a router source, if the router acts (13 R350, R351). -/
def Device.edge (d : Device) (src : Nat) : Device :=
  d.when (d.flag O.routerEnable) fun d => { d with router := { d.router with edges := d.router.edges ++ [src] } }

/-- The cell of a number. -/
def Device.cell (d : Device) (n : Nat) : Cell := d.cells.getD n Cell.reset
/-- The block with one cell changed. -/
def Device.modCell (d : Device) (n : Nat) (f : Cell → Cell) : Device :=
  { d with cells := modAt d.cells n f }
/-- The feed of a number. -/
def Device.feed (d : Device) (k : Nat) : Feed := d.feeds.getD k Feed.reset
/-- The block with one feed changed. -/
def Device.modFeed (d : Device) (k : Nat) (f : Feed → Feed) : Device :=
  { d with feeds := modAt d.feeds k f }
/-- The block with the timebase changed. -/
def Device.modTb (d : Device) (f : Timebase → Timebase) : Device := { d with tb := f d.tb }
/-- The block with the pins changed. -/
def Device.modPins (d : Device) (f : Pins → Pins) : Device := { d with pins := f d.pins }
/-- VDD is inside its operating conditions (03 R83, 21 R520). -/
def Device.vddOk (d : Device) : Bool := !d.sys.outOfRange.contains 1
/-- VDDA is inside its operating conditions (06 R170, 21 R520). -/
def Device.vddaOk (d : Device) : Bool := !d.sys.outOfRange.contains 2
/-- A phase output at a level; the I/O ring holds it at mid while VDD is outside its operating conditions (03 R83).
DESIGN CHOICE 159 (notes/assumptions). -/
def Device.setPwm (d : Device) (n : Nat) (t : Tri) : Device :=
  d.modPins fun p => { p with pwm := modAt p.pwm n fun _ => if d.vddOk then t else .mid }
/-- The level of a phase output. -/
def Device.pwmOf (d : Device) (n : Nat) : Tri := d.pins.pwm.getD n .mid
/-- A driver enable. -/
def Device.setDrven (d : Device) (k : Nat) (b : Bool) : Device :=
  d.modPins fun p => { p with drven := modAt p.drven k fun _ => b }

/-- Bits `O` of a masked object with bit `i` set. -/
def Device.setBitOf (d : Device) (o : Obj) (i : Nat) : Device := d.set o (setBit (d.get o) i)
/-- The same bit cleared. -/
def Device.clearBitOf (d : Device) (o : Obj) (i : Nat) : Device := d.set o (clearBit (d.get o) i)

/-- Map entry of a feed at a position, from the map in force (03 R56). -/
def Device.mapEntry (d : Device) (k j : Nat) : Nat := field (d.get (O.phaseMap k)) j 1
/-- Number of listed cells of a feed (03 R56). -/
def Device.mapCount (d : Device) (k : Nat) : Nat := field (d.get (O.phaseMap k)) 12 1
/-- Reserve cell of a feed, 0xFF for none (03 R56). -/
def Device.mapReserve (d : Device) (k : Nat) : Nat := field (d.get (O.phaseMap k)) 13 1
/-- Listed cells of a feed in rotation order. -/
def Device.listed (d : Device) (k : Nat) : List Nat := (List.range (d.mapCount k)).map (d.mapEntry k)
/-- Listed cells and the reserve, in position order (03 R58). -/
def Device.feedCells (d : Device) (k : Nat) : List Nat :=
  d.listed k ++ (if d.mapReserve k < 96 then [d.mapReserve k] else [])
/-- State code of a cell (03 R59). -/
def Device.cellSt (d : Device) (n : Nat) : Nat := d.getN (O.cellState n)
/-- Cells of a feed that take triggers: ACTIVE or DRAINING (03 R59). -/
def Device.switching (d : Device) (k : Nat) : List Nat :=
  (d.feedCells k).filter fun n => d.cellSt n == 3 || d.cellSt n == 4
/-- FeedState (04 R111). -/
def Device.feedSt (d : Device) (k : Nat) : Nat := d.getN (O.feedState k)

end Sys2Proof.Machine
end

