-- ==== Sys2Proof/Machine/Iop.lean ====
section
/-! DEFINITION. What the controller sends on the field network, and how the operations of a request are answered
(15 R377, R383–R393, 16 R411–R419, 17 R444). -/

namespace Sys2Proof.Machine

/-- The session of a number. -/
def Device.session (d : Device) (s : Nat) : Session := d.net.session.getD s Session.reset
/-- The block with one session changed. -/
def Device.modSession (d : Device) (s : Nat) (f : Session → Session) : Device :=
  { d with net := { d.net with session := modAt d.net.session s f } }
/-- The field port of a number. -/
def Device.netPort (d : Device) (p : Nat) : NetPort := d.net.port.getD p ⟨0xFF, false, true, false, false⟩
/-- The block with one field port changed. -/
def Device.modNetPort (d : Device) (p : Nat) (f : NetPort → NetPort) : Device :=
  { d with net := { d.net with port := modAt d.net.port p f } }

/-- Bytes of a MAC in wire order (00 R2). -/
def macBytes (m : Nat) : List Byte := (leBytes 6 m).reverse

/-- MAC of a port: the base, or the base plus 1 (15 R377). -/
def portMac (p : Nat) : Nat := Config.macBase.toNat + p

/-- A frame with its tag under a key, padded to the Ethernet minimum (15 R383, R384). -/
def iopFrame (p dst : Nat) (key : List Byte) (kind flags sid seq : Nat) (body : List Byte) : List Byte :=
  let adr := macBytes dst ++ macBytes (portMac p)
  let msg := [0x01, BitVec.ofNat 8 kind] ++ leBytes 2 flags ++ leBytes 4 sid ++ leBytes 4 seq ++ leBytes 2 body.length ++
    [0, 0] ++ body
  let pay := msg ++ (Config.hmacSha256 key (adr ++ msg)).take 8
  adr ++ [0x88, 0xB5] ++ pay ++ List.replicate (46 - pay.length) 0

/-- A frame sent on a port. -/
def Device.sendFrame (d : Device) (p dst : Nat) (key : List Byte) (kind flags sid seq : Nat) (body : List Byte) : Device :=
  (d.emit (.frame p (iopFrame p dst key kind flags sid seq body))).bump (O.txFrames p)

/-- A port is connected (15 R379). -/
def Device.connected (d : Device) (p : Nat) : Bool := decide (2 ≤ d.get (O.netPortState p))

/-- A session is a dual-port session, or a strict one (15 R387). -/
def Device.sessionDual (d : Device) (s : Nat) : Bool := bit (d.get (O.sessionMode s)) 1
/-- See `Device.sessionDual`. -/
def Device.sessionStrict (d : Device) (s : Nat) : Bool := bit (d.get (O.sessionMode s)) 0

/-- The port objects of a port have been applied since power-on (15 R380). -/
def Device.applied (d : Device) (p : Nat) : Bool := d.dict.portApplied.getD p false

/-- A frame of a session: on every connected port of a dual-port session, on the port of the OPEN of another (15 R388). A
notification needs a port whose objects have been applied (15 R380). -/
def Device.sendIop (d : Device) (s kind flags seq : Nat) (body : List Byte) : Device :=
  let x := d.session s
  let dual := d.sessionDual s
  d.forAll [0, 1] fun p d =>
    match x.macs.find? fun m => m.1 == p with
    | some m =>
      d.when (((dual && d.connected p) || (!dual && p == x.port)) && (kind != 0x20 || d.applied p)) fun d =>
        d.sendFrame p m.2 x.key kind flags (d.getN (O.sessionId s)) seq body
    | none => d

/-- A new frame of a session with the next number (15 R389). -/
def Device.sendNew (d : Device) (s kind : Nat) (body : List Byte) : Device :=
  let n := d.getN (O.txSeq s) + 1
  (d.set (O.txSeq s) n).sendIop s kind 0 n body

/-- Bytes padded with zeros to a multiple of 4. -/
def pad4 (bs : List Byte) : List Byte := bs ++ List.replicate ((4 - bs.length % 4) % 4) 0

/-- Result of an operation in a RESPONSE (15 R391). -/
def resultBytes (r : Nat × List Byte) : List Byte := leBytes 2 r.1 ++ leBytes 2 r.2.length ++ pad4 r.2

/-- A RESPONSE is sent and cached for the requests inside the window (15 R390, R391). -/
def Device.respond (d : Device) (s seq rstatus : Nat) (results : List (Nat × List Byte)) : Device :=
  let body := leBytes 4 seq ++ [BitVec.ofNat 8 rstatus, BitVec.ofNat 8 results.length, 0, 0] ++ results.flatMap resultBytes
  let d := d.sendNew s 0x11 body
  d.modSession s fun x =>
    { x with cache := (seq, d.getN (O.txSeq s), body) :: x.cache.filter fun c => d.getN (O.rxSeqHigh s) < c.1 + 64 }

/-- Requests of a session whose operations all have a result are answered (15 R393). -/
def Device.finish (d : Device) (s : Nat) : Device :=
  let done := (d.session s).requests.filter fun r => r.ops.all fun o => o.result.isSome
  let d := d.modSession s fun x => { x with requests := x.requests.filter fun r => !(r.ops.all fun o => o.result.isSome) }
  done.foldl (fun d r => d.respond s r.seq 0 (r.ops.map fun o => o.result.getD (0, []))) d

/-- An operation of a request changed. -/
def Device.modOp (d : Device) (s seq i : Nat) (f : OpSlot → OpSlot) : Device :=
  d.modSession s fun x =>
    { x with requests := x.requests.map fun r => if r.seq = seq then { r with ops := modAt r.ops i f } else r }

/-- The result of an operation of a request. -/
def Device.opDone (d : Device) (s seq i status : Nat) (value : List Byte) : Device :=
  (d.modOp s seq i fun o => { o with result := some (status, value) }).finish s

/-- The started READ or WRITE of a session on an object that has no result yet: its request and position. -/
def Session.openOp (x : Session) (index sub : Nat) : Option (Nat × Nat) :=
  x.requests.findSome? fun r =>
    (r.ops.findIdx? fun o => o.started && o.result.isNone && !o.op.isWait && o.op.address == some (index, sub)).map
      fun i => (r.seq, i)

/-- The value that a disposition puts into an answer (16 R419). -/
def dispBytes (disp : Nat) (value : List Byte) : List Byte :=
  if disp = 0 then value else [BitVec.ofNat 8 disp, 0, 0, 0]

/-- The answer to an access of a path: to the operation of a request or of the window that waits for it as well. -/
def Device.answer (d : Device) (path index sub status disp : Nat) (value : List Byte) : Device :=
  let d := d.emit (.result path index sub status disp value)
  if path = 16 then
    let m := d.mgmt
    d.when (m.winState == 1 && m.started && m.result.isNone && m.winIndex == index && m.winSub == sub) fun d =>
      { d with mgmt := { m with result := some (status, disp, value, d.now) } }
  else
    match (d.session path).openOp index sub with
    | some (seq, i) => d.opDone path seq i status (dispBytes disp value)
    | none => d

/-- Every pending WAIT completes with an error (15 R403). -/
def Device.waitsFail (d : Device) (status : Nat) : Device :=
  d.forAll (List.range 16) fun s d =>
    (d.modSession s fun x =>
      { x with requests := x.requests.map fun r =>
          { r with ops := r.ops.map fun o =>
              if o.started && o.result.isNone && o.op.isWait then { o with result := some (status, []) } else o } }).finish s

end Sys2Proof.Machine
end

