-- ==== Sys2Proof/Machine/Events.lean ====
section
/-! DEFINITION. Events: their entry in the fault block, the recorder queue, block interrupts, ALERT_N,
notifications and the FAULT_N pulse (14 R355–R368, 15 R398–R399, 17 R441, 19 R477). -/

namespace Sys2Proof.Machine

/-- The fault status of a block.
DEDUCED 86 (notes/assumptions). -/
def Device.fault (d : Device) (b : Nat) : FaultBlock := d.faults.getD b FaultBlock.reset
/-- The block with one fault status changed. -/
def Device.modFault (d : Device) (b : Nat) (f : FaultBlock → FaultBlock) : Device :=
  { d with faults := modAt d.faults b f }
/-- ALERT_N is asserted (17 R441): while CORE runs by AlertCause and AlertMask, whose b8 is always 1; in the class-A
safe state always. In standby it is released otherwise.
DEDUCED 91 (notes/assumptions). -/
def Device.alertNow (d : Device) : Bool :=
  (d.sys.coreRunning && decide (0 < d.mgmt.alertCause &&& (d.mgmt.alertMask ||| 0x100))) || d.flag O.controllerClassA

/-- ALERT_N follows its condition. -/
def Device.updateAlert (d : Device) : Device := d.modPins fun p => { p with alertN := !d.alertNow }

/-- A bit of AlertCause is raised (17 R441). -/
def Device.alert (d : Device) (b : Nat) : Device :=
  { d with mgmt := { d.mgmt with alertCause := d.mgmt.alertCause ||| 2 ^ b } }.updateAlert

/-- A notification sent in a session, or queued behind eight unacknowledged ones; the oldest queued one
is dropped and counted when 32 are queued (15 R399). -/
def Device.notifyOne (d : Device) (s : Nat) (body : List Byte) : Device :=
  let x := d.session s
  if x.unacked.length < 8 then
    let d := d.sendNew s 0x20 body
    d.modSession s fun x => { x with unacked := x.unacked ++ [⟨d.getN (O.txSeq s), 0, body⟩] }
  else if x.queued.length < 32 then
    d.modSession s fun x => { x with queued := x.queued ++ [⟨0, 0, body⟩] }
  else
    (d.modSession s fun x => { x with queued := x.queued.tail ++ [⟨0, 0, body⟩] }).bump
      (O.notifyDropped s)

/-- A notification of a kind to every open host session that has subscribed to it; class A (kind 4) to
every open host session (15 R399). NE sends it. -/
def Device.notify (d : Device) (kind : Nat) (body : List Byte) : Device :=
  if d.runs engNE then
    d.forAll (List.range 16) fun s d =>
      if d.get (O.sessionState s) = 2 ∧ (d.session s).peer = none ∧
          (kind = 4 ∨ bit (d.session s).notifyMask (kind - 1)) then d.notifyOne s body
      else d
  else d

/-- Body of a notification (15 R398). -/
def notifyBody (kind block code sub stamp early : Nat) (params : List Byte) : List Byte :=
  leBytes 2 kind ++ leBytes 1 block ++ [0] ++ leBytes 2 code ++ leBytes 2 sub ++ leBytes 8 stamp ++
    leBytes 8 early ++ (params ++ List.replicate 16 0).take 16

/-- An event reaches the recorder queue of 256; one that arrives while the queue is full is refused and
one while BE is lost is counted by GD (19 R477, R482, 20 R509).
DEDUCED 129 (notes/assumptions). -/
def Device.offer (d : Device) (ev : Event) : Device :=
  if d.runs engBE || d.get (O.engineState engBE) == 6 then
    if d.recorder.queue.length < 256 then { d with recorder := { d.recorder with queue := d.recorder.queue ++ [ev] } }
    else { d with mram := { d.mram with refused := d.mram.refused + 1, raised := d.mram.raised + 1 } }
  else { d with recorder := { d.recorder with lost := d.recorder.lost + 1 } }

/-- Whether any block has an open entry of a class that FaultNHoldMask names (14 R368). -/
def Device.faultHold (d : Device) : Bool :=
  d.faults.any fun f =>
    (f.cOpen && bit (d.get O.faultNHoldMask) 1) || (!f.bSources.isEmpty && bit (d.get O.faultNHoldMask) 2) ||
      f.aHeld

/-- FAULT_N is asserted: by the pulse, the software hold or the class-A safe state (14 R368). -/
def Device.faultNow (d : Device) : Bool := d.faultPulse || d.flag O.controllerClassA || d.faultHold

/-- FAULT_N and the object that shows its level follow its condition. -/
def Device.updateFaultN (d : Device) : Device :=
  (d.modPins fun p => { p with faultN := !d.faultNow }).setFlag O.faultNLevel (!d.faultNow)

/-- The hardware pulse on FAULT_N starts, or starts again (14 R368). -/
def Device.pulseFaultN (d : Device) : Device :=
  ({ d with faultPulse := true }.modPins fun p => { p with faultN := false }).setFlag O.faultNLevel false

/-- The block interrupt (14 R363): to the engine, to ALERT_N with the bit of the class, and to the
subscribed sessions. -/
def Device.interrupt (d : Device) (block sub cls code stamp : Nat) (params : List Byte) : Device :=
  ((d.emit (.irq block sub)).alert cls).notify 1 (notifyBody 1 block code sub stamp 0 params)

/-- What an event does to the status of its block (14 R356–R360): the new status and whether it
escalates.
DEDUCED 86 (notes/assumptions). -/
def FaultBlock.take (f : FaultBlock) (cls source code stamp : Nat) (params : List Byte) :
    FaultBlock × Bool :=
  let seen := if f.seenStamp = stamp then f.seen else []
  let fresh := !seen.contains (source, cls)
  let f := { f with seenStamp := stamp, seen := (source, cls) :: seen }
  let f := match cls with
    | 0 => { f with countD := f.countD + 1 }
    | 1 => { f with countC := f.countC + 1 }
    | 2 => { f with countB := f.countB + 1 }
    | _ => f
  if f.aHeld || !fresh then (f, false)
  else if cls = 1 then
    if f.cOpen then ({ f with cMerge := min 65535 (f.cMerge + 1), cLastStamp := stamp }, false)
    else ({ f with cOpen := true, cFirstStamp := stamp, cFirstCode := code, cMerge := 1
                   cLastStamp := stamp, cParams := params }, false)
  else if cls = 2 then
    match f.bSources.find? (·.1 == source) with
    | some (_, st, _) => (f, decide (st < stamp))
    | none =>
      if f.bSources.isEmpty then
        ({ f with bSources := [(source, stamp, code)], bFirstStamp := stamp, bFirstCode := code
                  bParams := params }, false)
      else ({ f with bSources := f.bSources ++ [(source, stamp, code)] }, false)
  else (f, false)

/-- The sub of 0x6100 + b that an event of a class changes (14 R363, R375). -/
def faultSub (cls : Nat) : Nat :=
  match cls with
  | 0 => 17
  | 1 => 8
  | 2 => 2
  | _ => 11

/-- An event is taken: counted and entered in its block, offered to the recorder, reported by the
interrupt if IntMask enables its class, and pulsed on FAULT_N if the pulse mask does. The Bool says that
it escalates.
DEDUCED 86 (notes/assumptions). -/
def Device.takeEvent (d : Device) (block source code cls : Nat) (params : List Byte) (two : Bool) :
    Device × Bool :=
  let r := (d.fault block).take cls source code d.now params
  let d := (d.modFault block fun _ => r.1).offer ⟨code, source, block, cls, d.now, params, two⟩
  let d := if cls = 3 || bit (d.get (O.intMask block)) cls then
      d.interrupt block (faultSub cls) cls code d.now params else d
  let d := if cls = 3 || bit (d.get O.faultNPulseMask) cls then d.pulseFaultN else d
  (d.updateFaultN, r.2)

/-- A class-D notice.
DESIGN CHOICE 82 (notes/assumptions). -/
def Device.raiseD (d : Device) (block source code : Nat) (params : List Byte) : Device :=
  (d.takeEvent block source code 0 params false).1

/-- A class-C event. -/
def Device.raiseC (d : Device) (block source code : Nat) (params : List Byte) : Device :=
  (d.takeEvent block source code 1 params false).1

/-- A notice whose record carries the early-start and ruling stamps (19 R475). -/
def Device.raiseTwo (d : Device) (block source code early ruling : Nat) (params : List Byte) : Device :=
  (d.takeEvent block source code 0 (leBytes 8 early ++ leBytes 8 ruling ++ params) true).1

end Sys2Proof.Machine
end

