-- ==== Sys2Proof/Machine/Safe.lean ====
section
/-! DEFINITION. Safe states: what a feed, a gate, a string, a slot and the whole controller do when a
fault or a stop takes them there (03 R60, R83, 04 R106–R107, 14 R358, R365–R369). -/

namespace Sys2Proof.Machine

/-- A pulse is in progress: its on-time or the current limit has not ended it (03 R64). -/
def Cell.busy (c : Cell) : Bool :=
  match c.pulse with
  | some p => p.cut.isNone && decide (p.age < 40 + p.lh + p.on)
  | none => false

/-- A round whose pulses have ended is counted: limited, capped or neither (03 R73, R74). -/
def Device.countRound (d : Device) (k : Nat) (r : Round) : Device :=
  if r.limited then (d.bump (O.limitedRounds k)).modFeed k fun f => { f with limitedRun := f.limitedRun + 1 }
  else if r.capped then
    (d.bump (O.cappedRounds k)).modFeed k fun f => { f with limitedRun := 0, cappedStamp := some d.now }
  else d.modFeed k fun f => { f with limitedRun := 0 }

/-- Rounds with all their firings, whose pulses have all ended, are counted in their order (03 R73). -/
def Device.settleRounds (d : Device) (k : Nat) : Device :=
  (d.feed k).rounds.foldl (fun d _ => match (d.feed k).rounds with
    | r :: rest => d.when (r.full && r.left == 0) fun d => (d.countRound k r).modFeed k fun f => { f with rounds := rest }
    | [] => d) d

/-- A pulse of a round has ended (03 R73). -/
def Device.pulseOver (d : Device) (k no : Nat) : Device :=
  (d.modFeed k fun f =>
    { f with rounds := f.rounds.map fun r => if r.no = no then { r with left := r.left - 1 } else r }).settleRounds k

/-- A cell's pulse is cut short without a dead time; its round goes on without it (03 R83).
DESIGN CHOICE 172 (notes/assumptions). -/
def Device.cutPulse (d : Device) (k n : Nat) : Device :=
  let d := match (d.cell n).pulse with
    | some p => d.when (d.cell n).busy fun d => d.pulseOver k p.round
    | none => d
  (d.setPwm n .mid).modCell n fun c => { c with pulse := none, lowOff := false }

/-- A round that is not full ends uncounted (03 R73).
DESIGN CHOICE 172 (notes/assumptions). -/
def Device.endRound (d : Device) (k : Nat) : Device :=
  (d.modFeed k fun f => { f with rounds := f.rounds.filter fun r => r.full }).settleRounds k

/-- An unruled step early start is ruled false: the cells that were unshed only speculatively drain
back, a drain that it interrupted starts again, diode emulation resumes at the next firing, the
pre-bias ramps down, and the false start is counted and recorded (04 R107).
DESIGN CHOICE 41 (notes/assumptions). -/
def Device.stepFalse (d : Device) (k : Nat) : Device :=
  match (d.feed k).es with
  | none => d
  | some es =>
    let n := (d.getN (O.preBiasRelease k))
    let d := d.modFeed k fun f =>
      { f with es := none, resumeDe := es.wasDe, preLeft := n, preStep := f.pre / n, esStamp := some d.now
               drainBack := es.parked.reverse, draining := es.draining }
    let d := match es.draining with
      | some c => d.modCell c fun x => { x with drained := 0 }
      | none => d
    (d.bump (O.stepFalseStarts k)).raiseTwo k 0 0x010D es.stamp d.now []

/-- The cells of a feed enter SAFE with every PWM at mid; retired cells stay RETIRED. A step early
start is ruled false first, and the feed is in diode emulation no longer (03 R60, R68, R83, 04 R106). -/
def Device.feedSafe (d : Device) (k : Nat) : Device :=
  let d := d.stepFalse k
  let d := d.forAll (d.feedCells k) fun n d =>
    let d := (d.cutPulse k n).modCell n fun x => { x with drained := 0, waiting := false }
    if d.cellSt n = 7 then d else d.set (O.cellState n) 1
  ((((d.endRound k).modFeed k fun f =>
    { f with draining := none, drainBack := [], resumeDe := false, pendingFire := false, order := none, settling := false
             forcedDe := false, uvRun := false, pre := 0, preLeft := 0, sums := [] }).setFlag (O.deActive k) false).set
    (O.activePhases k) 0)

/-- A hiccup recovery that another path ends: OcState returns to NORMAL (03 R74). -/
def Device.endHiccup (d : Device) (k : Nat) : Device :=
  let oc := d.get (O.ocState k)
  (d.when (oc == 1 || oc == 2) fun d => d.set (O.ocState k) 0).modFeed k fun f =>
    { f with limitedRun := 0 }

/-- A feed latches off with a bit of FaultCause: cells SAFE, DRVEN off (04 R114).
DEDUCED 48 (notes/assumptions). -/
def Device.latchFeed (d : Device) (k bit : Nat) : Device :=
  let d := ((d.feedSafe k).endHiccup k).setBitOf (O.faultCause k) bit
  let d := d.setDrven k false
  let d := d.when (d.feedSt k != 7 && d.feedSt k != 8) fun d => d.edge (80 + k)
  d.when (d.feedSt k != 8) fun d => d.set (O.feedState k) 7

/-- The over-current latch: OcState LATCHED as well (03 R74). -/
def Device.latchOverCurrent (d : Device) (k : Nat) : Device :=
  (d.latchFeed k 3).set (O.ocState k) 3

/-- Both banks of an ideal-diode gate off. -/
def Device.gateBanksOff (d : Device) (g : Nat) : Device :=
  (d.modPins fun p => { p with gate := modAt p.gate g fun _ => .off }).set (O.conducting g) 0

/-- The charger of a string stops: CHPWM at mid, CHDRVEN deasserted (08 R220, R222). -/
def Device.chargerOff (d : Device) (n : Nat) : Device :=
  d.modPins fun p => { p with chPwm := modAt p.chPwm n fun _ => .mid
                              chDrven := modAt p.chDrven n fun _ => false }

/-- A string enters a state (08 R218). -/
def Device.setString (d : Device) (n : Nat) (st : Int) : Device :=
  (d.set (O.stringState n) st).stampAt (O.stringStateStamp n)

/-- A string enters FAULT with a bit of ChargerFault; its charger stops (08 R219, R222). -/
def Device.stringFault (d : Device) (n b : Nat) : Device :=
  ((d.chargerOff n).setString n 9).setBitOf (O.chargerFault n) b

/-- The apply queue and the staging set are discarded and counted (16 R430). -/
def Device.dropPending (d : Device) : Device :=
  let d := d.bumpBy O.queueDiscarded d.dict.queue.length
  let d := d.when d.dict.staged.isSome fun d => d.bump O.stagingDiscarded
  let d := { d with dict := { d.dict with queue := [], staged := none } }
  ((d.set O.queuedCount 0).set O.stagedCount 0).set O.stagingOwner 0xFF

end Sys2Proof.Machine
end

