-- ==== Sys2Proof/Machine/LinkOps.lean ====
section
/-! DEFINITION. The feed link's frames, its notices and its loss, used by the feeds, the credits and the
link commands (05 R124–R150). -/

namespace Sys2Proof.Machine

/-- The link of a number. -/
def Device.link (d : Device) (k : Nat) : Link := d.links.getD k Link.reset
/-- The block with one link changed. -/
def Device.modLink (d : Device) (k : Nat) (f : Link → Link) : Device :=
  { d with links := modAt d.links k f }

/-- A frame: start byte, TYPE, SEQ, LEN, payload, CRC-16 over TYPE to payload (05 R124, R125). -/
def zflFrame (kind seq : Nat) (payload : List Byte) : List Byte :=
  let body := leBytes 1 kind ++ leBytes 1 seq ++ leBytes 1 payload.length ++ payload
  [0xA5] ++ body ++ leBytes 2 (crc16 body).toNat

/-- A frame is sent on a link. -/
def Device.sendZfl (d : Device) (k kind seq : Nat) (payload : List Byte) : Device :=
  d.emit (.zfl k (zflFrame kind seq payload))

/-- A Grant (05 R128): the wire is lent to the tray for one frame. -/
def Device.sendGrant (d : Device) (k : Nat) : Device := d.sendZfl k 0x06 0 []

/-- The capacity limit of a feed in 0.1 A, while it is in force (03 R81). -/
def Device.capacityCap (d : Device) (k : Nat) : Option Int :=
  if (d.feed k).capacityLimit then some (d.get (O.capacity k)) else none

/-- The current cap in force in 0.1 A per feed: the lesser of credit cap and capacity limit (03 R71). -/
def Device.feedCap (d : Device) (k : Nat) : Option Int :=
  match (d.feed k).creditCap, d.capacityCap k with
  | none, c => c
  | some a, none => some a
  | some a, some c => some (min a c)

/-- Payload of a CapNotice: the complete present state (05 R144, R145). -/
def Device.capPayload (d : Device) (k : Nat) : List Byte :=
  let grace := d.get (O.enforceState k) == 1
  let cause : Int := match (d.feed k).creditCap, d.capacityCap k with
    | none, some _ => 2
    | some _, none => 1
    | some a, some c => if a < c then 1 else 2
    | none, none => if grace then 1 else 0
  leBytes 1 cause ++ leBytes 1 (if grace then d.get (O.graceLeft k) else 0) ++
    leBytes 2 ((d.feedCap k).getD 0xFFFF) ++ leBytes 4 (d.ledger.grants.getD k 0)

/-- The next notice is sent if the link is UP and none is unanswered: a CapNotice before a Reached; a
Grant follows it directly (05 R131, R136, R137).
DEDUCED 46 (notes/assumptions). -/
def Device.pumpNotices (d : Device) (k : Nat) : Device :=
  let l := d.link k
  if d.get (O.linkState k) = 2 ∧ l.outstanding = none then
    match l.capPending, l.reachedPending with
    | some p, _ =>
      let s := (l.noticeSeq + 1) % 256
      ((d.modLink k fun l => { l with noticeSeq := s, capPending := none
                                      outstanding := some ⟨s, 0x04, p, 0⟩ }).sendZfl k 0x04 s p).sendGrant k
    | none, some p =>
      let s := (l.noticeSeq + 1) % 256
      ((d.modLink k fun l => { l with noticeSeq := s, reachedPending := none
                                      outstanding := some ⟨s, 0x03, p, 0⟩ }).sendZfl k 0x03 s p).sendGrant k
    | none, none => d
  else d

/-- A CapNotice of the present state is queued; it replaces one not yet sent or not yet answered, which
is counted as discarded (05 R137, R145). A link that is not UP queues nothing.
DEDUCED 46 (notes/assumptions). -/
def Device.capNotice (d : Device) (k : Nat) : Device :=
  if d.get (O.linkState k) = 2 then
    let l := d.link k
    let d := d.when l.capPending.isSome fun d => d.bump (O.noticesDiscarded k)
    let unanswered := match l.outstanding with
      | some n => n.kind == 0x04
      | none => false
    let d := d.when unanswered fun d =>
      (d.modLink k fun l => { l with outstanding := none }).bump (O.noticesDiscarded k)
    (d.modLink k fun l => { l with capPending := some (d.capPayload k) }).pumpNotices k
  else d

/-- A Reached is queued for a target that a tray SetVoltage put in force (05 R145). -/
def Device.reachedNotice (d : Device) (k : Nat) : Device :=
  match (d.link k).command with
  | some s =>
    if d.get (O.linkState k) = 2 then
      let p := leBytes 2 (d.get (O.targetInForce k)) ++ leBytes 1 s ++ [0]
      (d.modLink k fun l => { l with reachedPending := some p }).pumpNotices k
    else d
  | none => d

/-- A new target supersedes a Reached that has not been sent, and names its own owner: the SEQ of a tray
command, or none (04 R96, 05 R137, R145). -/
def Device.retarget (d : Device) (k : Nat) (cmd : Option Nat) : Device :=
  d.modLink k fun l => { l with reachedPending := none, command := cmd }

/-- A new target in mV with its slew class: V_tgt, TargetInForce, no settle time and no Reached (04 R94–R96). -/
def Device.setTarget (d : Device) (k : Nat) (mv : Int) (slew : Nat) (cmd : Option Nat) : Device :=
  let d := d.modFeed k fun f => { f with vtgt := (mv : Rat) / 1000, slew := slew, settling := false }
  ((d.set (O.targetInForce k) mv).setFlag (O.reached k) false).retarget k cmd

/-- A new target waits for the next loop sample, which puts it in force (04 R94, 05 R138); one that waits already is
superseded. -/
def Device.orderTarget (d : Device) (k : Nat) (mv : Int) (slew : Nat) (cmd : Option Nat) : Device :=
  d.modFeed k fun f => { f with order := some ⟨mv, slew, cmd⟩ }

/-- The target that waits takes force at a loop sample. One equal to V_tgt is no new target: it is answered at once where
Reached already holds (04 R94, 05 R138, R139). -/
def Device.takeOrder (d : Device) (k : Nat) : Device :=
  match (d.feed k).order with
  | none => d
  | some t =>
    let d := d.modFeed k fun f => { f with order := none }
    if (d.feed k).vtgt * 1000 = (t.mv : Rat) then
      let d := (d.modFeed k fun f => { f with slew := t.slew }).modLink k fun l => { l with command := t.cmd }
      d.when (d.flag (O.reached k)) fun d => d.reachedNotice k
    else d.setTarget k t.mv t.slew t.cmd

/-- The link goes DOWN with its clock low; that alone is no loss (05 R146, R148). -/
def Device.linkDown (d : Device) (k : Nat) : Device :=
  ((d.set (O.linkState k) 0).modLink k fun l => { l with missRun := 0 }).modPins fun p =>
    { p with zclkRun := modAt p.zclkRun k fun _ => false }

/-- The link is lost: DOWN, counted, its notices discarded and counted, a class-C event of the feed;
with LinkLossAction 1 the target becomes TargetVoltage with PACE3, but for a feed that is being stopped, whose target stays
StopFloor (04 R95, 05 R148, R149).
DEDUCED 173 (notes/assumptions). -/
def Device.linkLoss (d : Device) (k : Nat) : Device :=
  let l := d.link k
  let n := b2i l.outstanding.isSome + b2i l.capPending.isSome + b2i l.reachedPending.isSome
  let d := ((d.linkDown k).bump (O.linkLosses k)).bumpBy (O.noticesDiscarded k) n
  let d := d.modLink k fun l => { l with outstanding := none, capPending := none, reachedPending := none }
  let d := (d.raiseC k 0x0300 0x0201 []).edge 122
  if d.get (O.linkLossAction k) = 1 ∧ d.feedSt k ≠ 5 then d.orderTarget k (d.get (O.targetVoltage k)) 3 none else d

end Sys2Proof.Machine
end

