-- ==== Sys2Proof/Machine/FeedOps.lean ====
section
/-! DEFINITION. Phase cells and feeds: rotation, on-time, ripple, current limits, rounds, retirement,
the control law and the steps of a start (03 R53–R84, 04 R89–R117). -/

namespace Sys2Proof.Machine

/-- A raw Q15 code as a number. -/
def q15 (v : Int) : Rat := (v : Rat) / 32768
/-- A raw Q31 code as a number. -/
def q31 (v : Int) : Rat := (v : Rat) / 2147483648
/-- A raw Q16.16 code as a number. -/
def q1616 (v : Int) : Rat := (v : Rat) / 65536

/-- Mean of a list, 0 for an empty one.
DESIGN CHOICE 13 (notes/assumptions). -/
def mean (l : List Rat) : Rat := if l.isEmpty then 0 else l.sum / l.length

/-- The feed that a cell belongs to, if its map or reserve names it (16 R429 CellFeed). -/
def Device.feedOf (d : Device) (n : Nat) : Option Nat :=
  (List.range 16).find? fun k => (d.feedCells k).contains n

/-- N_act and RetiredMask follow the cell states; a change of N_act ends the round (03 R59, R73).
DESIGN CHOICE 172 (notes/assumptions). -/
def Device.recount (d : Device) (k : Nat) : Device :=
  let n : Int := (d.switching k).length
  let d := if d.get (O.activePhases k) = n then d else
    (d.set (O.activePhases k) n).endRound k
  let cs := d.feedCells k
  d.set (O.retiredMask k) (((List.range cs.length).filter fun j => d.cellSt (cs.getD j 0) == 7).foldl
    (fun m j => setBit m j) 0)

/-- A cell enters ACTIVE from PARKED, SAFE, TEST or RESERVE: x_i and b_i are 0 (03 R61, R67, 04 R102). -/
def Device.cellActive (d : Device) (n : Nat) : Device :=
  ((d.set (O.cellState n) 3).set (O.balanceTrim n) 0).modCell n fun c =>
    { c with x := 0, trim := 0, pulses := 0, drained := 0, noRise := 0, rearmed := c.rearmed || c.pulse.isNone, waiting := false }

/-- A DRAINING cell enters ACTIVE: x_i is 0, b_i is kept and frozen for 64 pulses (03 R61, R67). -/
def Device.cellReturns (d : Device) (n : Nat) : Device :=
  (d.set (O.cellState n) 3).modCell n fun c => { c with x := 0, pulses := 0, drained := 0 }

/-- Cells that pulse: ACTIVE and DRAINING, with those an early start has unshed and those that drain back
after a false start (03 R59, 04 R105, R107). -/
def Device.pulsing (d : Device) (k : Nat) : List Nat :=
  let f := d.feed k
  let spec := match f.es with
    | some es => es.parked
    | none => f.drainBack
  (d.feedCells k).filter fun n => d.cellSt n == 3 || d.cellSt n == 4 || spec.contains n

/-- Whether a cell drains: its pulses carry the drain factor. One cell drains at a time; those that drain back
after a false start come first (04 R101, R107).
DESIGN CHOICE 41 (notes/assumptions). -/
def Device.drains (d : Device) (k n : Nat) : Bool :=
  let f := d.feed k
  f.es.isNone && (match f.drainBack.head? with
    | some b => b == n
    | none => d.cellSt n == 4)

/-- Diode emulation as it acts: not while an early start has ended it speculatively, and after a false start from the
next firing on (04 R105, R107). -/
def Device.deActs (d : Device) (k : Nat) : Bool :=
  let f := d.feed k
  (d.flag (O.deActive k) || f.forcedDe) && f.es.isNone && !f.resumeDe

/-- The diode emulation that a start forces ends; with DeEnable 1 the feed stays in it by the rules of 03 R68 (04 R112). -/
def Device.endForced (d : Device) (k : Nat) : Device :=
  d.when (d.feed k).forcedDe fun d =>
    (d.modFeed k fun f => { f with forcedDe := false }).setFlag (O.deActive k) (d.flag (O.deEnable k))

/-- A time in ps as whole eu, halves upward (03 R53). -/
def psToEu (ps : Int) : Nat := (roundQ ((ps : Rat) * 96 / 10000)).toNat
/-- A time in ns as whole eu. -/
def nsToEu (ns : Int) : Nat := psToEu (ns * 1000)

/-- DT_HL in eu of the present thermal band (03 R84). -/
def Device.deadHl (d : Device) : Nat := psToEu (d.get (O.deadTime (2 * d.getN O.band)))
/-- DT_LH in eu of the present thermal band (03 R84). -/
def Device.deadLh (d : Device) : Nat := psToEu (d.get (O.deadTime (2 * d.getN O.band + 1)))

/-- Age of a pulse at its high edge: 10 LOOP periods and DT_LH after the tick (03 R64). -/
def Pulse.rise (p : Pulse) : Nat := 40 + p.lh
/-- Age at its high-to-mid edge: after the on-time, or where the current limit ended it (03 R64, R72). -/
def Pulse.fall (p : Pulse) : Nat := p.cut.getD (p.rise + p.on)
/-- Age at its mid-to-low edge. -/
def Pulse.low (p : Pulse) : Nat := p.fall + p.hl

/-- The ripple x_i of every pulsing cell and the mean m over `dt` eu at the present levels, with the ages of the pulses
and of the last firing (03 R61–R63). -/
def Device.rippleFor (d : Device) (k : Nat) (dt : Nat) : Device :=
  let f := d.feed k
  let t : Rat := (dt : Rat) / 9600000000
  let l : Rat := (d.get (O.phaseInductance k) : Rat) / 1000000000
  let g : Rat := (d.get (O.rippleGain k) : Rat) / 1000000
  let tau : Rat := (d.get (O.rippleLeak k) : Rat) / 1000000
  let cs := d.pulsing k
  let slope := fun (n : Nat) =>
    if (d.cell n).lowOff && d.deActs k then (0 : Rat) else ((if d.pwmOf n = .high then f.vbus else 0) - f.vset) / l
  let r0 := g * (cs.map fun n => (d.cell n).x).sum
  let s := g * (cs.map slope).sum
  let m := r0 + s * (t - tau) + (f.ripple - r0 + s * tau) * Config.exp (-(t / tau))
  let d' := d.forAll cs fun n e => e.modCell n fun c =>
    { c with x := c.x + slope n * t, pulse := c.pulse.map fun p => { p with age := p.age + dt } }
  d'.modFeed k fun f => { f with ripple := m, sinceFire := f.sinceFire + dt }

/-- The ripple signal y of a feed, in V (03 R62). -/
def Device.rippleY (d : Device) (k : Nat) : Rat :=
  (d.get (O.rippleGain k) : Rat) / 1000000 * ((d.pulsing k).map fun n => (d.cell n).x).sum - (d.feed k).ripple

/-- Mean phase current of the pulsing cells over their latest IMON samples, 0 while negative (03 R65). -/
def Device.phaseMean (d : Device) (k : Nat) : Rat :=
  max 0 (mean ((d.pulsing k).map fun n => (d.cell n).imon.headD 0))

/-- Mean of a cell's last 8 IMON samples (03 R67). -/
def Device.cellMean (d : Device) (n : Nat) : Rat := mean (d.cell n).imon

/-- Base on-time of a feed in seconds (03 R65). -/
def Device.baseOn (d : Device) (k : Nat) : Rat :=
  let f := d.feed k
  quot (f.vset + d.phaseMean k * ((d.get (O.lossResistance k) : Rat) / 1000000))
    (f.vbus * (d.get (O.switchFreq k) : Rat))

/-- On-time of a cell in eu, rounded to the nearest eu, ties upward (03 R53, R66). -/
def Device.onTime (d : Device) (k n : Nat) : Int :=
  let c := d.cell n
  let dd : Rat := (d.get (O.drainCycles k) : Rat)
  let factor : Rat := if d.drains k n then 1 - ((c.drained : Rat) + 1) / (dd + 1) else 1
  let t := d.baseOn k * (1 + c.trim) * factor
  let lo : Rat := (d.get (O.onTimeMin k) : Rat) / 1000000000
  let hi : Rat := (d.get (O.onTimeMax k) : Rat) / 1000000000
  roundQ (clampQ lo hi t * 9600000000)

/-- Current-limit threshold of a cell in A, and whether the cap term is the smaller one (03 R71, R72).
DEDUCED 93 (notes/assumptions). -/
def Device.limitOf (d : Device) (k : Nat) : Rat × Bool :=
  let lim : Rat := (d.get (O.phaseLimit k) : Rat) / 10
  match d.feedCap k with
  | none => (lim, false)
  | some c =>
    let t := ((c : Rat) / 10) / (d.switching k).length + (d.get (O.peakAllowance k) : Rat) / 10
    (min lim t, decide (t < lim))

/-- The balance trim of a cell at its high edge: frozen in diode emulation, while it drains and for its
first 64 pulses (03 R67). Where BalanceClamp is negative, b_i becomes −BalanceClamp.
DESIGN CHOICE 174 (notes/assumptions). -/
def Device.trimStep (d : Device) (k n : Nat) : Device :=
  let c := d.cell n
  if d.deActs k || d.cellSt n != 3 || c.pulses < 64 then d
  else
    let step := q15 (d.get (O.balanceGain k)) *
      (d.cellMean n - mean ((d.switching k).map d.cellMean)) / ((d.get (O.phaseLimit k) : Rat) / 10)
    let b := q15 (d.get (O.balanceClamp k))
    let t := clampQ (-b) b (c.trim - step)
    (d.modCell n fun c => { c with trim := t }).set (O.balanceTrim n) (quant (t * 32768))

/-- The high edge of a pulse: the trim is updated, the threshold taken, and the pulse counted (03 R67, R71, R72). -/
def Device.highEdge (d : Device) (k n : Nat) : Device :=
  let d := d.trimStep k n
  let lim := d.limitOf k
  (d.setPwm n .high).modCell n fun c =>
    { c with lowOff := false, limit := lim.1, capped := lim.2, pulses := c.pulses + 1 }

/-- What a cell's output does where its pulse stands now: low to mid, mid to high, high to mid, mid to low; the low side
is not turned on at all where the zero-current comparator has already tripped (03 R64, R69). -/
def Device.pulseEdge (d : Device) (k n : Nat) : Device :=
  match (d.cell n).pulse with
  | none => d
  | some p =>
    let d := d.when (p.age == 40) fun d => d.setPwm n .mid
    let d := d.when (p.age == p.rise) fun d => d.highEdge k n
    let d := d.when (p.age == p.fall) fun d => (d.setPwm n .mid).pulseOver k p.round
    d.when (p.age == p.low) fun d =>
      if p.zero && d.deActs k then d.modCell n fun c => { c with lowOff := true } else d.setPwm n .low

/-- eu until the next edge of the feed's pulses, `most` if none comes sooner. -/
def Device.nextEdge (d : Device) (k most : Nat) : Nat :=
  (d.pulsing k).foldl (fun b n => match (d.cell n).pulse with
    | some p => [40, p.rise, p.fall, p.low].foldl (fun b a => if p.age < a then min b (a - p.age) else b) b
    | none => b) most

/-- A pulse that has not left the low level takes the dead times of the present band (03 R84). -/
def Device.takeDead (d : Device) (k : Nat) : Device :=
  d.forAll (d.pulsing k) fun n d => d.modCell n fun c =>
    { c with pulse := c.pulse.map fun p => if p.age < 40 then { p with lh := d.deadLh, hl := d.deadHl } else p }

/-- `dt` eu pass from edge to edge; at most so many edges. -/
def Device.runEdges (k : Nat) : Nat → Nat → Device → Device
  | 0, dt, d => d.rippleFor k dt
  | _ + 1, 0, d => d
  | n + 1, dt, d =>
    let b := d.nextEdge k dt
    if b < dt then Device.runEdges k n (dt - b) ((d.rippleFor k b).forAll (d.pulsing k) fun c d => d.pulseEdge k c)
    else (d.rippleFor k dt).forAll (d.pulsing k) fun c d => d.pulseEdge k c

/-- `dt` eu of a feed pass since its previous event: its pulses go through their edges, and the ripple follows the levels
(03 R61–R64). Twelve cells have at most four edges each. -/
def Device.ripple (d : Device) (k : Nat) (dt : Nat) : Device := Device.runEdges k 64 dt (d.takeDead k)

/-- The firing belongs to the round in progress, or begins one; the N_act-th firing completes it (03 R73). -/
def Device.joinRound (d : Device) (k : Nat) : Device :=
  let n := (d.switching k).length
  let join := fun r : Round => { r with fired := r.fired + 1, left := r.left + 1, full := decide (n ≤ r.fired + 1) }
  d.modFeed k fun f => match f.rounds.getLast? with
    | some r => if r.full then
        { f with roundNo := f.roundNo + 1, rounds := f.rounds ++ [join ⟨f.roundNo + 1, 0, 0, false, false, false⟩] }
      else { f with rounds := f.rounds.dropLast ++ [join r] }
    | none => { f with roundNo := f.roundNo + 1, rounds := [join ⟨f.roundNo + 1, 0, 0, false, false, false⟩] }

/-- A mark on the round of a pulse (03 R73). -/
def Device.markRound (d : Device) (k no : Nat) (f : Round → Round) : Device :=
  d.modFeed k fun x => { x with rounds := x.rounds.map fun r => if r.no = no then f r else r }

/-- A cell that only an unruled early start has put into the rotation, or taken out of its drain, shows nothing of it in
its committed objects (04 R104). -/
def Device.specOnly (d : Device) (k n : Nat) : Bool :=
  !(d.switching k).contains n || (match (d.feed k).es with
    | some es => es.draining == some n
    | none => false)

/-- One pulse of a cell is fired with an on-time in eu (03 R64): rotation, round and count of the drain. -/
def Device.startPulse (d : Device) (k n : Nat) (eu : Int) : Device :=
  let d := d.joinRound k
  let pos := (d.feedCells k).idxOf n
  let p : Pulse := { age := 0, lh := d.deadLh, hl := d.deadHl, on := eu.toNat, cut := none, measured := false, zero := false
                     round := (d.feed k).roundNo }
  let d := d.modCell n fun c => { c with pulse := some p, drained := if d.drains k n then c.drained + 1 else c.drained }
  let d := d.when (!d.specOnly k n) fun d => d.set (O.lastOnTime n) eu
  d.modFeed k fun f =>
    { f with rot := (pos + 1) % max 1 (d.feedCells k).length, pendingFire := false, resumeDe := false, sinceFire := 0 }

/-- A cell is free: its last pulse with DT_HL and OffTimeMin has ended, and it has re-armed (03 R63). -/
def Device.cellFree (d : Device) (k n : Nat) : Bool :=
  let c := d.cell n
  c.rearmed && (match c.pulse with
    | some p => decide (p.low + nsToEu (d.get (O.offTimeMin k)) ≤ p.age)
    | none => true)

/-- The first free cell at or after the rotation pointer, in map order, taken cyclically (03 R63, R64). -/
def Device.freeCell (d : Device) (k : Nat) : Option Nat :=
  let cs := d.feedCells k
  let r := (d.feed k).rot
  let ps := d.pulsing k
  (cs.drop r ++ cs.take r).find? fun n => ps.contains n && d.cellFree k n

/-- A cell leaves the rotation for PARKED: its output stays at mid (03 R59). -/
def Device.parkCell (d : Device) (k n : Nat) : Device := (d.cutPulse k n).modCell n fun c => { c with drained := 0 }

/-- Whether a feed switches: SOFTSTART, RUNNING or STOPPING (04 R111). -/
def Device.switches (d : Device) (k : Nat) : Bool :=
  d.leRuns k && (d.feedSt k == 3 || d.feedSt k == 4 || d.feedSt k == 5)

/-- The reserve is brought in after a retirement, if it is in RESERVE (03 R80).
DESIGN CHOICE 42 (notes/assumptions). -/
def Device.bringReserve (d : Device) (k : Nat) : Device :=
  let r := d.mapReserve k
  if d.cellSt r = 6 then
    ((d.cellActive r).modFeed k fun f => { f with reserveIn := true })
  else d

/-- Capacity after a retirement or a re-admission: N_act · PhaseRating, 0xFFFF while no cell is retired;
a capacity limit in force follows it and is lifted with the last retired cell (03 R81). A feed that does not switch has no
N_act to form it from: it is formed at the next start.
DEDUCED 93, 165 (notes/assumptions). -/
def Device.updateCapacity (d : Device) (k : Nat) : Device :=
  let old := d.get (O.capacity k)
  let c : Int := if d.get (O.retiredMask k) = 0 then 0xFFFF
    else if d.feedSt k = 3 ∨ d.feedSt k = 4 ∨ d.feedSt k = 5 then (d.switching k).length * d.get (O.phaseRating k)
    else old
  let d := d.set (O.capacity k) c
  if (d.feed k).capacityLimit then
    if d.get (O.retiredMask k) = 0 then
      (d.modFeed k fun f => { f with capacityLimit := false }).capNotice k
    else d.when (c != old) fun d => d.capNotice k
  else d

end Sys2Proof.Machine
end

