-- ==== Sys2Proof/Machine/GateOps.lean ====
section
/-! DEFINITION. Tray gates and ideal-diode gates: opening, closing and forcing them off (06 R155–R172). -/

namespace Sys2Proof.Machine

/-- The tray gate of a number. -/
def Device.gate (d : Device) (k : Nat) : TrayGate := d.gates.getD k TrayGate.reset
/-- The block with one tray gate changed. -/
def Device.modGate (d : Device) (k : Nat) (f : TrayGate → TrayGate) : Device :=
  { d with gates := modAt d.gates k f }
/-- The drive of a tray gate. -/
def Device.setTgg (d : Device) (k : Nat) (b : Bool) : Device :=
  d.modPins fun p => { p with tgg := modAt p.tgg k fun _ => b }
/-- TgState (06 R156). -/
def Device.tgSt (d : Device) (k : Nat) : Nat := d.getN (O.tgState k)

/-- A tray gate turns off and enters a state; its feed link goes DOWN without a loss, and a fold-back and
the lap's measurement end (06 R160, R164, 05 R148). -/
def Device.tgOpen (d : Device) (k : Nat) (st : Int) : Device :=
  (((d.setTgg k false).set (O.tgState k) st).modGate k fun g =>
    { g with foldback := false, closedLap := false }).linkDown k

/-- An INRUSH or CLOSED gate is turned off without a trip: it opens to WAIT_FEED, where no retry is in progress (06 R160,
R162, R164). -/
def Device.tgDriveOff (d : Device) (k : Nat) : Device :=
  d.when (d.tgSt k == 4 || d.tgSt k == 5) fun d => (d.tgOpen k 3).setFlag (O.tgRetrying k) false

/-- The fixed route from a class-A fault of the feed: the gate is off in WAIT_FEED, from any state in which a tray is in
(06 R164, R169).
DEDUCED 48 (notes/assumptions). -/
def Device.tgFeedFaulted (d : Device) (k : Nat) : Device :=
  d.when (decide (2 ≤ d.tgSt k) && decide (d.tgSt k ≤ 6)) fun d => (d.tgOpen k 3).setFlag (O.tgRetrying k) false

/-- Conditions 1 to 3 of a closing: enabled, feed RUNNING, V_fb inside the gate window (06 R157); the gate can be driven
(06 R170). -/
def Device.tgMayClose (d : Device) (k : Nat) : Bool :=
  let v := (d.feed k).vfb * 1000
  d.vddaOk && d.flag (O.tgEnable k) && d.feedSt k == 4 && decide ((d.get (O.tgUvLevel k) : Rat) ≤ v) &&
    decide (v ≤ (d.get (O.tgOvLevel k) : Rat))

/-- A gate enters INRUSH: the readings of the last inrush are invalid until this one has ended CLOSED
(06 R157, R173). -/
def Device.tgInrush (d : Device) (k : Nat) : Device :=
  ((((d.setTgg k true).set (O.tgState k) 4).set (O.trayCapacitance k) 0xFFFFFFFF).set (O.trayLeakage k) 0xFFFF).modGate k
    fun g => { g with fit := List.replicate 7 0 }

/-- The ideal-diode gate of a number: 0 ORA, 1 ORB, 2–5 SG0–SG3. -/
def Device.diode (d : Device) (g : Nat) : DiodeGate := d.diodes.getD g ⟨none⟩
/-- Drive of an ideal-diode gate. -/
def Device.setDrive (d : Device) (g : Nat) (x : Drive) : Device :=
  d.modPins fun p => { p with gate := modAt p.gate g fun _ => x }
/-- Drive of an ideal-diode gate. -/
def Device.drive (d : Device) (g : Nat) : Drive := d.pins.gate.getD g .off
/-- Objects of the gate's group: 0x4700 or 0x4870. -/
def gateGroup (g : Nat) : Nat := if g < 2 then 0 else 1

/-- A gate is OFF: both banks off, not conducting (06 R165). -/
def Device.gateOff (d : Device) (g : Nat) : Device := (d.gateBanksOff g).set (O.gateMode g) 0

/-- A forced OFF with its bit of ForceOffCause (06 R165).
DEDUCED 49 (notes/assumptions). -/
def Device.gateForce (d : Device) (g b : Nat) : Device := (d.setBitOf (O.forceOffCause g) b).gateOff g

/-- A string gate is driven by an unruled hold-up early start: its committed mode is DIODE (06 R172). -/
def Device.gatePreBiased (d : Device) (g : Nat) : Bool := d.hold.es.isSome && decide (2 ≤ g) && d.get (O.gateMode g) == 2

/-- A gate enters DIODE: the diode bank is off until V_AK reaches OnThreshold, at its pre-bias in a hold-up early start
(06 R166, R172). -/
def Device.enterDiode (d : Device) (g : Nat) : Device :=
  let d := d.set (O.gateMode g) 2
  d.setDrive g (if d.gatePreBiased g then .preBias else .off)

/-- The coarse drop, held to its ±12 V (06 R168), in V. -/
def coarse (v : Rat) : Rat := clampQ (-12) 12 v

/-- A request of DIODE takes effect where nothing forces the gate OFF: PRECHARGE while V_AK exceeds PrechargeDrop, else
DIODE (06 R165–R167). V_AK is an input that only GATE_REQUEST_DIODE brings: elsewhere it is a free value.
DESIGN CHOICE 182 (notes/assumptions). -/
def Device.gateStart (d : Device) (g : Nat) : Device :=
  if d.get (O.gateRequest g) = 1 ∧ d.get (O.forceOffCause g) = 0 ∧ d.get (O.gateMode g) = 0 then
    let vak := coarse ((d.diode g).vak.getD (Config.freeRat d.free))
    let d := d.when (d.diode g).vak.isNone Device.used
    if (d.get (O.prechargeDrop (gateGroup g)) : Rat) < vak * 1000 then (d.set (O.gateMode g) 1).setDrive g .precharge
    else d.enterDiode g
  else d

/-- One cause of a forced OFF is lifted. -/
def Device.gateRelease (d : Device) (g b : Nat) : Device :=
  (d.clearBitOf (O.forceOffCause g) b).gateStart g

end Sys2Proof.Machine
end

