-- ==== Sys2Proof/Machine/PortOps.lean ====
section
/-! DEFINITION. PMBus ports and rectifier slots: the queue of a port, and entry to a slot state
(07 R184–R192). -/

namespace Sys2Proof.Machine

/-- The port of a number. -/
def Device.port (d : Device) (p : Nat) : PbPort := d.ports.getD p ⟨none, [], 0⟩
/-- The block with one port changed. -/
def Device.modPort (d : Device) (p : Nat) (f : PbPort → PbPort) : Device :=
  { d with ports := modAt d.ports p f }
/-- The rectifier slot of a number. -/
def Device.slot (d : Device) (r : Nat) : RectSlot := d.slots.getD r RectSlot.reset
/-- The block with one rectifier slot changed. -/
def Device.modSlot (d : Device) (r : Nat) (f : RectSlot → RectSlot) : Device :=
  { d with slots := modAt d.slots r f }
/-- RectState (07 R191). -/
def Device.rectSt (d : Device) (r : Nat) : Nat := d.getN (O.rectState r)
/-- The port that serves a slot (07 R180). -/
def portOf (r : Nat) : Nat := r / 8
/-- A port is STUCK. -/
def Device.stuck (d : Device) (p : Nat) : Bool := d.get (O.pbPortState p) == 3

/-- Slots in a state. -/
def Device.rectIn (d : Device) (sts : List Nat) : List Nat :=
  (List.range 32).filter fun r => sts.contains (d.rectSt r)

/-- Rating of a slot in W, from its capability record (07 R190). -/
def Device.rating (d : Device) (r : Nat) : Nat := field (d.get (O.capability r)) 52 2

/-- C_on of R199: the ratings of the slots in ADDING, ONLINE and SHEDDING but `skip`, less the
RedundantCount largest. -/
def Device.onCapacity (d : Device) (skip : Option Nat) : Nat :=
  let rs := ((d.rectIn [4, 5, 6]).filter fun r => skip != some r).map d.rating
  ((rs.mergeSort (fun a b => decide (b ≤ a))).drop (d.getN O.redundantCount)).sum

/-- OnlineCount and OnlineCapacity follow the slots (07 R211). -/
def Device.rectCounts (d : Device) : Device :=
  (d.set O.onlineCount (d.rectIn [5]).length).set O.onlineCapacity (d.onCapacity none)

/-- A slot enters a state (07 R191, R206). -/
def Device.setRect (d : Device) (r : Nat) (st : Nat) : Device :=
  let d := ((d.set (O.rectState r) st).stampAt (O.rectStateStamp r)).setFlag (O.rectRetrying r) (st == 8)
  (d.modSlot r fun x => { x with since := d.lap, adopted := x.adopted && st == 5
                                 cause := if st == 8 || st == 9 then x.cause else none }).rectCounts

/-- A port may send: rectifier management is enabled, the port is not STUCK, a shelf core is active and the
controller is not in its class-A safe state (07 R185, R192, R198, 14 R366). -/
def Device.portMay (d : Device) (p : Nat) : Bool := d.flag O.rectEnable && !(d.stuck p) && d.scActive

/-- The port takes its next transaction if none is in progress. -/
def Device.pbStart (d : Device) (p : Nat) : Device :=
  let x := d.port p
  match x.busy, x.queue with
  | none, j :: q =>
    if d.portMay p then
      (d.modPort p fun x => { x with busy := some { j with lap := d.lap }, queue := q }).set (O.pbPortState p) 1
    else d
  | _, _ => d

/-- The queue of a slot's port with a transaction put in, while rectifier management is enabled (07 R192). -/
def Device.pbEnter (d : Device) (r : Nat) (f : List Job → List Job) : Device :=
  d.when (d.flag O.rectEnable) fun d =>
    (d.modPort (portOf r) fun x => { x with queue := f x.queue }).pbStart (portOf r)

/-- The reads of identities at the head of a queue go before every write (07 R185). -/
def headIds (q : List Job) : List Job := q.takeWhile fun j => j.purpose == .identity
/-- What follows them. -/
def afterIds (q : List Job) : List Job := q.dropWhile fun j => j.purpose == .identity

/-- A transaction at the end of the port's queue. -/
def Device.pbPut (d : Device) (r code : Nat) (w : Bool) (data : List Byte) (u : Purpose) : Device :=
  d.pbEnter r fun q => q ++ [⟨r, code, w, data, 0, 0, u⟩]

/-- A transaction placed before everything that waits but reads of identities: an order of the policy or of a fault. -/
def Device.pbOrder (d : Device) (r code : Nat) (data : List Byte) : Device :=
  d.pbEnter r fun q => headIds q ++ ⟨r, code, true, data, 0, 0, .order⟩ :: afterIds q

/-- The identity of a slot is read before everything else that its port has to do (07 R185, R188). -/
def Device.pbIdentify (d : Device) (r : Nat) : Device :=
  d.pbEnter r fun q => headIds q ++ ⟨r, 0x9E, false, [], 0, 0, .identity⟩ :: afterIds q

/-- A port that may send and has no identity to read first (07 R185). -/
def Device.pbWrites (d : Device) (p : Nat) : Bool :=
  d.portMay p && (headIds ((d.port p).busy.toList ++ (d.port p).queue)).isEmpty

end Sys2Proof.Machine
end

