-- ==== Sys2Proof/Machine/SeqOps.lean ====
section
/-! DEFINITION. Feed starts and stops, and the sequencer's rails: enables, states, events, power-up and
power-down (04 R112–R113, 12 R315–R336). -/

namespace Sys2Proof.Machine

/-- Entry to PRETEST: every listed and reserve cell that is not RETIRED enters TEST, DRVEN is asserted and
FaultCause is cleared where a write of FeedEnable 1 causes the entry (03 R76, 04 R112, R114). -/
def Device.enterPretest (d : Device) (k : Nat) (clear : Bool) : Device :=
  let d := d.forAll (d.feedCells k) fun n d => if d.cellSt n = 7 then d else d.set (O.cellState n) 2
  let d := d.when clear fun d => d.set (O.faultCause k) 0
  (((d.setDrven k true).set (O.feedState k) 2).setFlag (O.reached k) false).set (O.activePhases k) 0

/-- V_bus inside 32–60 V (04 R114). -/
def Device.busOk (d : Device) (k : Nat) : Bool :=
  decide ((32 : Rat) ≤ (d.feed k).vbus) && decide ((d.feed k).vbus ≤ 60)

/-- An enable of a feed (04 R111, R112): DISABLED, STOPPING and an acknowledged LATCHED feed start; a feed
that waits, starts or runs goes on. -/
def Device.feedStart (d : Device) (k : Nat) : Device :=
  let st := d.feedSt k
  if st = 0 ∨ st = 5 ∨ (st = 7 ∧ (d.fault k).bSources = [] ∧ (d.fault k).aHeld = false) then
    let d := (d.feedSafe k).when (d.get (O.ocState k) == 3) fun d => d.set (O.ocState k) 0
    if d.busOk k then d.enterPretest k true else d.set (O.feedState k) 1
  else d

/-- Every cell that a shed had taken out switches again as ACTIVE (04 R99, R111). -/
def Device.unshed (d : Device) (k : Nat) : Device :=
  (d.forAll (d.feedCells k) fun n d =>
    if d.cellSt n = 5 then d.cellActive n
    else if d.cellSt n = 4 then d.cellReturns n
    else d).modFeed k fun f => { f with draining := none, drainBack := [] }

/-- A disable of a feed (04 R113): a ramp to StopFloor with PACE3 from RUNNING or SOFTSTART in StopMode 0,
else SAFE at once; a LATCHED or FAULTED feed stays. -/
def Device.feedStop (d : Device) (k : Nat) : Device :=
  let st := d.feedSt k
  if st = 7 ∨ st = 8 ∨ st = 5 ∨ st = 0 then
    d.when (st == 5 && d.get (O.stopMode k) == 1) fun d =>
      ((d.feedSafe k).setDrven k false).set (O.feedState k) 0
  else
    let d := (d.stepFalse k).endHiccup k
    if (st = 4 ∨ st = 3) ∧ d.get (O.stopMode k) = 0 then
      let d := ((d.unshed k).recount k).endForced k
      (d.orderTarget k (d.get (O.stopFloor k)) 3 none).set (O.feedState k) 5
    else ((d.feedSafe k).setDrven k false).set (O.feedState k) 0

/-- The rail of a number, beyond its objects. -/
def Device.rail (d : Device) (r : Nat) : Rail := d.seq.rails.getD r ⟨false, false, false, false, false⟩
/-- The block with the sequencer changed. -/
def Device.modSeq (d : Device) (f : Sequencer → Sequencer) : Device := { d with seq := f d.seq }
/-- The block with one rail changed. -/
def Device.modRail (d : Device) (r : Nat) (f : Rail → Rail) : Device :=
  d.modSeq fun s => { s with rails := modAt s.rails r f }
/-- RailState (12 R321). -/
def Device.railSt (d : Device) (r : Nat) : Nat := d.getN (O.railState r)
/-- Rails in use (12 R315). -/
def Device.railsInUse (d : Device) : List Nat := (List.range 24).filter fun r => d.get (O.railKind r) != 0
/-- Predecessors of a rail (12 R317). -/
def Device.preds (d : Device) (r : Nat) : List Nat :=
  ((List.range 4).map fun j => field (d.get (O.predecessors r)) j 1).filter fun p => p != 0xFF
/-- Rails in use that list a rail as predecessor (12 R317). -/
def Device.dependants (d : Device) (r : Nat) : List Nat :=
  d.railsInUse.filter fun q => (d.preds q).contains r
/-- A rail and its dependants, taken transitively (12 R317): the closure of 24 steps. -/
def Device.subtree (d : Device) (r : Nat) : List Nat :=
  (List.range 24).foldl (fun l _ =>
    d.railsInUse.filter fun q => l.contains q || (d.preds q).any l.contains) [r]

/-- The feed of a feed rail. -/
def Device.railFeed (d : Device) (r : Nat) : Option Nat :=
  if d.get (O.railKind r) = 2 then some (d.getN (O.feedNumber r)) else none

/-- The source of a rail is retrying: its feed publishes it (12 R316). -/
def Device.srcRetrying (d : Device) (r : Nat) : Bool :=
  match d.railFeed r with
  | some k => d.get (O.ocState k) == 1 || d.get (O.ocState k) == 2
  | none => false

/-- The source of a rail is latched (12 R316). -/
def Device.srcLatched (d : Device) (r : Nat) : Bool :=
  match d.railFeed r with
  | some k => d.feedSt k == 7 || d.feedSt k == 8
  | none => false

/-- The 24 bytes of SV11 conversions, which no command brings: free values (12 R336).
DESIGN CHOICE 80 (notes/assumptions). -/
def Device.sv11 (d : Device) : List Byte := leBytes 24 d.freeVal

/-- States of the rails, 4 bits each (12 R336).
DEDUCED 88 (notes/assumptions). -/
def Device.railNibbles (d : Device) : List Byte :=
  (List.range 12).map fun j => BitVec.ofNat 8 (d.railSt (2 * j) + 16 * d.railSt (2 * j + 1))

/-- A sequencer event: its own record as a class-D notice, and the snapshot record that follows it
(12 R328, R335, R336).
DESIGN CHOICE 80, 81 (notes/assumptions). -/
def Device.seqEvent (d : Device) (source : Nat) : Device :=
  let d := d.raiseD 78 source 0x0801 []
  let d := d.offer ⟨0x0802, source, 78, 0, d.now, d.sv11 ++ d.railNibbles, false⟩
  d.used.bump O.snapshots

/-- The autostart profile fails with a cause: a class-C event of block 80, whose code no rule states: a free value
(20 R502).
DESIGN CHOICE 138 (notes/assumptions). -/
def Device.autostartFail (d : Device) (cause : Int) : Device :=
  d.when (d.get O.autostartState == 1) fun d =>
    let d := (((d.set O.autostartState 3).set O.autostartFailCause cause).stampAt O.autostartStamp)
    d.used.raiseC 80 0 (d.freeVal % 65536).toNat (leBytes 1 cause)

/-- SeqState changes (12 R335); LATCHED fails a running autostart profile (20 R502). -/
def Device.setSeqState (d : Device) (st : Int) : Device :=
  if d.get O.seqState = st then d
  else
    let d := ((d.set O.seqState st).setFlag O.seqRetrying (st == 3 || st == 4)).seqEvent 0
    d.when (st == 8) fun d => d.autostartFail 2

/-- The condition of a reset output: a mask that names only rails in use, all of them UP (12 R331). -/
def Device.rstCond (d : Device) (i : Nat) : Bool :=
  let m := d.get (O.rstMask i)
  m != 0 && (List.range 24).all fun r =>
    !(bit m r) || (d.get (O.railKind r) != 0 && (d.rail r).up && d.railSt r == 4)

/-- A reset output changes (12 R331, R335). -/
def Device.setRst (d : Device) (i : Nat) (asserted : Bool) : Device :=
  if d.flag (O.rstAsserted i) = asserted then d
  else ((d.setFlag (O.rstAsserted i) asserted).modPins fun p =>
    { p with rstOut := modAt p.rstOut i fun _ => asserted }).seqEvent 0

/-- Every reset output whose condition has failed is asserted. -/
def Device.updateRst (d : Device) : Device :=
  d.forAll (List.range 8) fun i d => if d.rstCond i then d else d.setRst i true

/-- A rail enters a state; entry to UP, FAILED, HELD and OFF is a sequencer event (12 R321, R335). -/
def Device.setRail (d : Device) (r st : Nat) : Device :=
  let d := (d.set (O.railState r) st).stampAt (O.railStateStamp r)
  let d := d.modRail r fun x =>
    { x with up := st == 4, down := x.down && st != 0 && st != 6 && st != 7, held := st == 5 || (x.held && st == 3)
             latched := x.latched && st != 0 && st != 2 }
  let d := d.when (st == 4 || st == 7 || st == 5 || st == 0) fun d => d.seqEvent (0x0400 + r)
  d.updateRst

/-- The enable of a rail (12 R315, R316). -/
def Device.railEnable (d : Device) (r : Nat) (on : Bool) : Device :=
  match d.railFeed r with
  | some k =>
    let d := d.setFlag (O.feedEnable k) on
    if on then d.feedStart k else d.feedStop k
  | none => d.modPins fun p => { p with seqEn := modAt p.seqEn r fun _ => on }

/-- Power-down of a list of rails begins: each one that is not OFF waits for its step; one in WAITING is OFF
at once; one that is FAILED is OFF with its subtree (12 R321, R323).
DEDUCED 84 (notes/assumptions). -/
def Device.railsDown (d : Device) (l : List Nat) : Device :=
  d.forAll l fun r d =>
    if d.railSt r = 1 then d.setRail r 0
    else if d.railSt r = 0 ∨ d.railSt r = 8 ∨ d.railSt r = 6 ∨ d.railSt r = 7 then d
    else d.modRail r fun x => { x with down := true }

/-- Power-up of a list of rails: each one that is OFF waits for its predecessors (12 R322). -/
def Device.railsUp (d : Device) (l : List Nat) : Device :=
  d.forAll l fun r d => if d.railSt r = 0 then d.setRail r 1 else d

/-- The controller pulls SEQ_FLT_N low (12 R332–R334). -/
def Device.seqFltNow (d : Device) : Bool :=
  d.seq.drive || d.seq.routePulse ||
    (d.flag O.controllerClassA && bit (d.get O.seqFltMode) 2 && d.flag O.seqFltEnable)

/-- SEQ_FLT_N and the object that shows it follow the condition. -/
def Device.updateSeqFlt (d : Device) : Device :=
  (d.modPins fun p => { p with seqFltN := !d.seqFltNow }).setFlag O.seqFltDriving d.seqFltNow

/-- The controller pulls the shared line, or ceases to (12 R332, R333). -/
def Device.driveFlt (d : Device) (b : Bool) : Device :=
  (d.modSeq fun s => { s with drive := b, released := !b && (s.drive || s.released) }).updateSeqFlt

/-- Every rail in use is OFF. -/
def Device.allOff (d : Device) : Bool := d.railsInUse.all fun r => d.railSt r == 0

/-- A rail that FAILED is OFF once the rest of its subtree is (12 R321).
DEDUCED 84 (notes/assumptions). -/
def Device.settleFailed (d : Device) : Device :=
  d.forAll (List.range 24).reverse fun r d =>
    d.when (d.railSt r == 7 && ((d.subtree r).all fun q => q == r || d.railSt q == 0)) fun d => d.setRail r 0

/-- What follows when every rail is OFF after a power-down (12 R323, R332, R333). In OFF and POWERING_UP the power-down
of a latch that was acknowledged before its end is over.
DESIGN CHOICE 195 (notes/assumptions). -/
def Device.seqDownDone (d : Device) : Device :=
  if d.allOff then
    match d.getN O.seqState with
    | 0 => d.driveFlt false
    | 1 => d.railsUp d.railsInUse
    | 4 => d.driveFlt false
    | 5 => (d.driveFlt false).setSeqState 0
    | 6 => (d.driveFlt false).setSeqState 7
    | 8 => d.when (!(bit (d.get O.seqFltMode) 3)) fun d => d.driveFlt false
    | _ => d
  else d

/-- A latch of the sequencer: every rail is taken down and SeqState is LATCHED (12 R325 row 3, R333 b1). -/
def Device.seqLatchDown (d : Device) : Device :=
  let d := (d.modSeq fun s => { s with retries := [], armed := false }).railsDown d.railsInUse
  let d := (d.setSeqState 8).bump O.latches
  let d := d.when (bit (d.get O.seqFltMode) 1 && d.flag O.seqFltEnable) fun d => d.driveFlt true
  d.settleFailed.seqDownDone

end Sys2Proof.Machine
end

