-- ==== Sys2Proof/Machine/HoldOps.lean ====
section
/-! DEFINITION. The hold-up early start: how its effects are held and given up (10 R271–R277, 06 R172, 08 R234). -/

namespace Sys2Proof.Machine

/-- The block with the hold-up part changed. -/
def Device.modHold (d : Device) (f : Hold → Hold) : Device := { d with hold := f d.hold }

/-- A sample of SV9 input 0 in µV that the loop samples of feed i, or the gauge samples of string i − 16, bring: those in a
row below HoldupThreshold are counted, and one that is not ends every run (10 R268 b2).
DESIGN CHOICE 197 (notes/assumptions). -/
def Device.busSample (d : Device) (i : Nat) (v : Int) : Device :=
  if v < d.get O.holdupThreshold * 1000 then d.modHold fun h => { h with lowRuns := modAt h.lowRuns i (· + 1) }
  else d.modHold fun h => { h with lowRuns := List.replicate 20 0 }

/-- The preload ramps to 0 over PreloadRelease in every feed (10 R274, R275). -/
def Device.releasePreload (d : Device) : Device :=
  d.forAll (List.range 16) fun k d =>
    d.modFeed k fun f => { f with sagStep := f.sag / (d.get O.preloadRelease : Rat) }

/-- The string gates return to R166: the pre-bias is removed, a gate that conducts regulates again
(06 R172). -/
def Device.gatesCommitted (d : Device) : Device :=
  d.forAll [2, 3, 4, 5] fun g d =>
    d.when (d.drive g == .preBias || d.drive g == .full) fun d =>
      d.setDrive g (if d.flag (O.conducting g) then .regulating else .off)

/-- The unruled early start is over: its gates, preload, pauses and reservation are given up.
DEDUCED 65 (notes/assumptions). -/
def Device.holdEnd (d : Device) : Device :=
  (d.gatesCommitted.releasePreload).modHold fun h => { h with es := none }

/-- A string is in a charge state (08 R218). -/
def Device.strCharges (d : Device) (n : Nat) : Bool := decide (4 ≤ d.get (O.stringState n)) && decide (d.get (O.stringState n) ≤ 7)

/-- The strings of a list of numbers changed. -/
def modAll (ns : List Nat) (f : Str → Str) (l : List Str) : List Str := ns.foldl (fun l n => modAt l n f) l

/-- An unruled hold-up early start is ruled false at a stamp: the chargers that charge fire again with I_r from 0,
FalseStarts and one record (08 R234, 10 R275). With no bus sample since the early start its lowest voltage is not stated:
free.
DEDUCED 65 (notes/assumptions). -/
def Device.holdFalse (d : Device) (stamp : Nat) : Device :=
  match d.hold.es with
  | none => d
  | some e =>
    let low := match e.low with
      | some v => quant (v * 1000)
      | none => d.freeVal
    let d := d.when e.low.isNone Device.used
    let strs := modAll ((List.range 4).filter d.strCharges) (fun x => { x with ir := 0 }) d.strings
    let strs := modAll ((List.range 4).filter fun n => d.getN (O.stringState n) == 5) (fun x => { x with skip := 2 }) strs
    ({ d.holdEnd with strings := strs }.bump O.holdupFalseStarts).raiseTwo 80 0 0x0603 e.stamp stamp
      (leBytes 8 e.dev ++ leBytes 4 low)

/-- No shelf core runs any more (10 R284): an unruled early start is false at this stamp, and nothing is ruled after it. -/
def Device.holdLost (d : Device) : Device := (d.holdFalse d.now).modHold fun h => { h with due := none }

end Sys2Proof.Machine
end

