-- ==== Sys2Proof/Machine/SymbolCode.lean ====
section
/-! DEFINITION. The symbol code of the memories: GF(256) under 0x11D, the burst's two codewords, and the decoder (18
R450, R451). -/

namespace Sys2Proof.Machine

/-- Times α = x. -/
def gfTimesX (a : Byte) : Byte := if a.getLsbD 7 then (a <<< 1) ^^^ 0x1D#8 else a <<< 1

/-- Product in GF(256). -/
def gfMul (a b : Byte) : Byte :=
  ((List.range 8).foldl (fun (r : Byte × Byte) i => (if b.getLsbD i then r.1 ^^^ r.2 else r.1, gfTimesX r.2)) (0#8, a)).1

/-- αⁿ. -/
def gfPow : Nat → Byte
  | 0 => 1#8
  | n + 1 => gfTimesX (gfPow n)

/-- Codeword c of a burst of eight beats, nine bytes each, lanes 0–7 and the check byte: the coefficients from x³⁵ down
(18 R450). -/
def codeword (burst : List Byte) (c : Nat) : List Byte :=
  (List.range 32).map (fun j => burst.getD (9 * (2 * (j / 8) + c) + j % 8) 0) ++
    (List.range 4).map fun k => burst.getD (9 * (2 * k + c) + 8) 0

/-- A polynomial, coefficients from the highest power down, times x − r. -/
def timesRoot (p : List Byte) (r : Byte) : List Byte := List.zipWith (· ^^^ ·) (p ++ [0#8]) (0#8 :: p.map (gfMul r))

/-- The generator (x − α⁰)(x − α¹)(x − α²)(x − α³) without its leading 1 (18 R450). -/
def generator : List Byte := ([0, 1, 2, 3].foldl (fun p i => timesRoot p (gfPow i)) [1#8]).tail

/-- One data symbol into the remainder of x⁴·d(x) by the generator, coefficients of x³ down to x⁰. -/
def divideStep (r : List Byte) (s : Byte) : List Byte :=
  let q := s ^^^ r.headD 0#8
  List.zipWith (· ^^^ ·) (r.tail ++ [0#8]) (generator.map (gfMul q))

/-- The four check symbols of 32 data symbols (18 R450). -/
def checkSymbols (data : List Byte) : List Byte := data.foldl divideStep (List.replicate 4 0#8)

/-- The codeword of 32 data symbols, systematic (01 R17, 18 R450). -/
def encodeWord (data : List Byte) : List Byte := data ++ checkSymbols data

/-- The data symbols of codeword c of 64 data bytes (18 R450). -/
def dataSymbols (data : List Byte) (c : Nat) : List Byte :=
  (List.range 32).map fun j => data.getD (8 * (2 * (j / 8) + c) + j % 8) 0#8

/-- The 72 bytes that a burst of 64 data bytes is stored as: eight beats of eight lanes and the check byte (01 R17, 18
R450). -/
def encodeBurst (data : List Byte) : List Byte :=
  (List.range 8).flatMap fun t =>
    (List.range 8).map (fun l => data.getD (8 * t + l) 0#8) ++ [(checkSymbols (dataSymbols data (t % 2))).getD (t / 2) 0#8]

/-- Syndrome S_i of a codeword (18 R451). -/
def syndrome (word : List Byte) (i : Nat) : Byte := word.foldl (fun s r => gfMul s (gfPow i) ^^^ r) 0#8

/-- What the decoder finds: no error, the position and value of one symbol error, or an uncorrectable codeword. -/
inductive Decoded where
  | clean
  | corrected (p : Nat) (value : Byte)
  | uncorrectable
  deriving DecidableEq, Repr

/-- The decoder of one codeword (18 R451). -/
def decodeWord (word : List Byte) : Decoded :=
  let s0 := syndrome word 0
  let s1 := syndrome word 1
  let s2 := syndrome word 2
  let s3 := syndrome word 3
  if s0 = 0 ∧ s1 = 0 ∧ s2 = 0 ∧ s3 = 0 then .clean
  else if s0 = 0 then .uncorrectable
  else match (List.range 36).find? fun p =>
      gfMul s0 (gfPow p) == s1 && gfMul s1 (gfPow p) == s2 && gfMul s2 (gfPow p) == s3 with
    | some p => .corrected p s0
    | none => .uncorrectable

/-- The decoder of a burst: uncorrectable if either codeword is, clean if both are (18 R451). -/
def decodeBurst (burst : List Byte) : Decoded :=
  match decodeWord (codeword burst 0), decodeWord (codeword burst 1) with
  | .uncorrectable, _ => .uncorrectable
  | _, .uncorrectable => .uncorrectable
  | .clean, x => x
  | x, _ => x

/-- A codeword with its one symbol error corrected (18 R451). -/
def correctWord (word : List Byte) : List Byte :=
  match decodeWord word with
  | .corrected p v => modAt word (35 - p) fun s => s ^^^ v
  | _ => word

/-- The 64 data bytes that a burst delivers, corrected; none where it cannot be (18 R451, R452). -/
def deliver (burst : List Byte) : Option (List Byte) :=
  if decodeBurst burst = .uncorrectable then none
  else
    let ws := [correctWord (codeword burst 0), correctWord (codeword burst 1)]
    some ((List.range 64).map fun b => (ws.getD (b / 8 % 2) []).getD (8 * (b / 16) + b % 8) 0#8)

end Sys2Proof.Machine
end

