-- ==== Sys2Proof/Machine/MemOps.lean ====
section
/-! DEFINITION. DDR4 states, pools and lanes: allocation, overwriting, commit, claim, release, flush and the lap check
(18 R447–R471). -/

namespace Sys2Proof.Machine

/-- The lane of a number. -/
def Device.lane (d : Device) (q : Nat) : Lane := d.mem.lanes.getD q Lane.reset
/-- The memories changed. -/
def Device.modMem (d : Device) (f : Mem → Mem) : Device := { d with mem := f d.mem }
/-- One lane changed. -/
def Device.modLane (d : Device) (q : Nat) (f : Lane → Lane) : Device :=
  d.modMem fun m => { m with lanes := modAt m.lanes q f }

/-- Pool of a lane: 0 on-chip, 1 bulk. -/
def Device.poolOf (d : Device) (q : Nat) : Nat := d.getN (O.lanePool q)
/-- Cells of a pool (18 R460). -/
def Device.poolTotal (d : Device) (p : Nat) : Nat :=
  if p = 0 then 8192 else if d.get O.ddrState = 2 then d.getN O.bulkPoolSize * 16384 else 0
/-- Free cells of a pool. -/
def Device.poolFree (d : Device) (p : Nat) : Nat := d.mem.free.getD p 0
/-- Free cells changed. -/
def Device.modFree (d : Device) (p : Nat) (f : Nat → Nat) : Device := d.modMem fun m => { m with free := modAt m.free p f }

/-- Cells of so many bytes (18 R461). -/
def cellsOf (n : Nat) : Nat := (n + 63) / 64
/-- Cells of an item. -/
def Item.cells (i : Item) : Nat := cellsOf i.data.length
/-- Cells of an item that lie in a pool. -/
def Item.cellsIn (p : Nat) (i : Item) : Nat := if i.pool = p then i.cells else 0
/-- Cells of committed items that are not claimed (18 R468). -/
def Lane.allocated (l : Lane) : Nat := (l.items.map Item.cells).sum
/-- Cells of the packet in progress. -/
def Lane.packetCells (l : Lane) : Nat :=
  match l.packet with
  | some p => p.cells
  | none => 0
/-- Cells of the claimed item and of the packet in progress. -/
def Lane.inFlight (l : Lane) : Nat :=
  (match l.claim with
    | some c => c.1.cells
    | none => 0) + l.packetCells
/-- Cells that a lane holds, in all states. -/
def Lane.cells (l : Lane) : Nat := l.allocated + l.inFlight

/-- Lanes of a pool. -/
def Device.lanesOf (d : Device) (p : Nat) : List Nat := (List.range 128).filter fun q => d.poolOf q == p
/-- Allocated cells of a pool. -/
def Device.poolAllocated (d : Device) (p : Nat) : Nat :=
  ((List.range 128).map fun q => ((d.lane q).items.map (Item.cellsIn p)).sum).sum
/-- Cells of a pool in flight: claimed items in it, packets in progress of its lanes. -/
def Device.poolInFlight (d : Device) (p : Nat) : Nat :=
  ((List.range 128).map fun q =>
    (match (d.lane q).claim with
      | some c => c.1.cellsIn p
      | none => 0) + if d.poolOf q = p then (d.lane q).packetCells else 0).sum
/-- Quotas of the enabled lanes of a pool. -/
def Device.quotaSum (d : Device) (p : Nat) : Int :=
  (((d.lanesOf p).filter fun q => d.flag (O.laneEnable q)).map fun q => d.get (O.quota q)).sum

/-- An item is lost: LostItems and the counter that says how. -/
def Device.loseItem (d : Device) (q : Nat) (o : Obj) : Device := (d.bump o).bump (O.lostItems q)

/-- The packet in progress is rewound: its cells return at once, it takes no number (18 R463). -/
def Device.rewind (d : Device) (q : Nat) : Device :=
  match (d.lane q).packet with
  | none => d
  | some p =>
    (((d.modLane q fun l => { l with packet := none }).modFree (d.poolOf q) fun n => n + p.cells).bump (O.rewinds q)).bumpBy
      (O.rewoundCells q) p.cells

/-- The oldest committed item that is not claimed is overwritten (18 R466); a damaged one is discarded (18 R453). -/
def Device.overwrite (d : Device) (q : Nat) : Device :=
  match (d.lane q).items with
  | [] => d
  | i :: rest =>
    ((d.modLane q fun l => { l with items := rest }).modFree i.pool fun n => n + i.cells).loseItem q
      (if i.damaged then O.damaged q else O.overwritten q)

/-- One cell for the packet in progress (18 R466): with no room the packet is rewound and refused; on a bulk lane without
DDR4 it is refused at its first word (18 R469). -/
def Device.allocCell (d : Device) (q : Nat) : Device :=
  let take := fun (d : Device) =>
    (d.modLane q fun l => { l with packet := l.packet.map fun p => { p with cells := p.cells + 1 } }).modFree (d.poolOf q)
      fun n => n - 1
  if d.poolOf q = 1 ∧ d.get O.ddrState ≠ 2 then (d.modLane q fun l => { l with packet := none }).loseItem q (O.refused q)
  else if ((d.lane q).cells : Int) < d.get (O.quota q) then take d
  else
    let d' := d.overwrite q
    if ((d'.lane q).cells : Int) < d.get (O.quota q) then take d'
    else (d.rewind q).loseItem q (O.refused q)

/-- `n` more cells, as long as the packet is not refused. -/
def Device.allocCells (d : Device) (q : Nat) : Nat → Device
  | 0 => d
  | n + 1 => if (d.lane q).packet.isSome then (d.allocCell q).allocCells q n else d

/-- A packet starts on a lane. -/
def Device.startPacket (d : Device) (q owner : Nat) : Device :=
  d.modLane q fun l => { l with packet := some ⟨owner, 0, []⟩ }

/-- Data appended to the packet in progress, cell by cell (18 R461, R466). -/
def Device.pushData (d : Device) (q : Nat) (data : List Byte) : Device :=
  match (d.lane q).packet with
  | none => d
  | some p =>
    let d := d.allocCells q (cellsOf (p.data.length + data.length) - p.cells)
    d.modLane q fun l => { l with packet := l.packet.map fun p => { p with data := p.data ++ data } }

/-- The last word has been written: the packet is the newest item, with the next number and the present stamp (18
R462). -/
def Device.commitPacket (d : Device) (q : Nat) : Device :=
  match (d.lane q).packet with
  | none => d
  | some p =>
    let d := d.bump (O.committed q)
    let i : Item := ⟨d.getN (O.committed q), p.data.length / d.getN (O.wordSize q), d.now, p.data, false, d.poolOf q⟩
    d.modLane q fun l => { l with packet := none, items := l.items ++ [i] }

/-- A PushSegment is refused, with its abort code (18 R464): FLAGS, 3 reserved bytes, data.
DESIGN CHOICE 121 (notes/assumptions). -/
def Device.segmentBad (d : Device) (q path : Nat) (bs : List Byte) : Nat :=
  let f := (bs.getD 0 0).toNat
  let data := bs.drop 4
  let n := data.length
  let first := bits f 0 1 == 1
  let last := bits f 1 1 == 1
  let abort := bits f 2 1 == 1
  let held : Nat := match (d.lane q).packet with
    | some p => p.data.length
    | none => 0
  let foreign := match (d.lane q).packet with
    | some p => first || p.owner != path
    | none => !first
  if q = d.getN O.splitLane ∨ foreign = true ∨ d.flag (O.laneEnable q) = false then 0x0814
  else if bs.length < 4 then 0x0809
  else if abort = true ∧ n ≠ 0 then 0x0809
  else if n % d.getN (O.wordSize q) ≠ 0 ∨ (last = true ∧ abort = false ∧ held + n = 0) ∨ 65536 < held + n then 0x0809
  else 0

/-- An accepted PushSegment (18 R461–R466).
DESIGN CHOICE 121 (notes/assumptions). -/
def Device.segmentNow (d : Device) (q path : Nat) (bs : List Byte) : Device :=
  let f := (bs.getD 0 0).toNat
  let d := d.when (bits f 0 1 == 1) fun d => d.startPacket q path
  if bits f 2 1 = 1 then d.rewind q
  else
    let d := d.pushData q (bs.drop 4)
    d.when (bits f 1 1 == 1) fun d => d.commitPacket q

/-- A whole packet of the split generator (02 R51, 18 R460, R463). A split that finds a host's packet in progress on the
lane, which SplitLane has been moved to, is dropped and not counted.
DESIGN CHOICE 181 (notes/assumptions). -/
def Device.pushSplit (d : Device) (bytes : List Byte) : Device :=
  let q := d.getN O.splitLane
  d.when (d.flag (O.laneEnable q) && (d.lane q).packet.isNone) fun d => ((d.startPacket q 0xFE).pushData q bytes).commitPacket q

/-- Damaged items at the head of a lane are discarded at a claim (18 R465). -/
def Device.dropDamaged (d : Device) (q : Nat) : Device :=
  let bad := (d.lane q).items.takeWhile Item.damaged
  bad.foldl (fun d _ => d.overwrite q) d

/-- A Claim is refused (18 R465). -/
def Device.claimRefused (d : Device) (q : Nat) : Bool := (d.lane q).claim.isSome || (d.lane q).items.isEmpty

/-- The oldest committed item moves to in flight; LaneIdle clears (18 R465, R467). Where every item turns out damaged, they
are discarded and nothing is claimed.
DESIGN CHOICE 121 (notes/assumptions). -/
def Device.claimNow (d : Device) (q path : Nat) : Device :=
  let d := (d.dropDamaged q).setFlag (O.laneIdle q) false
  match (d.lane q).items with
  | [] => d
  | i :: rest => d.modLane q fun l => { l with items := rest, claim := some (i, path) }

/-- A Release is refused (18 R465). -/
def Device.releaseRefused (d : Device) (q path seq : Nat) : Bool :=
  match (d.lane q).claim with
  | some c => c.1.seq != seq || c.2 != path
  | none => true

/-- The claimed item's cells return to the free list (18 R465). -/
def Device.releaseNow (d : Device) (q : Nat) : Device :=
  match (d.lane q).claim with
  | some c => (d.modLane q fun l => { l with claim := none }).modFree c.1.pool fun n => n + c.1.cells
  | none => d

/-- LaneEnable 0: items flushed, the packet rewound, the claimed item stays (18 R470).
DESIGN CHOICE 128 (notes/assumptions). -/
def Device.laneFlush (d : Device) (q : Nat) : Device :=
  let is := (d.lane q).items
  let d := is.foldl (fun d i => d.modFree i.pool fun f => f + i.cells) (d.modLane q fun l => { l with items := [] })
  ((d.bumpBy (O.flushed q) is.length).bumpBy (O.lostItems q) is.length).rewind q

/-- A path closes: its packets are rewound, its claims undone (18 R463, R465).
DESIGN CHOICE 128 (notes/assumptions). -/
def Device.lanesClose (d : Device) (path : Nat) : Device :=
  d.forAll (List.range 128) fun q d =>
    let d := match (d.lane q).packet with
      | some p => if p.owner = path then d.rewind q else d
      | none => d
    match (d.lane q).claim with
    | some c => if c.2 = path then d.modLane q fun l => { l with claim := none, items := c.1 :: l.items } else d
    | none => d

/-- A class-A safe state rewinds every packet in progress (18 R463). -/
def Device.lanesClassA (d : Device) : Device := d.forAll (List.range 128) fun q d => d.rewind q

/-- The check of one pool at a lap boundary (18 R468, 01 R23).
DESIGN CHOICE 122 (notes/assumptions). -/
def Device.poolCheck (d : Device) (p : Nat) : Device :=
  let held := d.poolAllocated p + d.poolInFlight p
  let total := d.poolTotal p
  if d.poolFree p + held = total then d
  else
    let back := total - held - d.poolFree p
    let d := ((d.bump (O.mismatches p)).bumpBy (O.reclaimed p) back).modFree p fun _ => total - held
    d.raiseC 82 p 0x0B06 []

/-- The check of both pools (18 R468, R471).
DESIGN CHOICE 122; DEDUCED 125 (notes/assumptions). -/
def Device.laneCheck (d : Device) : Device :=
  d.when (d.sys.coreRunning && (d.runs engNE || d.runs engBE)) fun d => (d.poolCheck 0).poolCheck 1

/-- The photo-finish slot of a number. -/
def Device.pfSlot (d : Device) (i : Nat) : PfSlot := d.pf.getD i PfSlot.reset
/-- The block with one photo-finish slot changed. -/
def Device.modPf (d : Device) (i : Nat) (f : PfSlot → PfSlot) : Device := { d with pf := modAt d.pf i f }

/-- Every capture is lost: PfState 0 (19 R493). -/
def Device.pfLost (d : Device) : Device :=
  let n := (d.pf.filter fun x => x.state != 0).length
  let d := { d with pf := List.replicate 16 PfSlot.reset }
  ((d.bumpBy O.pfLost n).set O.pfState 0).set O.liveSlot 0xFF

/-- DDR4 leaves READY: everything of the bulk lanes is lost (18 R469, R471). -/
def Device.bulkLost (d : Device) : Device :=
  let d := d.forAll (List.range 128) fun q d =>
    let l := d.lane q
    let bulk := fun (c : Item) => c.pool == 1
    let claimed := l.claim.any fun c => bulk c.1
    let cut := d.poolOf q == 1 && l.packet.isSome
    let n : Int := (l.items.filter bulk).length + b2i claimed
    let d := d.modLane q fun l =>
      { items := l.items.filter fun i => !(bulk i), claim := if claimed then none else l.claim,
        packet := if cut then none else l.packet }
    (d.bumpBy (O.damaged q) n).bumpBy (O.lostItems q) (n + b2i cut)
  (d.modFree 1 fun _ => 0).modMem fun m => { m with history := [], patrolDdr := 0 }

/-- DdrState changes (18 R448).
DESIGN CHOICE 124, 154 (notes/assumptions). -/
def Device.setDdr (d : Device) (st : Int) : Device :=
  let d := d.when (d.get O.ddrState == 2 && st != 2) fun d => d.bulkLost.pfLost
  let d := d.set O.ddrState st
  let d := (d.set O.sizeInUse (if st = 2 then 512 * 2 ^ d.getN O.memDensity else 0)).modFree 1 fun _ => d.poolTotal 1
  d.when (st == 3 || st == 4) fun d => d.raiseC 82 1 0x0B03 (leBytes 1 st)

/-- DdrEnable has been written (18 R448). -/
def Device.ddrEnabled (d : Device) : Device :=
  if d.flag O.ddrEnable = false ∨ d.get O.memDensity = 0 then d.setDdr 0
  else if d.get O.ddrState = 0 then d.setDdr 1 else d

/-- A split enters the history ring (18 R457).
DESIGN CHOICE 31, 123 (notes/assumptions). -/
def Device.historyPush (d : Device) (lap : Nat) (split : List Byte) : Device :=
  let n := d.getN O.historyLaps
  d.when (d.get O.ddrState == 2 && n != 0) fun d =>
    d.modMem fun m => { m with history := ((lap, split) :: m.history).take n }

/-- Interval and offsets of a band (18 R454, R455). -/
def Device.phyOffsets (d : Device) : Int × Int :=
  let b := d.getN O.band
  let t := d.getN O.trainedBand
  if t ≤ 3 then (d.get (O.readOffset b) - d.get (O.readOffset t), d.get (O.writeOffset b) - d.get (O.writeOffset t)) else (0, 0)

/-- Data capacity of DDR4 in bytes (18 R447).
DESIGN CHOICE 154 (notes/assumptions). -/
def ddrBytes (density : Int) : Int := if density = 0 then 0 else 2 ^ (29 + density.toNat)

/-- Next burst of a patrol of `n` bursts: the pass ends after the last.
DEDUCED 126 (notes/assumptions). -/
def patrolNext (i n : Nat) : Nat × Bool := if i + 1 < n then (i + 1, false) else (0, true)

end Sys2Proof.Machine
end

