-- ==== Sys2Proof/Machine/Raise.lean ====
section
/-! DEFINITION. Class B and class A: escalation, the class-A state of each block, and the class-A safe state of
the controller (14 R356–R369). -/

namespace Sys2Proof.Machine

/-- The class-A state of a block (14 R358). -/
def Device.blockClassA (d : Device) (b : Nat) : Device :=
  if b < 16 then (d.latchFeed b 10).tgFeedFaulted b
  else if b < 32 then d.tgOpen (b - 16) 7
  else if b < 38 then (d.gateForce (b - 32) 1).setBitOf (O.gateFault (b - 32)) 3
  else if b < 42 then d.stringFault (b - 38) 4
  else if b < 74 then (d.setRect (b - 42) 9).pbOrder (b - 42) 0x01 [0x00]
  else if b = 78 then d.when (d.get O.seqState != 8) Device.seqLatchDown
  else if b = 79 then { d with ledger := { d.ledger with frozen := true } }
  else d

/-- The A entry of a block (14 R358, R359). -/
def Device.holdA (d : Device) (b source code : Nat) : Device :=
  d.modFault b fun f => { f with aHeld := true, aStamp := d.now, aSource := source, aCode := code }

/-- Every pin that the class-A safe state moves (14 R366).
DEDUCED 88 (notes/assumptions). -/
def Pins.classA (p : Pins) : Pins :=
  { p with
    pwm := p.pwm.map fun _ => .mid
    chPwm := p.chPwm.map fun _ => .mid
    drven := p.drven.map fun _ => false
    chDrven := p.chDrven.map fun _ => false
    tgg := p.tgg.map fun _ => false
    gate := p.gate.map fun x => if x = .preBias then .off else x
    seqEn := p.seqEn.map fun _ => false
    rstOut := p.rstOut.map fun _ => true
    zclkRun := p.zclkRun.map fun _ => false }

/-- Engines other than GD, NE and BE stop (14 R366); with GE no state of charge is valid (09 R250). -/
def Device.stopEngines (d : Device) : Device :=
  let d := { d with eng := { d.eng with swap := none, failedLap := none, due := [] } }
  let d := (d.forAll (List.range 13) fun e d =>
    let st := d.get (O.engineState e)
    d.when (st != 4 && st != 5) fun d => d.set (O.engineState e) 0).set O.activeShelfCore 0xFF
  d.forAll (List.range 4) fun n d => d.setFlag (O.socValid n) false

/-- Entry to the controller's class-A safe state (14 R366, R367, R369); a later cause is only counted.
DEDUCED 88, 90 (notes/assumptions). -/
def Device.enterClassA (d : Device) (block source code : Nat) : Device :=
  if d.flag O.controllerClassA then
    { d with sys := { d.sys with laterCauses := d.sys.laterCauses + 1 } }
  else
    let d := (d.autostartFail 4).holdLost
    let d := d.forAll (List.range 16) fun k d =>
      let d := ((d.feedSafe k).endHiccup k).linkDown k
      let d := d.when (d.feedSt k != 8) fun d => d.set (O.feedState k) 7
      d.tgDriveOff k
    let d := d.modPins Pins.classA
    let d := d.forAll (List.range 8) fun i d => d.setFlag (O.rstAsserted i) true
    let d := { d.dropPending.lanesClassA.stopEngines with recorder := { d.recorder with challenge := none } }
    let d := d.setFlag O.controllerClassA true
    let cause : ClassACause := ⟨block, source, code, d.now⟩
    let d := { d with aon := { d.aon with classA := some cause } }
    let d := (((d.set O.classABlock block).set O.classASource source).set O.classACode code).stampAt
      O.classAStamp
    let d := d.when (code != 0x0902) fun d => d.offer ⟨0x0902, source, block, 3, d.now, leBytes 2 code, false⟩
    let d := ((d.alert 8).notify 4 (notifyBody 4 block code 0 d.now 0 [])).waitsFail 0x0814
    d.updateFaultN.updateSeqFlt.updateAlert

/-- An event escalates: the block enters its class-A state, its A entry is set, one record carries the first
listing and the escalating event, and the interrupt is raised, with AlertCause b2 and b3 (14 R358, R359, R363, 17 R441).
DEDUCED 87 (notes/assumptions). -/
def Device.escalate (d : Device) (b source code firstStamp firstCode : Nat) : Device :=
  let d := (d.blockClassA b).holdA b source code
  let params := leBytes 8 firstStamp ++ leBytes 2 firstCode ++ leBytes 8 d.now ++ leBytes 2 code
  let d := d.offer ⟨0x0901, source, b, 3, d.now, params, false⟩
  let d := ((d.interrupt b 11 3 0x0901 d.now params).alert 2).pulseFaultN
  (d.when (decide (84 ≤ b)) fun d => d.enterClassA b source code).updateFaultN

/-- A class-B event after its own action has been carried out (14 R356, R359).
DEDUCED 87 (notes/assumptions). -/
def Device.raiseB (d : Device) (b source code : Nat) (params : List Byte) : Device :=
  let first := ((d.fault b).bSources.find? (·.1 == source)).getD (source, 0, 0)
  let r := d.takeEvent b source code 2 params false
  if r.2 then r.1.escalate b source code first.2.1 first.2.2 else r.1

/-- A class-A event: of controller scope in blocks 84–87, else of its block (14 R358); one of a block that holds class A
is recorded and counted, with no new entry (14 R356). -/
def Device.raiseA (d : Device) (b source code : Nat) (params : List Byte) : Device :=
  let held := (d.fault b).aHeld
  let d := (d.takeEvent b source code 3 params false).1
  let d := d.when (!held) fun d => d.holdA b source code
  if 84 ≤ b then d.enterClassA b source code
  else d.when (!held) fun d => (d.blockClassA b).updateFaultN

end Sys2Proof.Machine
end

