-- ==== Sys2Proof/Machine/TripOps.lean ====
section
/-! DEFINITION. Trips of a tray gate, faults of an ideal-diode gate, failures of a rail, and the rails that
follow their feeds (06 R161, R171, 12 R323–R327). -/

namespace Sys2Proof.Machine

/-- A tray gate trips with a bit of TgTripCause (06 R161): COOLDOWN while retries are left, else LATCHED as a
class-B fault. -/
def Device.tgTrip (d : Device) (k bit : Nat) : Device :=
  let d := ((d.set (O.tgTripCause k) (2 ^ bit)).bump (O.tgTrips k)).raiseD (16 + k) 0 0x0301 [BitVec.ofNat 8 (2 ^ bit)]
  let d := d.edge (96 + k)
  if d.get (O.tgRetryCount k) < d.get (O.tgRetries k) then
    ((d.tgOpen k 6).set (O.tgRetryCount k) (d.get (O.tgRetryCount k) + 1)).setFlag (O.tgRetrying k) true
  else ((d.tgOpen k 7).setFlag (O.tgRetrying k) false).raiseB (16 + k) 0 0x0302 []

/-- A class-B fault of an ideal-diode gate: its bit, OFF, and the event (06 R171). -/
def Device.gateFaultB (d : Device) (g bit : Nat) : Device :=
  ((d.setBitOf (O.gateFault g) bit).gateForce g 1).raiseB (32 + g) 0 0x0304 [BitVec.ofNat 8 (2 ^ bit)]

/-- A feed latches off as a class-B fault of the feed (04 R114). -/
def Device.latchB (d : Device) (k bit code : Nat) : Device := (d.latchFeed k bit).raiseB k 0 code []

/-- A rail is OFF; what waited for that follows. -/
def Device.railOff (d : Device) (r : Nat) : Device := (d.setRail r 0).settleFailed.seqDownDone

/-- A subtree retry is over when its subtree is UP; SeqState is UP when every rail in use is, outside a power-down
(12 R322, R325). -/
def Device.seqProgress (d : Device) : Device :=
  let d := d.modSeq fun s =>
    { s with retries := s.retries.filter fun q => !((d.subtree q).all fun r => d.railSt r == 4) }
  if (d.get O.seqState = 1 ∨ d.get O.seqState = 3) ∧ (d.railsInUse.all fun r => d.railSt r == 4) = true then
    (d.modSeq fun s => { s with retries := [] }).setSeqState 2
  else d

/-- A failure during a power-down: a notice and a count, no retry (12 R323). -/
def Device.downFailure (d : Device) (r : Nat) : Device :=
  ((d.setBitOf (O.railFailCause r) 5).bump O.downFailures).seqEvent (0x0400 + r)

/-- The rail's own part of a failure: counted, its enable off, FAILED (12 R324, R325). -/
def Device.railFailed (d : Device) (r cause : Nat) : Device :=
  let d := ((d.setBitOf (O.railFailCause r) cause).bump (O.railFailures r)).set O.lastFailRail r
  (d.railEnable r false).setRail r 7

/-- Every rail is in a power-down of the whole sequence (12 R323, R325, R332). -/
def Device.inPowerDown (d : Device) : Bool :=
  let s := d.getN O.seqState
  s == 4 || s == 5 || s == 6 || s == 7 || s == 8 || s == 0

/-- A rail fails (12 R324, R325, R327): a subtree retry, a sequence retry or the latch; in a power-down only
a notice.
DEDUCED 83 (notes/assumptions). -/
def Device.railFail (d : Device) (r cause : Nat) : Device :=
  if d.inPowerDown then d.downFailure r
  else
    let rs := d.seq.retries
    let root := (rs.find? fun q => q != r && (d.subtree q).contains r).getD r
    if d.get (O.subtreeRetryCount root) < d.get O.subtreeRetries then
      let inner := rs.filter fun q => q != root && (d.subtree root).contains q
      let d := d.forAll inner fun q d => d.set (O.subtreeRetryCount q) (d.get (O.subtreeRetryCount q) - 1)
      let d := d.modSeq fun s =>
        { s with retries := (s.retries.filter fun q => !inner.contains q && q != root) ++ [root] }
      let d := d.set (O.subtreeRetryCount root) (d.get (O.subtreeRetryCount root) + 1)
      let d := (d.railFailed r cause).railsDown ((d.subtree root).filter fun q => q != r)
      (d.setSeqState 3).settleFailed
    else if d.get O.sequenceRetryCount < d.get O.sequenceRetries then
      let d := d.set O.sequenceRetryCount (d.get O.sequenceRetryCount + 1)
      let d := d.forAll (List.range 24) fun q d => d.set (O.subtreeRetryCount q) 0
      let d := d.modSeq fun s => { s with retries := [], delayDone := false, releaseDone := false }
      let d := (d.railFailed r cause).setSeqState 4
      let d := d.when (bit (d.get O.seqFltMode) 0 && d.flag O.seqFltEnable) fun d => d.driveFlt true
      ((d.railsDown d.railsInUse).settleFailed).seqDownDone
    else
      ((d.railFailed r cause).seqLatchDown).raiseB 78 0 0x0803 []

/-- One rail follows its feed: a latched source fails it, in a power-down with a notice once, and a disabled feed is
its discharge (12 R316, R323, R324).
DEDUCED 85 (notes/assumptions). -/
def Device.railFollow (d : Device) (r : Nat) : Device :=
  match d.railFeed r with
  | none => d
  | some k =>
    let st := d.railSt r
    let on := st == 2 || st == 3 || st == 4 || st == 5
    if on && d.srcLatched r && !((d.rail r).down || d.inPowerDown) then d.railFail r 3
    else if (on || st == 6) && d.srcLatched r && !(d.rail r).latched then
      (d.modRail r fun x => { x with latched := true }).downFailure r
    else if st = 6 ∧ d.feedSt k = 0 then d.railOff r
    else d

/-- Every feed rail follows its feed, while a shelf core is active (12 R329, R338).
DEDUCED 21, 85 (notes/assumptions). -/
def Device.railsFollow (d : Device) : Device :=
  if d.scActive then d.forAll (List.range 24) fun r d => d.railFollow r else d

end Sys2Proof.Machine
end

