-- ==== Sys2Proof/Machine/PfOps.lean ====
section
/-! DEFINITION. Photo-finish slots and triggers (19 R489–R493). -/

namespace Sys2Proof.Machine

/-- Channels in use, from PfChannels (19 R488). -/
def Device.pfChannels (d : Device) : List Byte :=
  (leBytes 64 (d.get O.pfChannels)).takeWhile fun b => b != 0xFF#8

/-- The free slot with the lowest number becomes live; with none, PfState is 3 (19 R490). -/
def Device.pfArm (d : Device) : Device :=
  match (List.range (d.getN O.pfSlots)).find? fun i => (d.pfSlot i).state == 0 with
  | some i =>
    let ch := d.pfChannels
    let rate := d.getN O.pfRate
    ((d.modPf i fun _ => { PfSlot.reset with state := 1, channels := ch, rate := rate }).set O.pfState 1).set
      O.liveSlot i
  | none => (d.set O.pfState 3).set O.liveSlot 0xFF

/-- A trigger (19 R490, R491): it starts the post-trigger recording of the live slot, is counted as an extra
one in it, or is refused with no free slot.
DEDUCED 134 (notes/assumptions). -/
def Device.pfTriggered (d : Device) (sources : List Byte) : Device :=
  let i := d.getN O.liveSlot
  match (if d.runs engBE then d.getN O.pfState else 0) with
  | 1 =>
    let n := d.getN O.captures + 1
    let short := decide ((d.pfSlot i).pre.length < d.getN O.pfPreFrames)
    let now := d.now
    let cl := d.mram.clears
    let d := d.modPf i fun x =>
      { x with state := 2, number := n, trigger := now, sources := sources, clears := cl, short := short }
    (d.set O.pfState 2).raiseD 83 0 0x000A
      (leBytes 1 i ++ [0, 0, 0] ++ leBytes 4 n ++ leBytes 8 now ++ sources)
  | 2 => d.modPf i fun x => { x with extra := x.extra + 1 }
  | 3 => d.bump O.pfRefused
  | _ => d

end Sys2Proof.Machine
end

