-- ==== Sys2Proof/Machine/Router.lean ====
section
/-! DEFINITION. The event router's targets, and what follows a command at once: routed edges and the rails that
follow their feeds (13 R348–R353). -/

namespace Sys2Proof.Machine

/-- The action of a target on a routed edge (13 R349); `srcs` are the 16 bytes of LastSources.
DESIGN CHOICE 80, 82 (notes/assumptions). -/
def Device.routeAct (d : Device) (t : Nat) (srcs : List Byte) : Device :=
  if t < 16 then d.latchB t 9 0x0110
  else if t < 32 then d.when (d.tgSt (t - 16) == 4 || d.tgSt (t - 16) == 5) fun d => d.tgTrip (t - 16) 3
  else if t < 38 then (d.gateForce (t - 32) 0).raiseB t 0 0x0304 [0]
  else if t < 42 then (d.stringFault (t - 38) 3).raiseB t 1 0x0502 [8]
  else if t = 42 then
    let m := ofLe srcs
    let u := ((List.range 8).find? fun i => bits m i 1 == 1).getD 0
    d.raiseA 87 (0x0100 + u) 0x0902 srcs
  else if t = 43 then d.pulseFaultN
  else if t = 44 then (d.modSeq fun s => { s with routePulse := true }).updateSeqFlt
  else if t = 45 then d.when (d.runs engNE && bits d.mgmt.alertMask 5 1 == 1) fun d => d.alert 5
  else if t = 46 then d.notify 3 (notifyBody 3 0xFF 0 0 d.now 0 srcs)
  else if t = 48 then d.raiseD 87 0 0x0005 (leBytes 1 t ++ srcs)
  else if t = 49 then d.pfTriggered srcs
  else if t < 54 then d.modPins fun p => { p with evo := modAt p.evo (t - 50) fun _ => true }
  else if t < 58 then
    if d.flag (O.timerRunning (t - 54)) then d.bump (O.ignoredStarts (t - 54))
    else d.setFlag (O.timerRunning (t - 54)) true
  else if t = 58 then (d.raiseD 87 0 0x0006 (d.sv11 ++ List.replicate 12 0)).used
  else d

/-- One target sees the sources whose edges have arrived: one action, counted once (13 R350). -/
def Device.routeOne (d : Device) (srcs : List Nat) (t : Nat) : Device :=
  let m := d.get (O.sourceMask t)
  let hit := srcs.filter fun s => bit m s
  if hit.isEmpty then d
  else
    let w : Int := hit.foldl (fun w s => setBit w s) 0
    (((d.bump (O.hits t)).stampAt (O.lastHitStamp t)).set (O.lastSources t) w).routeAct t (leBytes 16 w)

/-- The edges that have arrived reach their targets.
DEDUCED 21 (notes/assumptions). -/
def Device.routeAll (d : Device) : Device :=
  match d.router.edges with
  | [] => d
  | srcs =>
    let d := { d with router := { d.router with edges := [] } }
    d.forAll (List.range 64) fun t d => d.routeOne srcs t

/-- A rail has something to follow: its feed has latched under it, which in a power-down is said once, or has become
DISABLED in its step. -/
def Device.railDue (d : Device) (r : Nat) : Bool :=
  match d.railFeed r with
  | none => false
  | some k =>
    let st := d.railSt r
    let on := st == 2 || st == 3 || st == 4 || st == 5
    (on && d.srcLatched r && !((d.rail r).down || d.inPowerDown)) ||
      ((on || st == 6) && d.srcLatched r && !(d.rail r).latched) || (st == 6 && d.feedSt k == 0)

/-- Nothing follows: no edge waits and no rail has to follow its feed. -/
def Device.quiet (d : Device) : Bool :=
  d.router.edges.isEmpty && !(d.scActive && (List.range 24).any d.railDue)

/-- What follows a command at once, in at most `n` rounds. -/
def Device.settleN : Nat → Device → Device
  | 0, d => d
  | n + 1, d => if d.quiet then d else Device.settleN n (d.routeAll.railsFollow)

/-- What follows a command at once. Each round empties the edges of the round before; 32 rounds are more than
the sources and targets can chain.
DEDUCED 21 (notes/assumptions). -/
def Device.settle (d : Device) : Device := Device.settleN 32 d

/-- Nothing follows where nothing is due. -/
theorem Device.settle_of_quiet (d : Device) (h : d.quiet = true) : d.settle = d := by
  simp [Device.settle, Device.settleN, h]

end Sys2Proof.Machine
end

