-- ==== Sys2Proof/Machine/State.lean ====
section
/-! DEFINITION. The state of the machine: the block and the queue of the commands that wait. -/

namespace Sys2Proof.Machine

/-- The stops of the model. No command ends in one: every row of the table has an effect in the spec. -/
inductive Fault where
  /-- Raised by nothing: kept so that the type has a name to give (safe). -/
  | none
  deriving DecidableEq, Repr

/-- The refusals of the model. -/
inductive Refusal where
  /-- Raised by an arm of the dispatch whose command has no meaning yet (safe). -/
  | notModelled (mnemonic : String)
  deriving DecidableEq, Repr

/-- The state: the block, and the waiting commands, first in first out.
DESIGN CHOICE 1 (notes/assumptions). -/
structure State where
  dev : Device
  pending : List Instr
  deriving DecidableEq, Repr

/-- The machine right after reset: a unit as manufactured, before its supplies come up, and no command
waiting.
DESIGN CHOICE 1, 6, 161 (notes/assumptions). -/
def State.reset : State := ⟨Device.factory, []⟩

end Sys2Proof.Machine
end

