-- ==== Sys2Proof/Machine/Effect.lean ====
section
/-! DEFINITION. The effect of a command on the state: on the block only, followed by what follows it at once. -/

namespace Sys2Proof.Machine

/-- The open-drain lines that the controller drives as conditions of its state are where these put them: SEQ_FLT_N (12
R333, R334), FAULT_N (14 R368), ALERT_N (17 R441). -/
def Device.linesFollow (d : Device) : Device := d.updateSeqFlt.updateFaultN.updateAlert

/-- A command's effect on the block, and the lines that follow; the queue is untouched.
DESIGN CHOICE 2 (notes/assumptions). -/
def State.next (s : State) (f : Device → Device) : Host.Outcome State Fault Refusal :=
  .next { s with dev := (f s.dev).linesFollow }

/-- A command's effect, with the routed edges and the rails that follow it at once.
DESIGN CHOICE 2, 22, 158; DEDUCED 21 (notes/assumptions). -/
def State.run (s : State) (f : Device → Device) : Host.Outcome State Fault Refusal :=
  s.next fun d => (f d).settle

end Sys2Proof.Machine
end

