-- ==== Sys2Proof/Machine/Cells.lean ====
section
/-! DEFINITION. Commands of the phase cells: triggers, pulses, limits, diode emulation, pre-start test, retirement
and re-admission (03 R53–R86). -/

namespace Sys2Proof.Machine

/-- Mean feed current per ACTIVE cell at the latest SV7 sample, in A (03 R68).
DESIGN CHOICE 13 (notes/assumptions). -/
def Device.perActive (d : Device) (k : Nat) : Rat :=
  let n := ((d.feedCells k).filter fun n => d.cellSt n == 3).length
  (d.feed k).iHist.headD 0 / (n : Rat)

/-- Cells seen below their re-arm level by the comparators (03 R72). -/
def Device.rearm (d : Device) (l : List Nat) : Device :=
  d.forAll l fun n d => d.modCell n fun c => { c with rearmed := true }

/-- The trigger fires: on the first free cell, or pending until one is free (03 R63, R64). -/
def Device.triggerFire (d : Device) (k dt : Nat) (rearmed : List Nat) : Device :=
  let d := (d.ripple k dt).rearm rearmed
  let f := d.feed k
  if (f.pendingFire || decide (d.rippleY k ≤ f.u)) && decide (nsToEu (d.get (O.trigMinInterval k)) ≤ f.sinceFire) then
    match d.freeCell k with
    | some n => d.startPulse k n (d.onTime k n)
    | none => d.modFeed k fun f => { f with pendingFire := true }
  else d

/-- TRIGGER_FIRE: `dt` eu after the feed's previous event; `rearmed` lists cells whose IMON has fallen below
the re-arm level since their limited pulse. -/
def execTriggerFire (k : Fin 16) (dt : Nat) (rearmed : List Nat) (s : State) :
    Host.Outcome State Fault Refusal :=
  s.next fun d => d.when (d.switches k) fun d => d.triggerFire k dt rearmed

/-- The open-phase count of a cell after a pulse that its on-time, in eu, ended; currents in mA (03 R78). -/
def Device.countRise (d : Device) (k n eu : Nat) (iStart iEnd : Int) : Device :=
  let f := d.feed k
  if 384 ≤ eu ∧ (d.cellSt n = 3 ∨ d.cellSt n = 4) then
    let l : Rat := (d.get (O.phaseInductance k) : Rat) / 1000000000
    let need := q15 (d.get (O.openRiseFrac k)) * (f.vbus - f.vset) * ((eu : Rat) / 9600000000) / l
    d.modCell n fun c =>
      { c with noRise := if ((iEnd - iStart : Int) : Rat) / 1000 < need then c.noRise + 1 else 0 }
  else d

/-- The comparison of a pulse that its on-time has ended, once (03 R78). -/
def Device.measurePulse (d : Device) (k n : Nat) (iStart iEnd : Int) : Device :=
  match (d.cell n).pulse with
  | some p =>
    d.when (p.cut.isNone && !p.measured && decide (p.fall ≤ p.age)) fun d =>
      (d.modCell n fun c => { c with pulse := some { p with measured := true } }).countRise k n p.on iStart iEnd
  | none => d

/-- PULSE_END (03 R64, R78): the on-time of a pulse has expired after `dt` eu, by which the cell's output has gone through
its edges; IMON 10 ns after the high edge and at the high-to-mid edge. -/
def execPulseEnd (n : Fin 96) (dt : Nat) (iStart iEnd : Int) (s : State) : Host.Outcome State Fault Refusal :=
  s.next fun d =>
    match d.feedOf n with
    | some k => (d.ripple k dt).measurePulse k n iStart iEnd
    | none => d

/-- An over-current pulse latches the feed off during a start and in recovery (03 R72–R75). -/
def Device.overCurrent (d : Device) (k : Nat) : Device :=
  if d.get (O.ocState k) = 2 ∨ d.feedSt k = 3 then (d.latchOverCurrent k).raiseB k 0 0x0105 [] else d

/-- The comparator of a cell ends its pulse, once LeadingBlank has passed from the high edge: mid at once and low after
DT_HL; the pulse is counted as limited and marks its round as capped or over-current (03 R72, R73). -/
def Device.limitPulse (d : Device) (k n : Nat) : Device :=
  match (d.cell n).pulse with
  | some p =>
    d.when (p.cut.isNone && decide (p.rise + nsToEu (d.get (O.leadingBlank k)) ≤ p.age) && decide (p.age < p.fall)) fun d =>
      let capped := (d.cell n).capped
      let d := (d.modCell n fun c => { c with pulse := some { p with cut := some p.age }, rearmed := false }).bump (O.limitedPulses n)
      let d := d.markRound k p.round fun r => { r with capped := r.capped || capped, limited := r.limited || !capped }
      let d := (d.setPwm n (if p.hl = 0 then .low else .mid)).pulseOver k p.round
      d.when (!capped) fun d => d.overCurrent k
  | none => d

/-- CURRENT_LIMIT_TRIP (03 R72): IMON exceeds the threshold of the pulse after `dt` eu. -/
def execCurrentLimitTrip (n : Fin 96) (dt : Nat) (s : State) : Host.Outcome State Fault Refusal :=
  s.run fun d =>
    match d.feedOf n with
    | some k => (d.ripple k dt).limitPulse k n
    | none => d

/-- HICCUP_ENTRY (03 R74, R75): the limited rounds in a row have reached HiccupRounds.
DESIGN CHOICE 36 (notes/assumptions). -/
def execHiccupEntry (k : Fin 16) (s : State) : Host.Outcome State Fault Refusal :=
  s.run fun d => d.when (d.leRuns k) fun d =>
    if d.feedSt k = 4 ∧ d.get (O.ocState k) = 0 ∧ d.get (O.hiccupRounds k) ≤ (d.feed k).limitedRun then
      let d := (d.feedSafe k).modFeed k fun f => { f with limitedRun := 0 }
      let d := ((d.set (O.ocState k) 1).set (O.feedState k) 6).bump (O.hiccups k)
      ((d.setFlag (O.reached k) false).edge (80 + k)).raiseD k 0 0x0104 []
    else d

/-- HICCUP_RESTART (03 R74): HiccupTime has passed.
DEDUCED 37 (notes/assumptions). -/
def execHiccupRestart (k : Fin 16) (s : State) : Host.Outcome State Fault Refusal :=
  s.next fun d => d.when (d.leRuns k && d.feedSt k == 6 && d.get (O.ocState k) == 1) fun d =>
    (d.set (O.ocState k) 2).enterPretest k false

/-- RECOVERY_COMPLETE (03 R74): RecoveryQual has passed from the first Reached of the restart.
DEDUCED 37 (notes/assumptions). -/
def execRecoveryComplete (k : Fin 16) (s : State) : Host.Outcome State Fault Refusal :=
  s.next fun d => d.when (d.leRuns k && d.feedSt k == 4 && d.get (O.ocState k) == 2) fun d =>
    d.set (O.ocState k) 0

/-- DE_ENTRY (03 R68): the mean current per ACTIVE cell has stayed below DeEntry for DeDwell. While a step early start is
unruled, which has ended diode emulation speculatively, the feed does not enter it.
DESIGN CHOICE 175 (notes/assumptions). -/
def execDeEntry (k : Fin 16) (s : State) : Host.Outcome State Fault Refusal :=
  s.next fun d =>
    d.when (d.switches k && d.flag (O.deEnable k) && (d.feed k).es.isNone &&
        decide (d.perActive k * 10 < (d.get (O.deEntry k) : Rat))) fun d =>
      d.setFlag (O.deActive k) true

/-- DE_EXIT (03 R68): an SV7 sample shows a mean above DeExit. -/
def execDeExit (k : Fin 16) (s : State) : Host.Outcome State Fault Refusal :=
  s.next fun d =>
    d.when (d.switches k && !(d.feed k).forcedDe && decide ((d.get (O.deExit k) : Rat) < d.perActive k * 10)) fun d =>
      (d.setFlag (O.deActive k) false).modFeed k fun f =>
        { f with resumeDe := false, es := f.es.map fun e => { e with wasDe := false } }

/-- The zero-current comparator of a cell trips (03 R69): within DT_HL the low side will not be turned on at all; after
the blank of 10 ns it turns off until the next pulse. -/
def Device.zeroCurrent (d : Device) (n : Nat) : Device :=
  match (d.cell n).pulse with
  | some p =>
    if p.age < p.fall ∨ (d.cell n).lowOff then d
    else if p.age < p.low then d.modCell n fun c => { c with pulse := some { p with zero := true } }
    else d.when (p.age == p.low || decide (p.low + 96 ≤ p.age)) fun d =>
      (d.setPwm n .mid).modCell n fun c => { c with lowOff := true }
  | none => d

/-- ZERO_CURRENT_DETECT (03 R69): IMON falls below ZcdThreshold after `dt` eu. -/
def execZeroCurrentDetect (n : Fin 96) (dt : Nat) (s : State) : Host.Outcome State Fault Refusal :=
  s.next fun d =>
    match d.feedOf n with
    | some k =>
      let d := d.ripple k dt
      d.when (d.switches k && d.deActs k && (d.pulsing k).contains n) fun d => d.zeroCurrent n
    | none => d

/-- FLOOR_PULSE (03 R70): no firing for 1 ÷ FloorFreq in diode emulation. -/
def execFloorPulse (k : Fin 16) (dt : Nat) (rearmed : List Nat) (s : State) : Host.Outcome State Fault Refusal :=
  s.next fun d => d.when (d.switches k && d.deActs k && d.get (O.floorFreq k) != 0) fun d =>
    let d := (d.ripple k dt).rearm rearmed
    if roundQ (9600000000 / (d.get (O.floorFreq k) : Rat)) ≤ ((d.feed k).sinceFire : Int) then
      match d.freeCell k with
      | some n => d.startPulse k n (nsToEu (d.get (O.onTimeMin k)))
      | none => d
    else d

/-- No phase is left: the feed latches (03 R81). -/
def Device.noPhases (d : Device) (k : Nat) : Device :=
  if (d.feedSt k = 3 ∨ d.feedSt k = 4 ∨ d.feedSt k = 5) ∧ d.get (O.activePhases k) = 0 then d.latchB k 11 0x0112 else d

/-- The cells of a start that have passed their test switch; the reserve waits in RESERVE unless it has been
brought in (03 R60).
DESIGN CHOICE 42 (notes/assumptions). -/
def Device.cellsReturn (d : Device) (k : Nat) (in4 : Bool) : Device :=
  (d.forAll (d.feedCells k) fun n d =>
    if d.cellSt n = 2 then
      if n = d.mapReserve k ∧ (d.feed k).reserveIn = false then (d.set (O.cellState n) 6) else d.cellActive n
    else if !in4 && d.cellSt n == 5 then d.cellActive n else d).recount k

/-- A passed pre-start test of a whole start: the law is cleared, the pacer stands at V_fb, the target is
TargetVoltage with PACE0, diode emulation is forced (04 R112).
DEDUCED 93 (notes/assumptions). -/
def Device.softStart (d : Device) (k : Nat) : Device :=
  let d := (d.set (O.hsTestFail k) 0).cellsReturn k false
  let d := d.modFeed k fun f =>
    { f with integ := 0, err := 0, q1 := 0, q2 := 0, n1w1 := 0, n1w2 := 0, n2w1 := 0, n2w2 := 0, pre := 0
             preLeft := 0, vlp := f.vbus, vset := f.vfb, forcedDe := true, clamped := 0
             order := none, limitedRun := 0, rounds := [] }
  let d := d.setTarget k (d.get (O.targetVoltage k)) 0 none
  let d := (d.set (O.pacerPosition k) (quant ((d.feed k).vset * 1000000))).setFlag (O.deActive k) true
  ((d.set (O.feedState k) 3).updateCapacity k).noPhases k

/-- PRESTART_TEST_PASS (03 R76, R82): the test of a start, or of a re-admitted cell of a running feed. -/
def execPrestartTestPass (k : Fin 16) (s : State) : Host.Outcome State Fault Refusal :=
  s.run fun d => d.when (d.leRuns k) fun d =>
    if d.feedSt k = 2 then d.softStart k
    else if d.feedSt k = 4 then (d.cellsReturn k true).updateCapacity k
    else d

/-- Positions in TEST of a feed. -/
def Device.inTest (d : Device) (k : Nat) : List Nat :=
  (List.range (d.feedCells k).length).filter fun j => d.cellSt ((d.feedCells k).getD j 0) == 2

/-- PRESTART_TEST_FAIL (03 R77): SWS of cells in TEST above the threshold; class A of the feed. -/
def execPrestartTestFail (k : Fin 16) (positions : BitVec 12) (s : State) : Host.Outcome State Fault Refusal :=
  s.run fun d => d.when (d.live && (d.feedSt k == 2 || d.feedSt k == 4)) fun d =>
    let bad := (d.inTest k).filter fun j => positions.getLsbD j
    if bad.isEmpty then d
    else
      let m : Int := bad.foldl (fun m j => setBit m j) 0
      let d := ((d.set (O.hsTestFail k) m).latchFeed k 4).set (O.feedState k) 8
      let d := (d.tgFeedFaulted k).holdA k 0 0x0106
      ((d.takeEvent k 0 0x0106 3 (leBytes 2 m) false).1).updateFaultN

/-- A cell is retired with its causes: mid level, RETIRED, stamped; the reserve is brought in, the capacity
follows, and the event is class B with the cell as its source (03 R80, R81). -/
def Device.retire (d : Device) (k n : Nat) (sum : Bool) : Device :=
  let c := d.cell n
  let cause : Int := b2i (decide (8 ≤ c.noRise)) + 2 * b2i (decide (3 ≤ c.rangeRun)) + 4 * b2i sum
  let d := ((d.cutPulse k n).set (O.cellState n) 7).set (O.retireCause n) cause
  let d := (d.stampAt (O.retireStamp n)).modCell n fun c => { c with noRise := 0, drained := 0 }
  let d := d.modFeed k fun f =>
    { f with draining := if f.draining = some n then none else f.draining
             drainBack := f.drainBack.filter fun b => b != n
             es := f.es.map fun e => { e with parked := e.parked.filter fun b => b != n
                                              draining := if e.draining = some n then none else e.draining } }
  let d := ((d.bringReserve k).recount k).updateCapacity k
  ((d.edge (80 + k)).raiseB k (0x0100 + n) 0x0107 (leBytes 1 cause)).noPhases k

/-- OPEN_PHASE (03 R78): eight measured pulses in a row without a rise. A retirement that coincides with an entry to SAFE
still completes (03 R82). -/
def execOpenPhase (n : Fin 96) (s : State) : Host.Outcome State Fault Refusal :=
  s.run fun d =>
    match d.feedOf n with
    | some k => d.when (d.leRuns k && d.cellSt n != 0 && d.cellSt n != 7 && decide (8 ≤ (d.cell n).noRise))
        fun d => d.retire k n false
    | none => d

/-- IMON_RANGE_FAULT (03 R79): three samples in a row outside 24–1176 mV.
DEDUCED 34 (notes/assumptions). -/
def execImonRangeFault (n : Fin 96) (s : State) : Host.Outcome State Fault Refusal :=
  s.run fun d =>
    match d.feedOf n with
    | some k => d.when (d.leRuns k && d.cellSt n != 0 && d.cellSt n != 7 && decide (3 ≤ (d.cell n).rangeRun))
        fun d => d.retire k n false
    | none => d

/-- Mean deviation of a cell from the others over the samples of a judgement (03 R79). -/
def sumDeviation (l : List (Rat × List (Nat × Rat))) (n : Nat) : Rat :=
  mean (l.map fun s =>
    ((s.2.find? fun p => p.1 == n).getD (n, 0)).2 - mean ((s.2.filter fun p => p.1 != n).map fun p => p.2))

/-- The cell of largest deviation, the first one in map order of several.
DESIGN CHOICE 35 (notes/assumptions). -/
def largestDev (l : List (Nat × Rat)) : Option (Nat × Rat) :=
  l.foldl (fun b p => match b with
    | none => some p
    | some q => if |q.2| < |p.2| then some p else some q) none

/-- SUM_CHECK_JUDGEMENT (03 R79): after 16 samples in a row beyond SumTolerance.
DESIGN CHOICE 35 (notes/assumptions). -/
def execSumCheckJudgement (k : Fin 16) (s : State) : Host.Outcome State Fault Refusal :=
  s.run fun d =>
    let l := (d.feed k).sums
    d.when (d.leRuns k && decide (16 ≤ l.length) && !(d.feed k).sumSuspended) fun d =>
      let m := mean (l.map fun s => s.1)
      let devs := (d.switching k).map fun n => (n, sumDeviation l n)
      let d := d.modFeed k fun f => { f with sums := [] }
      match largestDev devs with
      | some (n, x) =>
        if 0 < x * m ∧ |m| / 2 ≤ |x| then d.retire k n true
        else ((d.setBitOf (O.faultCause k) 7).modFeed k fun f => { f with sumSuspended := true }).raiseB k 0 0x0108 []
      | none => d

/-- CAPACITY_LIMIT (03 R81): the mean current of the last 1 ms, in mA, exceeds C.
DESIGN CHOICE 38 (notes/assumptions). -/
def execCapacityLimit (k : Fin 16) (mean : Int) (s : State) : Host.Outcome State Fault Refusal :=
  s.next fun d =>
    d.when (d.leRuns k && d.get (O.retiredMask k) != 0 && !(d.feed k).capacityLimit &&
        decide (d.get (O.capacity k) * 100 < mean)) fun d =>
      let d := (d.modFeed k fun f => { f with capacityLimit := true }).raiseD k 0 0x010B []
      d.capNotice k

/-- Whether a write of Readmit 1 is refused (03 R82). -/
def Device.readmitRefused (d : Device) (n : Nat) : Bool :=
  match d.feedOf n with
  | none => true
  | some k => d.cellSt n != 7 || d.get (O.ocState k) != 0 || d.feedSt k == 8

/-- A re-admission (03 R82): the cell is tested on its own in a running feed, waits in a starting one, and
returns at the next start otherwise.
DESIGN CHOICE 42 (notes/assumptions). -/
def Device.readmitNow (d : Device) (n : Nat) : Device :=
  match d.feedOf n with
  | none => d
  | some k =>
    let d := (d.set (O.retireCause n) 0).modCell n fun c => { c with rangeRun := 0, noRise := 0 }
    let d :=
      if d.feedSt k = 4 then d.set (O.cellState n) 2
      else if d.feedSt k = 2 ∨ d.feedSt k = 3 then
        (d.set (O.cellState n) 1).modCell n fun c => { c with waiting := true }
      else d.set (O.cellState n) 1
    (d.recount k).updateCapacity k

/-- A phase map whose write the rules refuse (03 R57): the map's bytes, for feed `k`. A map is kept as it is written, with
whatever its entries from the count onward hold.
DESIGN CHOICE 176 (notes/assumptions). -/
def Device.mapBad (d : Device) (k : Nat) (v : Int) : Bool :=
  let cnt := field v 12 1
  let res := field v 13 1
  let es := (List.range 12).map fun j => field v j 1
  let ls := es.take cnt
  let cells := ls ++ (if res = 0xFF then [] else [res])
  let others := ((List.range 16).filter fun j => j != k).flatMap fun j =>
    let w := d.stored (O.phaseMap j)
    let c := field w 12 1
    let r := field w 13 1
    ((List.range c).map fun i => field w i 1) ++ (if r = 0xFF then [] else [r])
  cnt == 0 || decide (12 < cnt) || decide (12 < cells.length) || ls.any (fun e => decide (95 < e)) ||
    decide (¬ cells.Nodup) || (res != 0xFF && decide (95 < res)) || cells.any others.contains ||
    field v 14 2 != 0

/-- The cells of a map after it has been applied (03 R57, R59): new ones SAFE, those that left UNASSIGNED, a RETIRED one
too.
DESIGN CHOICE 177 (notes/assumptions). -/
def Device.mapApplied (d : Device) (k : Nat) (before : List Nat) : Device :=
  let now := d.feedCells k
  let d := d.forAll (before.filter fun n => !now.contains n) fun n d =>
    (d.set (O.cellState n) 0).modCell n fun _ => Cell.reset
  let d := d.forAll (now.filter fun n => !before.contains n) fun n d =>
    (d.set (O.cellState n) 1).modCell n fun _ => Cell.reset
  ((d.modFeed k fun f => { f with reserveIn := false, rot := 0 }).recount k).updateCapacity k

end Sys2Proof.Machine
end

