-- ==== Sys2Proof/Machine/Lookup.lean ====
section
/-! DEFINITION. Finding an object of the dictionary, and the checks of a write that involve only its own value
(16 R405–R411). -/

namespace Sys2Proof.Machine

/-- What an address names: an object with the number of its repetition, sub 0 of a record with its N, or an error
code (16 R405, R406). -/
inductive Found where
  | obj (o : Obj) (k : Nat)
  | count (n : Nat)
  | error (code : Nat)
  deriving DecidableEq, Repr

/-- The families that hold an index, with the number it has in each. -/
def famsOf (index : Nat) : List (Fam × Nat) :=
  famTable.filterMap fun f => (f.number index).map fun k => (f, k)

/-- Index of the object that an index of the mirror's copy of the speculative view stands for (16 R428). -/
def sourceIndex (index : Nat) : Nat := if 0x9F00 ≤ index ∧ index ≤ 0x9FFF then index - 0x1F00 else index

/-- What an index and a sub name (16 R405, R406). -/
def locate (index sub : Nat) : Found :=
  match famsOf (sourceIndex index) with
  | [] => .error 0x0602
  | (f, k) :: _ =>
    let l := f.objs k
    match l.find? fun o => o.sub == sub with
    | some o => .obj o k
    | none => if sub = 0 then .count (l.foldl (fun m o => max m o.sub) 0) else .error 0x0603

/-- An object lies at an address of the dictionary with the number of its repetition. -/
def Found.is (f : Found) (o : Obj) (k : Nat) : Bool := f == .obj o k

/-- 32-bit two's complement field of a value. -/
def i32At (v : Int) (off : Nat) : Int := fieldS v off 4

/-- A notch outside its rules (04 R98): |a2| ≥ 1, |a1| ≥ 1 + a2, or Enable above 1. -/
def notchBad (v : Int) : Bool :=
  let one : Int := 2 ^ 30
  decide (one ≤ |i32At v 20|) || decide (one + i32At v 20 ≤ |i32At v 16|) || decide (1 < field v 0 1)

/-- A compensator outside its rules (04 R97). -/
def compensatorBad (v : Int) : Bool :=
  decide (i32At v 24 ≤ i32At v 20) || decide (i32At v 32 ≤ i32At v 28)

/-- A slot word outside its rules (02 R46): LAP_PH, MODE, reserved bits, OUT. -/
def slotWordBad (v : Int) : Bool :=
  let w := v.toNat
  decide (bits w 40 8 + 1 ≤ bits w 32 8) || bits w 26 2 == 3 || bits w 0 16 != 0 || decide (bits w 28 4 < 8)

/-- Eleven points that do not rise strictly (09 R246). -/
def ocvBad (v : Int) : Bool := (List.range 10).any fun i => decide (field v (2 * i + 2) 2 ≤ field v (2 * i) 2)

/-- A channel list outside its rules (19 R488). -/
def channelsBad (v : Int) : Bool :=
  let l := (List.range 64).map fun i => field v i 1
  let used := l.takeWhile (· != 0xFF)
  used.isEmpty || (l.drop used.length).any (· != 0xFF) || decide (¬ used.Nodup) ||
    used.any fun c => decide (191 < c) || (decide (166 ≤ c) && decide (c ≤ 175))

/-- A mask that the router refuses for a target (13 R351). -/
def maskBad (t : Nat) (v : Int) : Bool :=
  ((t == 47 || decide (59 ≤ t)) && v != 0) || (t == 42 && decide (256 ≤ v))

/-- Predecessors that are wrong by themselves: a number above 23, the rail itself, a repeated one (12 R317). -/
def predsBad (r : Nat) (v : Int) : Bool :=
  let l := ((List.range 4).map fun i => field v i 1).filter (· != 0xFF)
  l.any (fun p => decide (23 < p) || p == r) || decide (¬ l.Nodup)

/-- A value outside the range that its row states (16 R411 step 6).
DEDUCED 23 (notes/assumptions). -/
def Obj.outOfRange (o : Obj) (v : Int) : Bool :=
  match o.range with
  | some (lo, hi) => !(decide (lo ≤ v) && decide (v ≤ hi)) && !o.alts.contains v
  | none => !o.alts.isEmpty && !o.alts.contains v

/-- The checks of step 6 that involve only the value of the write itself (16 R411, R417). -/
def Obj.ownBad (o : Obj) (k : Nat) (v : Int) : Bool :=
  (o.ty == .bool && decide (1 < v)) || o.outOfRange v ||
  match o.id with
  | 0x204800 => slotWordBad v
  | 0x300300 => compensatorBad v
  | 0x300400 => notchBad v
  | 0x300500 => notchBad v
  | 0x400200 => notchBad v
  | 0x488100 => ocvBad v
  | 0x581003 => predsBad k v
  | 0x681002 => decide (165 < v) && v != 0xFF
  | 0x681003 => decide (3 < v)
  | 0x681006 => decide (21 < v)
  | 0x690001 => maskBad k v
  | 0x700002 => decide (3 < v)
  | 0x781100 => channelsBad v
  | 0x500600 => decide (3 < field v 8 1)
  | 0xa04001 => decide (7 < field v 0 1) || decide (1 < field v 1 1)
  | _ => false

/-- Bytes `off …` of a value set to zero.
DEDUCED 18 (notes/assumptions). -/
def zeroBytes (v : Int) (off n : Nat) : Int := v - (field v off n : Int) * 256 ^ off

/-- The value that is kept of a written one: reserved bits are discarded, a bit that always reads 1 is set, and a
read-only field keeps no value (00 R3, 02 R46, 14 R363, R368).
DEDUCED 18 (notes/assumptions). -/
def Obj.kept (o : Obj) (v : Int) : Int :=
  match o.id with
  | 0x204800 => zeroBytes v 2 1
  | 0x300400 => zeroBytes v 1 3
  | 0x300500 => zeroBytes v 1 3
  | 0x400200 => zeroBytes v 1 3
  | 0x588001 => zeroBytes v 3 1
  | 0x600002 => setBit v 3
  | 0x600003 => setBit v 3
  | 0x61000f => setBit v 3
  | 0x1f1201 => zeroBytes v 3 1
  | 0x781301 => zeroBytes v 1 3
  | 0x150002 => zeroBytes v 6 2
  | 0x150003 => zeroBytes v 6 2
  | 0xa04001 => zeroBytes v 2 2
  | _ => v

end Sys2Proof.Machine
end

