-- ==== Sys2Proof/Machine/RecOps.lean ====
section
/-! DEFINITION. The event recorder: record bytes, a turn of the queue, freeze, clear and reading (19 R473–R487). -/

namespace Sys2Proof.Machine

/-- MRAM changed. -/
def Device.modMram (d : Device) (f : Mram → Mram) : Device := { d with mram := f d.mram }

/-- Bytes of a record (19 R474, R483). -/
def Record.bytes (r : Record) : List Byte :=
  let head :=
    if r.damaged then leBytes 2 0xFFFE ++ [0, 0, 0xFF] ++ List.replicate 55 0
    else
      leBytes 2 r.ev.code ++ leBytes 2 r.ev.source ++ leBytes 1 r.ev.block ++
        leBytes 1 (r.ev.cls + 4 * b2i r.ev.twoStamp + 8 * b2i r.forced) ++ leBytes 2 r.repeats ++ leBytes 8 r.ev.stamp ++
        leBytes 8 r.lastStamp ++ (r.ev.params ++ List.replicate 36 0).take 36
  head ++ leBytes 4 (crc32c head)

/-- Number of records held (19 R473). -/
def Mram.held (m : Mram) : Nat := m.log.length

/-- Both events give one record (19 R478).
DESIGN CHOICE 130 (notes/assumptions). -/
def Event.same (a b : Event) : Bool := a.code == b.code && a.block == b.block && a.source == b.source && a.cls == b.cls

/-- The event is merged into the last record (19 R478, R481, R484).
DESIGN CHOICE 130 (notes/assumptions). -/
def Mram.merges (m : Mram) (ev : Event) : Bool :=
  match m.log with
  | r :: _ => r.ev.same ev && decide (r.repeats < 65535) && ev.code != 0x0001 && ev.code != 0x0902
  | [] => false

/-- A turn of the queue on MRAM (19 R478–R482): frozen, merged, refused or written. -/
def Mram.takeTurn (m : Mram) (frozen : Bool) (ev : Event) : Mram :=
  let m := { m with raised := m.raised + 1 }
  if frozen ∧ ev.code ≠ 0x0902 then { m with frozen := m.frozen + 1 }
  else if m.merges ev then
    match m.log with
    | r :: rest => { m with log := { r with repeats := r.repeats + 1, lastStamp := ev.stamp } :: rest, repeats := m.repeats + 1 }
    | [] => m
  else if 65536 ≤ m.held then { m with refused := m.refused + 1 }
  else { m with log := ⟨ev, frozen, 0, ev.stamp, false⟩ :: m.log }

/-- Position of the record that an event has reached at its turn, if it was written or merged. -/
def Mram.reached (m m' : Mram) : Option Nat :=
  if m.held < m'.held ∨ m.repeats < m'.repeats then some (m'.held - 1) else none

/-- BE takes the next event of the queue (19 R477); a capture record's position goes into its slot (19 R491).
DEDUCED 129 (notes/assumptions). -/
def Device.recordTurn (d : Device) : Device :=
  match d.recorder.queue with
  | [] => d
  | ev :: rest =>
    let m := d.mram
    let m' := m.takeTurn (d.flag O.frozen) ev
    let pos := m.reached m'
    let d := { d with mram := m', recorder := { d.recorder with queue := rest } }
    let d := d.when pos.isSome fun d => (d.bump O.recordWrites).bumpBy O.mramWrites 2
    let d := d.when (decide (65536 ≤ m'.held)) fun d => d.setFlag O.full true
    if ev.code = 0x000A then d.modPf (ev.params.getD 0 0).toNat fun x => { x with recordPos := pos } else d

/-- BE runs again: GD adds what it has counted (19 R482); with PfEnable and PfAutoRearm 1 a free slot is live again (19
R490).
DESIGN CHOICE 132 (notes/assumptions). -/
def Device.recorderBack (d : Device) : Device :=
  let n := d.recorder.lost
  let d := d.when (d.flag O.pfEnable && d.flag O.pfAutoRearm && d.get O.ddrState == 2 && d.get O.pfState == 0) Device.pfArm
  { d with mram := { d.mram with refused := d.mram.refused + n, raised := d.mram.raised + n }
           recorder := { d.recorder with lost := 0 } }

/-- Freeze 1 (19 R480). -/
def Device.freezeNow (d : Device) : Device := ((d.set O.freeze 1).setFlag O.frozen true).stampAt O.freezeStamp
/-- The freeze is released (19 R480). -/
def Device.unfreeze (d : Device) : Device := (d.set O.freeze 0).setFlag O.frozen false

/-- The challenge changed. -/
def Device.setChallenge (d : Device) (c : Option (List Byte)) : Device :=
  { d with recorder := { d.recorder with challenge := c } }

/-- ClearKey (19 R485): stored, any challenge voided, one event. -/
def Device.clearKeyNow (d : Device) (key : List Byte) : Device :=
  (((d.modMram fun m => { m with clearKey := some key }).setChallenge none).setFlag O.clearKeyValid true).raiseD 83 0 0x0008 []

/-- ClearRequest is refused: class A, or no key (19 R485, R486).
DESIGN CHOICE 131 (notes/assumptions). -/
def Device.clearRequestRefused (d : Device) : Bool := d.flag O.controllerClassA || d.mram.clearKey.isNone

/-- A challenge is drawn (19 R486).
DESIGN CHOICE 131 (notes/assumptions). -/
def Device.clearRequestNow (d : Device) : Device := (d.setChallenge (some (fit 16 (Config.randomBytes d.free 16)))).used

/-- The response that matches (19 R486 step 3). -/
def Device.clearAnswer (d : Device) : Option (List Byte) :=
  match d.recorder.challenge, d.mram.clearKey with
  | some c, some k =>
    some (fit 16 (Config.hmacSha256 k ([0x52, 0x43, 0x4C, 0x52] ++ c ++ leBytes 8 (d.get O.serialNumber) ++
      leBytes 4 d.mram.held)))
  | _, _ => none

/-- ClearResponse is refused (19 R486): class A, no valid challenge, no match. -/
def Device.clearResponseRefused (d : Device) (bs : List Byte) : Bool :=
  d.flag O.controllerClassA || d.clearAnswer != some bs

/-- What a refused ClearResponse does (19 R486): the challenge is voided, a mismatch is counted and recorded. -/
def Device.clearResponseFails (d : Device) : Device :=
  if d.flag O.controllerClassA then d
  else
    let miss := d.clearAnswer.isSome
    (d.setChallenge none).when miss fun d => (d.bump O.clearFailures).raiseD 83 0 0x0009 []

/-- An accepted clear (19 R487), in one commit.
DESIGN CHOICE 133 (notes/assumptions). -/
def Device.clearNow (d : Device) (path : Nat) : Device :=
  let m := d.mram
  let first : Nat := match m.log.getLast? with
    | some r => r.ev.stamp
    | none => 0
  let now := d.now
  let ps := leBytes 4 m.held ++ leBytes 8 m.repeats ++ leBytes 4 m.frozen ++ leBytes 4 m.refused ++ leBytes 8 first ++
    leBytes 1 path
  let ev : Event := ⟨0x0002, 0, 83, 0, now, ps, false⟩
  let d := d.modMram fun m =>
    { m with log := [⟨ev, false, 0, now, false⟩], repeats := 0, frozen := 0, refused := 0, raised := 1, clears := m.clears + 1 }
  ((((d.unfreeze.setChallenge none).setFlag O.full false).bump O.recordWrites).bumpBy O.mramWrites 2).stampAt O.lastClearStamp

/-- The record at a position. -/
def Mram.recordAt (m : Mram) (i : Nat) : Option Record := if i < m.held then m.log[m.held - 1 - i]? else none

/-- RecordBlock (19 R483): up to 16 records from RecordSelect. -/
def Device.recordBlock (d : Device) : List Record :=
  ((List.range 16).map fun i => d.mram.recordAt (d.getN O.recordSelect + i)).takeWhile Option.isSome |>.filterMap id

/-- Returns of damaged records are counted (19 R483). -/
def Device.countDamaged (d : Device) (l : List Record) : Device :=
  d.bumpBy O.damagedReads (l.filter Record.damaged).length

/-- Header of a photo-finish slot (19 R491).
DEDUCED 134 (notes/assumptions). -/
def PfSlot.header (x : PfSlot) : List Byte :=
  let stamp : Nat := match (x.pre ++ x.post).head? with
    | some f => f.1
    | none => 0
  let h := leBytes 4 x.number ++ leBytes 1 x.state ++ leBytes 1 x.channels.length ++ leBytes 1 x.rate ++
    leBytes 1 (b2i x.short + 2 * b2i (x.state == 4) + 4 * b2i x.recordPos.isNone) ++ leBytes 8 x.trigger ++
    leBytes 4 x.pre.length ++ leBytes 4 x.post.length ++ leBytes 4 (x.recordPos.getD 0xFFFFFFFF) ++ leBytes 4 x.extra ++
    (x.sources ++ List.replicate 16 0).take 16 ++ (x.channels ++ List.replicate 64 0xFF).take 64 ++ leBytes 4 x.clears ++
    leBytes 8 stamp
  h ++ leBytes 4 (crc32c h)

/-- Bytes of a photo-finish slot (19 R491, R492). -/
def PfSlot.bytes (x : PfSlot) : List Byte :=
  if x.state = 3 ∨ x.state = 4 then
    x.header ++ ((x.pre ++ x.post).map fun f => (f.2.map fun (w : Nat) => leBytes 2 w).flatten).flatten
  else x.header

/-- PfEnable 1 (19 R490). -/
def Device.pfEnabled (d : Device) : Device :=
  d.when (d.get O.ddrState == 2 && d.runs engBE && d.get O.pfState == 0) Device.pfArm

/-- PfEnable 0 (19 R490): the live ring is discarded, a post-trigger recording finishes. -/
def Device.pfDisabled (d : Device) : Device :=
  match d.getN O.pfState with
  | 1 => ((d.modPf (d.getN O.liveSlot) fun _ => PfSlot.reset).set O.pfState 0).set O.liveSlot 0xFF
  | 3 => d.set O.pfState 0
  | _ => d

/-- PfTrigger (19 R490). -/
def Device.pfTriggerNow (d : Device) : Device := d.pfTriggered (List.replicate 16 0)

/-- PfRelease is refused (19 R492). -/
def Device.pfReleaseRefused (d : Device) (i : Nat) : Bool :=
  !((d.pfSlot i).state == 3 || (d.pfSlot i).state == 4) || decide (16 ≤ i)

/-- PfRelease (19 R492). -/
def Device.pfReleaseNow (d : Device) (i : Nat) : Device :=
  let d := d.modPf i fun _ => PfSlot.reset
  d.when (d.flag O.pfEnable && d.flag O.pfAutoRearm && d.get O.liveSlot == 0xFF && d.get O.ddrState == 2 && d.runs engBE)
    Device.pfArm

end Sys2Proof.Machine
end

