-- ==== Sys2Proof/Machine/RectOps.lean ====
section
/-! DEFINITION. Rectifiers: number formats, discovery, status, bus regulation, sharing, policy and placements
(07 R180–R211). -/

namespace Sys2Proof.Machine

/-- Two's complement of `n` bits.
PRESUMED 51 (notes/assumptions). -/
def signedBits (n v : Nat) : Int := if 2 ^ (n - 1) ≤ v then (v : Int) - 2 ^ n else v

/-- 2 to an integer power. -/
def pow2 (e : Int) : Rat := if 0 ≤ e then (2 : Rat) ^ e.toNat else 1 / (2 : Rat) ^ (-e).toNat

/-- Value of a LINEAR11 word (07 R183; the coding is PMBus's).
PRESUMED 51 (notes/assumptions). -/
def linear11 (bs : List Byte) : Rat :=
  let v := ofLe bs
  (signedBits 11 (bits v 0 11) : Rat) * pow2 (signedBits 5 (bits v 11 5))

/-- Step of a ULINEAR16 value under a VOUT_MODE byte, in V (07 R183).
PRESUMED 51 (notes/assumptions). -/
def voutStep (mode : Nat) : Rat := pow2 (signedBits 5 (mode % 32))

/-- Byte `off` of the capability record. -/
def Device.capByte (d : Device) (r off : Nat) : Nat := field (d.get (O.capability r)) off 1
/-- PEC is in use on the slot (07 R190). -/
def Device.pecInUse (d : Device) (r : Nat) : Bool := d.capByte r 51 % 2 == 1
/-- The VOUT step of the slot in V. -/
def Device.slotStep (d : Device) (r : Nat) : Rat := voutStep (d.capByte r 50)
/-- MFR_VOUT_MIN and MFR_VOUT_MAX of the slot in V (07 R190). -/
def Device.slotRange (d : Device) (r : Nat) : Rat × Rat :=
  ((field (d.get (O.capability r)) 56 2 : Rat) / 1000, (field (d.get (O.capability r)) 58 2 : Rat) / 1000)

/-- An object in mV, in V. -/
def Device.volts (d : Device) (o : Obj) : Rat := (d.get o : Rat) / 1000

/-- Slots whose discovery is complete and that are read each lap (07 R187). -/
def discovered : List Nat := [3, 4, 5, 6, 7, 8, 9]

/-- Slots of a port. -/
def slotsOf (p : Nat) : List Nat := (List.range 8).map fun j => 8 * p + j

/-- The port speed in use: 400 kHz unless a discovered rectifier on it declares 100 kHz (07 R181). -/
def Device.speedOf (d : Device) (p : Nat) : Int :=
  if d.get (O.portSpeed p) = 1 ∧
      ((slotsOf p).all fun r => !((d.slot r).known && bits (d.capByte r 49) 5 2 == 0)) = true then 1 else 0

/-- The line pair of a slot: the fixed one, else the identified one (07 R193). -/
def Device.pairOf (d : Device) (r : Nat) : Nat :=
  if d.get (O.linePairFixed r) != 0 then d.getN (O.linePairFixed r) else d.getN (O.linePair r)

/-- Rotation reads of the slots' other values (07 R183).
DESIGN CHOICE 56 (notes/assumptions). -/
def rotationCodes : List Nat := [0x88, 0x89, 0x8B, 0x8D, 0x90, 0x96, 0x97]

/-- The port goes on: its next transaction, or, with none waiting, the next reading of the rotation
(07 R187).
DESIGN CHOICE 56 (notes/assumptions). -/
def Device.pbNext (d : Device) (p : Nat) : Device :=
  let d := d.set (O.speedInUse p) (d.speedOf p)
  let x := d.port p
  let js : List (Nat × Nat) := ((slotsOf p).filter fun r => discovered.contains (d.rectSt r)).flatMap fun r =>
    rotationCodes.map fun c => (r, c)
  if x.busy.isNone ∧ x.queue = [] ∧ js ≠ [] ∧ d.portMay p = true then
    let j := js.getD (x.rot % js.length) (0, 0)
    (d.modPort p fun x => { x with queue := [⟨j.1, j.2, false, [], 0, 0, .rotation⟩], rot := x.rot + 1 }).pbStart p
  else d.pbStart p

/-- The transaction in progress is over. -/
def Device.pbEnd (d : Device) (p : Nat) : Device :=
  ((d.modPort p fun x => { x with busy := none }).when (!(d.stuck p)) fun d => d.set (O.pbPortState p) 0)

/-- A transaction that starts at this instant: one that would still be running has been held back (07 R201). -/
def Device.pbNow (d : Device) (r code : Nat) (data : List Byte) : Device :=
  let p := portOf r
  if d.pbWrites p then
    (d.modPort p fun x => { x with busy := some ⟨r, code, true, data, 0, d.lap, .order⟩
                                   queue := x.busy.toList ++ x.queue }).set (O.pbPortState p) 1
  else d

/-- A slot leaves ADDING or SHEDDING by another way than its action's end: its placement and its
identification lapse, and the spacing counts from here (07 R209). -/
def Device.actionEnds (d : Device) (r : Nat) : Device :=
  if d.rectSt r = 4 ∨ d.rectSt r = 6 then
    let lap := d.lap
    ({ d with bus := { d.bus with
        place4 := d.bus.place4.filter fun x => x.1 != r
        place5 := d.bus.place5.filter fun x => x.1 != r
        actionLap := some lap } }).modSlot r fun x => { x with pairBefore := none, rampDone := false }
  else d

/-- STUCK: counted, a class-C event of the port; it sends nothing more (07 R185). -/
def Device.pbStuck (d : Device) (p : Nat) : Device :=
  ((((d.modPort p fun x => { x with busy := none, queue := [] }).set (O.pbPortState p) 3).bump
    (O.stuckCount p))).raiseC (74 + p) 0 0x0402 []

/-- A recovery that freed SDA is counted and recorded (07 R184).
DESIGN CHOICE 199 (notes/assumptions). -/
def Device.pbRecovered (d : Device) (p : Nat) : Device := (d.bump (O.recoveries p)).raiseD (74 + p) 0 0x0401 []

/-- Discovery of a slot starts anew with its probe (07 R189).
DESIGN CHOICE 53 (notes/assumptions). -/
def Device.discoverStart (d : Device) (r : Nat) : Device :=
  let d := (d.modSlot r fun x => { RectSlot.reset with offLap := x.offLap, share := 0 }).set (O.linePair r) 0
  (d.setRect r 0).pbPut r 0x98 false [] .probe

/-- A slot that has answered with a new identity: DISCOVERING, read from the start (07 R185, R191). -/
def Device.discoverAnew (d : Device) (r : Nat) : Device :=
  let d := (d.modSlot r fun x => { RectSlot.reset with offLap := x.offLap }).set (O.linePair r) 0
  (d.setRect r 1).pbPut r 0x98 false [] .discover

/-- The reads of a discovery, in order (07 R189 steps 1 and 2). -/
def discoveryCodes : List Nat := [0x98, 0x19, 0x20, 0x99, 0x9A, 0x9B, 0x9E, 0xA4, 0xA5, 0xA6, 0xA7]

/-- Reply found for a code. -/
def Device.reply (d : Device) (r code : Nat) : List Byte :=
  match (d.slot r).found.find? fun x => x.1 == code with
  | some x => x.2
  | none => []

/-- Text cut or padded to its field (07 R190). -/
def padTo (n : Nat) (bs : List Byte) : List Byte := (bs ++ List.replicate n 0).take n

/-- The capability record from the replies; `droop` says whether VOUT_DROOP was written (07 R190). -/
def Device.capRecord (d : Device) (r : Nat) (droop : Bool) : List Byte :=
  let get := d.reply r
  let pec := bits (ofLe (get 0x19)) 7 1 == 1 && d.get O.pecMode != 2
  let pout := linear11 (get 0xA7)
  padTo 8 (get 0x99) ++ padTo 16 (get 0x9A) ++ padTo 16 (get 0x9E) ++ padTo 8 (get 0x9B) ++
    padTo 1 (get 0x98) ++ padTo 1 (get 0x19) ++ padTo 1 (get 0x20) ++
    leBytes 1 (b2i pec + 2 * b2i droop + 4 * b2i (decide ((5500 : Rat) < pout))) ++
    leBytes 2 (satU 16 (quant (min pout 5500))) ++ leBytes 2 (satU 16 (quant (linear11 (get 0xA6) * 10))) ++
    leBytes 2 (satU 16 (quant (linear11 (get 0xA4) * 1000))) ++
    leBytes 2 (satU 16 (quant (linear11 (get 0xA5) * 1000))) ++ [0, 0, 0, 0]

/-- The rectifier is UNSUPPORTED (07 R181, R182, R189 step 3).
DEDUCED 52 (notes/assumptions). -/
def Device.unsupported (d : Device) (r : Nat) : Bool :=
  let get := d.reply r
  let lo := linear11 (get 0xA4)
  let hi := linear11 (get 0xA5)
  let t := d.volts O.busTarget
  let w := d.volts O.trimWindow
  bits (ofLe (get 0x20)) 5 3 != 0 || decide (t - w < lo) || decide (hi < t + w) ||
    (d.get O.pecMode == 1 && bits (ofLe (get 0x19)) 7 1 == 0) || ofLe (get 0x98) % 16 == 0

/-- The droop word of R189 step 4: DroopResistance in mV/A. -/
def Device.droopWord (d : Device) : List Byte :=
  leBytes 2 (Config.linear11 ((d.get O.droopResistance : Rat) / 1000) : Nat)

/-- The bus integral after an adoption: V_b + u equals the mean VOUT_COMMAND of the adopted slots (07 R189): the slots
ONLINE since their adoption, each with the command last written to it or found in it.
DEDUCED 185 (notes/assumptions). -/
def Device.adoptIntegral (d : Device) : Device :=
  let vs := ((d.rectIn [5]).filter fun r => (d.slot r).adopted).map fun r =>
    (((d.slot r).written.getD 0 : Int) : Rat) * d.slotStep r
  if vs = [] ∨ d.bus.started = false then d
  else
    let i := mean vs - d.bus.vb
    (({ d with bus := { d.bus with integ := i, u := i } }).set O.integralTrim (quant (i * 1000000))).set
      O.commonTrim (quant (i * 1000000))

/-- Rated current of a slot: rating divided by BusTarget (07 R202). -/
def Device.ratedCurrent (d : Device) (r : Nat) : Rat := (d.rating r : Rat) / d.volts O.busTarget
/-- The current at which a slot counts as carrying load (07 R189, R202). -/
def Device.addCurrent (d : Device) (r : Nat) : Rat := q15 (d.get O.addCurrentFrac) * d.ratedCurrent r

/-- READ_IOUT of a slot (07 R187, R211). -/
def Device.takeIout (d : Device) (r : Nat) (bs : List Byte) : Device :=
  (d.modSlot r fun x => { x with iout := some (linear11 bs) }).set (O.outputCurrent r)
    (satS 16 (quant (linear11 bs * 10)))

/-- VOUT_COMMAND code last written to, or found in, a slot (07 R197, R211). -/
def Device.takeVout (d : Device) (r : Nat) (code : Int) : Device :=
  (d.modSlot r fun x => { x with written := some code }).set (O.voutCommand r)
    (satU 32 (quant ((code : Rat) * d.slotStep r * 1000000)))

/-- A discovery ends in STANDBY (07 R189 step 5). -/
def Device.discoverStandby (d : Device) (r : Nat) : Device :=
  let on := bits (ofLe (d.reply r 0x01)) 7 1 == 1
  (d.when on fun d => d.pbOrder r 0x01 [0x40]).setRect r 3

/-- A slot enters FAULTED, or LATCHED when no retries are left, with its cause (07 R202, R205).
DESIGN CHOICE 57 (notes/assumptions). -/
def Device.rectFault (d : Device) (r : Nat) (why : RectCause) : Device :=
  let d := (d.actionEnds r).modSlot r fun x => { x with cause := some why }
  if d.get (O.retryCount r) = d.get O.rectRetries then (d.setRect r 9).raiseB (42 + r) 0 0x0407 []
  else (d.setRect r 8).raiseD (42 + r) 0 0x0406 []

/-- The STATUS_x bytes that match the summary bits of a STATUS_WORD (07 R183, R205). -/
def statusReads (w : Nat) : List Nat :=
  (if bits w 15 1 = 1 ∨ bits w 5 1 = 1 then [0x7A] else []) ++
    (if bits w 14 1 = 1 ∨ bits w 4 1 = 1 then [0x7B] else []) ++ (if bits w 2 1 = 1 then [0x7D] else [])

/-- A STATUS_WORD: the first row of R205 that applies. -/
def Device.takeStatus (d : Device) (r w : Nat) : Device :=
  let d := d.set (O.lastStatusWord r) w
  let st := d.rectSt r
  let b := fun i => bits w i 1 == 1
  let act := st == 4 || st == 5 || st == 6
  if b 13 || b 3 then
    if act || st == 3 || st == 8 then ((d.actionEnds r).setRect r 7).raiseD (42 + r) 0 0x0405 [] else d
  else if b 6 && (b 5 || b 4 || b 2) then
    if act || st == 3 || st == 7 then (d.rectFault r .reported).pbOrder r 0x01 [0x00] else d
  else if b 6 && act then d.rectFault r .unexpectedOff
  else if b 1 then
    (((d.pbPut r 0x7E false [] .follow).pbPut r 0x03 true [] .follow).bump (O.slotTxErrors r)).raiseC (42 + r) 0 0x0408 []
  else (statusReads w).foldl (fun d c => d.pbPut r c false [] .follow) d

/-- Flag b1 of the capability record: VOUT_DROOP has been written (07 R189, R190). -/
def Device.droopDone (d : Device) (r : Nat) : Device :=
  d.set (O.capability r) ((d.getN (O.capability r) ||| 2 ^ (51 * 8 + 1) : Nat))

/-- Discovery goes on after the word was written to VOUT_DROOP; refused by a NACK, or by CML in the STATUS_WORD read next,
b1 of the record's flags stays 0 (07 R189 step 4).
DESIGN CHOICE 186 (notes/assumptions). -/
def Device.droopGot (d : Device) (r : Nat) (done : Bool) : Device :=
  let d := d.set (O.capability r) (ofLe (d.capRecord r false) : Nat)
  (d.when done fun d => d.droopDone r).pbPut r 0x01 false [] .discover

/-- A discovery step has its result; the next one is put (07 R189). Without an answer the slot is EMPTY again.
DEDUCED 52 (notes/assumptions). -/
def Device.discoverGot (d : Device) (r code : Nat) (res : Option (List Byte)) : Device :=
  if code = 0x28 then (if res.isSome then d.pbPut r 0x79 false [] .discover else d.droopGot r false)
  else match res with
  | none => d.setRect r 0
  | some bs =>
    let d := d.modSlot r fun x => { x with found := (code, bs) :: x.found }
    if code = 0x02 then d.pbPut r 0x28 true d.droopWord .discover
    else if code = 0x79 then (d.takeStatus r (ofLe bs)).droopGot r (bits (ofLe bs) 1 1 == 0)
    else if code = 0x01 then d.pbPut r 0x21 false [] .discover
    else if code = 0x21 then
      let d := d.takeVout r (ofLe bs)
      if bits (ofLe (d.reply r 0x01)) 7 1 = 1 then d.pbPut r 0x8C false [] .discover else d.discoverStandby r
    else if code = 0x8C then
      if d.addCurrent r ≤ linear11 bs then
        let d := (d.modSlot r fun x => { x with share := 0, adopted := true }).takeIout r bs
        ((d.set (O.shareTrim r) 0).setRect r 5).adoptIntegral
      else d.discoverStandby r
    else match discoveryCodes[discoveryCodes.idxOf code + 1]? with
      | some c => d.pbPut r c false [] .discover
      | none =>
        let d := (d.set (O.capability r) (ofLe (d.capRecord r false) : Nat)).modSlot r fun x => { x with known := true }
        if d.unsupported r then d.setRect r 2 else d.pbPut r 0x02 true [0x18] .discover

/-- A STATUS_x byte: its rising bits are recorded; STATUS_CML is read without a notice of its own (07 R205). -/
def Device.takeStatusByte (d : Device) (r code v : Nat) : Device :=
  let old := match (d.slot r).statusBytes.find? fun x => x.1 == code with
    | some x => x.2
    | none => 0
  let rise := v &&& (255 - old % 256)
  let d := d.modSlot r fun x =>
    { x with statusBytes := (code, v) :: x.statusBytes.filter fun y => y.1 != code }
  d.when (rise != 0 && code != 0x7E) fun d => d.raiseD (42 + r) 0 0x0409 (leBytes 1 code ++ leBytes 1 rise)

/-- The identity of a slot has been read: the same one goes on in its state before, another is discovered again
(07 R185, R188). -/
def Device.identityGot (d : Device) (r : Nat) (res : Option (List Byte)) : Device :=
  match res with
  | some bs =>
    if (d.slot r).known = true ∧ ofLe (padTo 16 bs) = field (d.get (O.capability r)) 24 16 then
      d.when (d.rectSt r == 10) fun d => d.setRect r (d.slot r).before
    else d.discoverAnew r
  | none => d.discoverStart r

/-- The result of a transaction, `none` after its last repeat has failed (07 R187–R205). One that was under way when its
slot or rectifier management was disabled, or its lap's work dropped, has no effect but that of a VOUT_COMMAND written. -/
def Device.pbResult (d : Device) (j : Job) (res : Option (List Byte)) : Device :=
  let r := j.slot
  let st := d.rectSt r
  let u := if d.flag O.rectEnable && st != 11 then j.purpose else .late
  match u with
  | .fixed =>
    match res with
    | none => d
    | some bs =>
      if j.code = 0x21 then d.takeVout r (ofLe j.data)
      else if j.code = 0x8C then d.takeIout r bs
      else if j.code = 0x79 then d.takeStatus r (ofLe bs)
      else d
  | .probe =>
    match res with
    | none => d.when (st == 2) fun d => d.modSlot r fun x => { x with gone := true }
    | some bs =>
      if st = 10 then d.pbIdentify r
      else if st = 0 ∨ (st = 2 ∧ (d.slot r).gone = true) then
        ((d.modSlot r fun x => { x with found := [], known := false, gone := false }).setRect r 1).discoverGot r 0x98
          (some bs)
      else d
  | .identity => d.identityGot r res
  | .droop => d.when res.isSome fun d => d.droopDone r
  | .late => d.when (res.isSome && j.code == 0x21 && j.write) fun d => d.takeVout r (ofLe j.data)
  | .discover => d.when (st == 1) fun d => d.discoverGot r j.code res
  | .follow => match res with
    | some (v :: _) => d.takeStatusByte r j.code v.toNat
    | _ => d
  | .rotation => d
  | .order => d

/-- A transaction error: counted for port and slot; repeated up to twice in the same lap, then over (07 R188). `nack`: the
address was NACKed. -/
def Device.pbError (d : Device) (p : Nat) (j : Job) (nack : Bool) : Device :=
  let d := (d.bump (O.portTxErrors p)).bump (O.slotTxErrors j.slot)
  let d := d.when nack fun d => d.modSlot j.slot fun x => { x with nack := true }
  if j.tries < 2 ∧ j.lap = d.lap ∧ d.portMay p = true ∧ j.purpose ≠ .late ∧
      (d.rectSt j.slot ≠ 11 ∨ j.purpose = .order) then
    d.modPort p fun x => { x with busy := some { j with tries := j.tries + 1 } }
  else ((d.pbEnd p).pbResult j none).pbNext p

/-- Angle of the rising crossing of a line pair under the rotation in force (02 R31). -/
def Device.crossing (d : Device) (pair : Nat) : Int :=
  let acb := d.get O.rotation == 1
  if pair = 2 then (if acb then 43691 else 21845)
  else if pair = 3 then (if acb then 21845 else 43691)
  else 0

/-- Angle of a placement: the crossing and its offset, less the lead of the OPERATION write (07 R201). -/
def Device.placeAngle (d : Device) (r : Nat) (off : Int) : Nat :=
  let bitTimes : Rat := if d.pecInUse r then 38 else 29
  let ns := bitTimes * (if d.speedOf (portOf r) = 1 then 2500 else 10000)
  let lead := roundQ (ns / ((d.tb.lapDur : Rat) / 65536))
  ((d.crossing (d.pairOf r) + off - lead) % 65536).toNat

/-- A placement of slot 4 or 5, which fires in the next lap (07 R201, 02 R46). -/
def Device.place (d : Device) (five : Bool) (r : Nat) (off : Int) : Device :=
  let n := if five then 5 else 4
  let w := slotWordOf (d.placeAngle r off) n 2 true
  let e := (r, d.lap + 1)
  let d := d.modTb fun t => { t with slots := modAt t.slots n fun s => { s with word := w } }
  { d with bus := if five then { d.bus with place5 := d.bus.place5 ++ [e] }
                  else { d.bus with place4 := d.bus.place4 ++ [e] } }

/-- Group of a slot: A 0–15, B 16–31 (07 R180). -/
def groupOf (r : Nat) : Bool := decide (16 ≤ r)
/-- The group's enable. -/
def Device.groupOn (d : Device) (b : Bool) : Bool := if b then d.flag O.groupEnableB else d.flag O.groupEnableA

/-- Ratings of the slots of a list. -/
def Device.ratingSum (d : Device) (l : List Nat) : Nat := (l.map d.rating).sum

/-- Key 2 of R200: rating online on the slot's line pair; a slot of no pair has none. -/
def Device.pairLoad (d : Device) (sts : List Nat) (r : Nat) : Nat :=
  let p := d.pairOf r
  if p = 0 ∨ 4 ≤ p then 0 else d.ratingSum ((d.rectIn sts).filter fun q => d.pairOf q == p)

/-- Key 1 of R200: online capacity of the slot's group. -/
def Device.groupLoad (d : Device) (r : Nat) : Nat :=
  d.ratingSum ((d.rectIn [5]).filter fun q => groupOf q == groupOf r)

/-- Add candidate of R200: STANDBY, its off time elapsed, its group on, its port not STUCK (07 R200, R208, R209). -/
def Device.addCandidate (d : Device) : Option Nat :=
  let l := (List.range 32).filter fun r =>
    d.rectSt r == 3 && d.groupOn (groupOf r) && !(d.stuck (portOf r)) &&
      (match (d.slot r).offLap with
        | some o => decide (o + d.getN O.minOffLaps ≤ d.lap)
        | none => true)
  l.foldl (fun best r => match best with
    | none => some r
    | some b =>
      let kr := (d.groupLoad r, d.pairLoad [5] r)
      let kb := (d.groupLoad b, d.pairLoad [5] b)
      if kr.1 < kb.1 ∨ (kr.1 = kb.1 ∧ kr.2 < kb.2) then some r else best) none

/-- Shed candidate of R200 among ONLINE slots for which `ok` holds. -/
def Device.shedCandidate (d : Device) (ok : Nat → Bool) : Option Nat :=
  let l := (d.rectIn [5]).filter fun r => !(d.stuck (portOf r)) && ok r
  l.foldl (fun best r => match best with
    | none => some r
    | some b =>
      let kr := (d.groupLoad r, d.pairLoad [5] r)
      let kb := (d.groupLoad b, d.pairLoad [5] b)
      if kb.1 < kr.1 ∨ (kb.1 = kr.1 ∧ kb.2 ≤ kr.2) then some r else best) none

/-- The add condition of the policy in force (07 R199): a slot that the groups in force make available is STANDBY; or the
load of policy 1 (R208). -/
def Device.addDue (d : Device) : Bool :=
  if d.get O.rectPolicy != 1 then (d.rectIn [3]).any fun r => d.groupOn (groupOf r)
  else decide (q15 (d.get O.addFrac) * (d.onCapacity none : Rat) < (d.get O.rectPower : Rat)) ||
    decide (((d.rectIn [4, 5]).length : Int) < d.get O.minOnline + d.get O.redundantCount)

/-- An add is decided: the pre-trimmed command, and the placement (07 R202 step 1). -/
def Device.addStart (d : Device) (r : Nat) : Device :=
  let lap := d.lap
  let s : Rat := -(d.volts O.addPreTrim)
  let d := (d.modSlot r fun x => { x with share := s }).set (O.shareTrim r) (quant (s * 1000000))
  let d := { d with bus := { d.bus with actionLap := some lap } }
  d.place false r (d.get O.addOffset)

/-- A shed is decided: SHEDDING, its ramp begins (07 R203). -/
def Device.shedBegin (d : Device) (r : Nat) : Device :=
  let lap := d.lap
  let d := (d.setRect r 6).modSlot r fun x =>
    { x with rampFrom := x.share, rampDone := false }
  { d with bus := { d.bus with actionLap := some lap } }

/-- A shed is abandoned: ONLINE again, its trim rejoins the sharing (07 R203). -/
def Device.shedAbandon (d : Device) (r : Nat) : Device := (d.actionEnds r).setRect r 5

/-- The spacing between adds and sheds has passed (07 R199). -/
def Device.spaced (d : Device) : Bool :=
  match d.bus.actionLap with
  | some l => decide (l + d.getN O.addSpacing ≤ d.lap)
  | none => true

/-- Slots of a group that runs (07 R208). -/
def Device.groupRuns (d : Device) (b : Bool) : Bool := (d.rectIn [4, 5, 6]).any fun r => groupOf r == b

/-- The policy at an update: abandonments, then at most one add or shed (07 R199, R203, R208, 10 R267). -/
def Device.policy (d : Device) : Device :=
  let d := d.when d.addDue fun d =>
    d.forAll ((d.rectIn [6]).filter fun r => !(d.stuck (portOf r))) fun r d => d.shedAbandon r
  let d := d.forAll [0, 1] fun g d =>
    d.when (!(d.groupOn (g == 1)) && !(d.groupRuns (g == 1)) && !(bit (d.get (O.forceOffCause g)) 2)) fun d =>
      d.gateForce g 2
  if d.get O.regFrozen != 0 ∨ d.spaced = false ∨ d.get O.batonHolder != 0 ∨ d.hold.restarts = true then d
  else
    let one := d.get O.rectPolicy = 1
    let off := d.shedCandidate fun r => !(d.groupOn (groupOf r))
    match off with
    | some r => d.shedBegin r
    | none =>
      match (if one ∧ d.addDue = false then none else d.addCandidate) with
      | some r => if d.bus.place4 = [] then d.addStart r else d
      | none =>
        if one ∧ d.rectIn [4, 6] = [] then
          match d.shedCandidate fun r => decide ((d.slot r).since + d.getN O.minOnLaps ≤ d.lap) with
          | some r =>
            if (d.get O.rectPower : Rat) < q15 (d.get O.shedFrac) * (d.onCapacity (some r) : Rat) ∧
                d.get O.minOnline + d.get O.redundantCount ≤ ((d.rectIn [4, 5]).length : Int) - 1 then
              d.shedBegin r
            else d
          | none => d
        else d

/-- Restarts of a return: one INPUT_LOST slot of a group per ReturnStagger laps (10 R280). -/
def Device.placeRestart (d : Device) (b : Bool) : Device :=
  let g := if b then 1 else 0
  let pending := (d.bus.place4 ++ d.bus.place5).map (·.1)
  let l := (d.rectIn [7]).filter fun r => groupOf r == b && !(pending.contains r) && !(d.stuck (portOf r))
  let best := l.foldl (fun best r => match best with
    | none => some r
    | some c => if d.pairLoad [4, 5] r < d.pairLoad [4, 5] c then some r else best) none
  match best with
  | some r =>
    if d.groupOn b then
      let lap := d.lap
      (d.place b r (d.get O.addOffset)).modHold fun h => { h with staggerLap := modAt h.staggerLap g fun _ => lap }
    else d
  | none => d

/-- The restarts due at an update; they end when no slot is INPUT_LOST (10 R280). -/
def Device.restartsDue (d : Device) : Device :=
  if d.hold.restarts = true then
    if d.rectIn [7] = [] then d.modHold fun h => { h with restarts := false }
    else d.forAll [0, 1] fun g d =>
      d.when (decide (d.hold.staggerLap.getD g 0 + d.getN O.returnStagger ≤ d.lap)) fun d => d.placeRestart (g == 1)
  else d

/-- The sharing law (07 R196). With ratings that sum to 0 the weights are not stated: one free value.
DESIGN CHOICE 11, 58 (notes/assumptions). -/
def Device.sharing (d : Device) : Device :=
  let ps := (d.rectIn [5]).filter fun r => (d.slot r).iout.isSome
  let i := fun r => ((d.slot r).iout.getD 0)
  let sumI := (ps.map i).sum
  if ps = [] ∨ d.get O.regFrozen != 0 ∨ sumI < (d.get O.shareMinCurrent : Rat) / 10 then d
  else
    let tot := d.ratingSum ps
    let w := fun r => if tot = 0 then Config.freeRat d.free else (d.rating r : Rat) / tot
    let rd := (d.get O.droopResistance : Rat) / 1000000
    let s := fun r => (d.slot r).share - q15 (d.get O.shareGain) * rd * (i r - w r * sumI)
    let m := mean (ps.map s)
    let c := d.volts O.shareClamp
    let vs := ps.map fun r => (r, clampQ (-c) c (s r - m))
    let d := d.when (tot == 0) Device.used
    vs.foldl (fun d x => (d.modSlot x.1 fun y => { y with share := x.2 }).set (O.shareTrim x.1) (quant (x.2 * 1000000))) d

/-- The shed ramps move on: s_i falls by ShedPreTrim over ShedRampLaps (07 R203). -/
def Device.shedRamps (d : Device) : Device :=
  d.forAll (d.rectIn [6]) fun r d =>
    let x := d.slot r
    let n := d.getN O.shedRampLaps
    let t : Rat := (min n (d.lap - x.since) : Nat)
    let s := x.rampFrom - d.volts O.shedPreTrim * t / n
    (d.modSlot r fun x => { x with share := s }).set (O.shareTrim r) (quant (s * 1000000))

/-- The command of a slot as a VOUT_MODE code (07 R197). -/
def Device.voutCode (d : Device) (r : Nat) : Int :=
  let rg := d.slotRange r
  let w := d.volts O.trimWindow
  let lo := max rg.1 (d.bus.vb - w)
  let hi := min rg.2 (d.bus.vb + w)
  let v := if lo ≤ hi then clampQ lo hi (d.bus.vb + d.bus.u + (d.slot r).share)
    else if d.bus.vb + w < rg.1 then rg.1 else rg.2
  clampI 0 65535 (roundQ (v / d.slotStep r))

/-- A transaction of the lap's fixed work at the end of its port's fixed work. -/
def Device.putFixed (d : Device) (r code : Nat) (w : Bool) (data : List Byte) : Device :=
  d.modPort (portOf r) fun x =>
    let q := afterIds x.queue
    { x with queue := headIds x.queue ++ (q.filter fun j => j.purpose == .fixed) ++ [⟨r, code, w, data, 0, 0, .fixed⟩] ++
        q.filter fun j => j.purpose != .fixed }

/-- A DroopResistance changed in an earlier lap is written as VOUT_DROOP to every slot discovered (07 R211). -/
def Device.droopWork (d : Device) : Device :=
  d.forAll ((d.rectIn discovered).filter fun r => !(d.stuck (portOf r))) fun r d =>
    match (d.slot r).droopDue with
    | some l => d.when (decide (l < d.lap)) fun d =>
        (d.modSlot r fun x => { x with droopDue := none }).pbPut r 0x28 true d.droopWord .droop
    | none => d

/-- A change of DroopResistance: every slot awaits its VOUT_DROOP (07 R211). -/
def Device.droopNow (d : Device) : Device :=
  let lap := d.lap
  d.forAll (List.range 32) fun r d => d.modSlot r fun x => { x with droopDue := some lap }

/-- The lap's fixed work of the ports: writes, READ_IOUT, STATUS_WORD, then probes of LOST slots (07 R187, R188).
A port that is STUCK gets none. -/
def Device.fixedWork (d : Device) : Device :=
  let ok := fun r => !(d.stuck (portOf r))
  let adds := d.bus.place4.filterMap fun x => if d.rectSt x.1 = 3 then some x.1 else none
  let ws := (List.range 32).filter fun r => ok r &&
    ([4, 5, 6].contains (d.rectSt r) || adds.contains r) && (d.slot r).written != some (d.voutCode r)
  let d := ws.foldl (fun d r => d.putFixed r 0x21 true (leBytes 2 (d.voutCode r))) d
  let d := ((d.rectIn [4, 5, 6]).filter ok).foldl (fun d r => d.putFixed r 0x8C false []) d
  let d := ((d.rectIn discovered).filter ok).foldl (fun d r => d.putFixed r 0x79 false []) d
  let d := ((d.rectIn [10]).filter ok).foldl (fun d r =>
    d.modPort (portOf r) fun x => { x with queue := x.queue ++ [⟨r, 0x98, false, [], 0, 0, .probe⟩] }) d
  d.droopWork.forAll [0, 1, 2, 3] fun p d => d.pbNext p

/-- Fixed work that the lap has not finished, the transaction under way included, is dropped and counted (07 R187).
DEDUCED 55 (notes/assumptions). -/
def Device.dropFixed (d : Device) : Device :=
  d.forAll [0, 1, 2, 3] fun p d =>
    let x := d.port p
    let n := ((x.busy.toList ++ x.queue).filter fun j => j.purpose == .fixed).length
    (d.modPort p fun x =>
      { x with busy := x.busy.map fun j => if j.purpose == .fixed then { j with purpose := .late } else j
               queue := x.queue.filter fun j => j.purpose != .fixed }).bumpBy (O.overruns p) n

/-- Laps of NACKs, LOST slots, and retry counts that return to 0 (07 R188, R205).
DEDUCED 54, 55 (notes/assumptions). -/
def Device.lapOfSlots (d : Device) : Device :=
  d.forAll (List.range 32) fun r d =>
    let x := d.slot r
    let st := d.rectSt r
    let n := if x.nack then x.nackLaps + 1 else 0
    let d := d.modSlot r fun x => { x with nack := false, nackLaps := n }
    let d := d.when (discovered.contains st && decide (3 ≤ n)) fun d =>
      ((((d.actionEnds r).modSlot r fun x => { x with before := st, nackLaps := 0 }).setRect r 10).raiseC (42 + r) 0 0x0404 [])
    d.when (st == 5 && d.rectSt r == 5 && decide (x.since + d.getN O.minOnLaps ≤ d.lap)) fun d => d.set (O.retryCount r) 0

/-- Placements that did not fire in their lap are cancelled and evaluated again (07 R201, 10 R280). -/
def Device.lapsePlaces (d : Device) : Device :=
  let lap := d.lap
  let old := (d.bus.place4 ++ d.bus.place5).filter fun x => decide (x.2 < lap)
  let d := { d with bus := { d.bus with
    place4 := d.bus.place4.filter fun x => decide (lap ≤ x.2)
    place5 := d.bus.place5.filter fun x => decide (lap ≤ x.2)
    actionLap := if old.any fun x => d.rectSt x.1 == 3 then none else d.bus.actionLap } }
  d.forAll ((d.rectIn [6]).filter fun r => (d.slot r).rampDone && !(d.stuck (portOf r)) && !(d.bus.place5.any fun x => x.1 == r)) fun r d =>
    if d.bus.place5 = [] then d.place true r (d.get O.shedOffset) else d

/-- Regulation at an update: pacer, freeze, integral, common trim (07 R195).
DESIGN CHOICE 11 (notes/assumptions). -/
def Device.regulate (d : Device) (vbar : Rat) : Device :=
  let b := d.bus
  let st := d.volts O.busPaceRate
  let v0 := if b.started then b.vb else vbar
  let vb := v0 + clampQ (-st) st (d.volts O.busTarget - v0)
  let fresh := !b.started
  let d := { d with bus := { b with started := true, vb := vb } }
  let d := d.when fresh Device.adoptIntegral
  let frozen : Int := b2i (d.get O.sourceClass == 0) + 2 * b2i d.tb.dev.isSome +
    4 * b2i (d.rectIn [5]).isEmpty + 8 * b2i (decide (vbar < d.volts O.regFloor))
  let e := vb - vbar
  let r := d.volts O.trimRange
  let i := if frozen = 0 then clampQ (-r) r (d.bus.integ + q1616 (d.get O.busKi) * e) else d.bus.integ
  let u := if frozen = 0 then clampQ (-r) r (q1616 (d.get O.busKp) * e + i) else i
  let d := { d with bus := { d.bus with integ := i, u := u } }
  ((((d.set O.busSetpoint (satU 32 (quant (vb * 1000000)))).set O.integralTrim (quant (i * 1000000))).set O.commonTrim
    (quant (u * 1000000))).set O.regFrozen frozen)

/-- ADDING slots that carry current enter ONLINE (07 R202 step 3). -/
def Device.addsComplete (d : Device) : Device :=
  d.forAll (d.rectIn [4]) fun r d =>
    match (d.slot r).iout with
    | some i =>
      d.when (decide (d.addCurrent r ≤ i)) fun d => ((d.setRect r 5).bump O.adds).raiseD (42 + r) 0 0x040A []
    | none => d

/-- CapacityState at an update (07 R207). -/
def Device.capacityStateNow (d : Device) : Device :=
  let full := (d.rectIn [7, 8, 9, 10]).isEmpty && !([0, 1, 2, 3].any d.stuck)
  d.set O.capacityState (if full then 0 else 1)

/-- The samples of the bus pass the notch, which a disabled one does unchanged; V̄ is the mean, in V, of its outputs over
the last BusMeasWindow au (07 R194).
DESIGN CHOICE 59 (notes/assumptions). -/
def Device.busMeasure (d : Device) (l : List (Int × Nat)) : Device × Rat :=
  let v := d.get O.busNotch
  let y := l.foldl (fun (a : List (Rat × Nat) × Rat × Rat) x =>
    let n := notch v a.2.1 a.2.2 ((x.1 : Rat) / 1000000)
    ((n.1, x.2) :: a.1, n.2.1, n.2.2)) ([], d.bus.w1, d.bus.w2)
  let w := (y.1.filter fun x => decide (x.2 < d.getN O.busMeasWindow)).map (·.1)
  ({ d with bus := { d.bus with w1 := y.2.1, w2 := y.2.2 } }, quot w.sum w.length)

/-- The sharing update at a firing of slot 1, with the bus mean V̄ in V (07 R187, R194–R207, 10 R269).
DESIGN CHOICE 59 (notes/assumptions). -/
def Device.sharingUpdate (d : Device) (vbar : Rat) : Device :=
  if d.scActive then
    let d := ({ d with bus := { d.bus with vbar := some vbar } }).set O.busMean (satU 32 (quant (vbar * 1000000)))
    let d := d.set O.rectPower (satU 32 (quant (mean (d.bus.powers.take (d.getN O.avgLaps)))))
    let d := d.when (d.flag O.rectEnable) fun d =>
      let d := ((d.dropFixed.lapOfSlots.lapsePlaces).addsComplete.regulate vbar).sharing.shedRamps
      let d := (d.policy.restartsDue).fixedWork
      d.forAll (List.range 32) fun r d => d.modSlot r fun x => { x with iout := none }
    let d := d.capacityStateNow.rectCounts
    d.when (d.flag O.holdupEnable && d.get O.holdupState == 0 &&
        decide (d.volts O.holdupThreshold + d.volts O.armHysteresis ≤ vbar)) fun d =>
        (d.setFlag O.busArmed true).modHold fun h => { h with lowRuns := List.replicate 20 0 }
  else d

/-- A firing of slot 4 or 5: the OPERATION write of its placement (07 R201–R203, 10 R280, R282). -/
def Device.placementFires (d : Device) (five : Bool) : Device :=
  let lap := d.lap
  let l := if five then d.bus.place5 else d.bus.place4
  let d := { d with bus := if five then { d.bus with place5 := l.filter fun x => x.2 != lap }
                           else { d.bus with place4 := l.filter fun x => x.2 != lap } }
  match l.find? fun x => x.2 == lap with
  | none => d
  | some (r, _) =>
    if d.pbWrites (portOf r) = false then d
    else
      let st := d.rectSt r
      let quietLaps := match d.bus.lastOp with
        | some o => decide (o + 1 < lap)
        | none => true
      let others := d.forAll (List.range 32) fun q d => d.modSlot q fun x => { x with pairBefore := none }
      let others := { others with bus := { others.bus with lastOp := some lap } }
      if (st = 3 ∧ five = false ∧ d.get O.batonHolder = 0) ∨ (st = 7 ∧ d.hold.restarts = true) then
        let d := (others.pbNow r 0x01 [0x80]).setRect r 4
        if d.pairOf r = 0 ∧ quietLaps = true then
          let before := d.bus.rms.headD []
          d.modSlot r fun x => { x with pairBefore := some (lap, before) }
        else d
      else if st = 6 ∧ five = true then
        let d := ((others.pbNow r 0x01 [0x40]).setRect r 3).bump O.sheds
        (d.modSlot r fun x => { x with offLap := some lap, rampDone := false }).raiseD (42 + r) 0 0x040B []
      else d

/-- The line pair that a step of the line currents tells: code, or 0 where it stays unknown (07 R193). -/
def Device.pairFrom (d : Device) (before after : List Rat) : Nat :=
  let x := fun i => after.getD i 0 - before.getD i 0
  let a := x 0
  let b := x 1
  let c := x 2
  let hi := max a (max b c)
  let lo := min a (min b c)
  if d.get O.sourceClass = 3 then 5
  else if hi < (d.get O.pairIdentMin : Rat) / 10 then 0
  else if 3 / 4 * hi ≤ lo then 4
  else if lo ≤ 1 / 4 * ((a + b + c - lo) / 2) then
    if lo = c then 1 else if lo = a then 2 else 3
  else 0

/-- The fourth lap after an add has ended: the line pair is identified (07 R193). -/
def Device.identifyPairs (d : Device) (ended : Nat) : Device :=
  d.forAll (List.range 32) fun r d =>
    match (d.slot r).pairBefore with
    | some (l, before) =>
      if ended = l + 4 then
        let p := d.pairFrom before (d.bus.rms.headD [])
        (d.modSlot r fun x => { x with pairBefore := none }).set (O.linePair r) p
      else d
    | none => d

end Sys2Proof.Machine
end

