-- ==== Sys2Proof/Machine/StrOps.lean ====
section
/-! DEFINITION. Strings, chargers and gauge: the string gate's policy, the charge cycle, the OCV model, anchors,
learned records and hold-up seconds (08 R212–R239, 09 R240–R265). -/

namespace Sys2Proof.Machine

/-- The string of a number. -/
def Device.str (d : Device) (n : Nat) : Str := d.strings.getD n Str.reset
/-- The block with one string changed. -/
def Device.modStr (d : Device) (n : Nat) (f : Str → Str) : Device := { d with strings := modAt d.strings n f }
/-- StringState (08 R218). -/
def Device.strSt (d : Device) (n : Nat) : Nat := d.getN (O.stringState n)
/-- The string is present: neither DISABLED, ABSENT nor IDENTIFYING (09 R248). -/
def Device.present (d : Device) (n : Nat) : Bool := decide (3 ≤ d.strSt n)
/-- The string is in a charge state (08 R218). -/
def Device.charging (d : Device) (n : Nat) : Bool := d.strCharges n
/-- The channel is paused by an unruled hold-up early start (08 R234): its string is in a charge state. -/
def Device.chargePaused (d : Device) (n : Nat) : Bool := d.hold.es.isSome && d.charging n
/-- GE runs. -/
def Device.geRuns (d : Device) : Bool := d.live && d.runs engGE
/-- Fault block of a string. -/
def strBlock (n : Nat) : Nat := 38 + n
/-- Diode gate of a string (06). -/
def strGate (n : Nat) : Nat := 2 + n

/-- The policy's force of a string gate (08 R232). -/
def Device.strForced (d : Device) (n : Nat) : Bool :=
  !(d.present n) || d.flag (O.cutoffHold n) || (d.str n).hotOff

/-- The string gate follows the policy (08 R232). -/
def Device.strGatePolicy (d : Device) (n : Nat) : Device :=
  let has := bit (d.get (O.forceOffCause (strGate n))) 2
  if d.strForced n then d.when (!has) fun d => d.gateForce (strGate n) 2
  else d.when has fun d => d.gateRelease (strGate n) 2

/-- The charge ends here: the channel stops, its set-points and causes are 0. -/
def Device.chargeStop (d : Device) (n : Nat) : Device :=
  (((d.chargerOff n).modStr n fun x => { x with ir := 0, iset := 0 }).set (O.chargeSetpoint n) 0).set (O.suspendCause n) 0

/-- A reset of the criteria of R228. -/
def Device.chargeReset (d : Device) (n : Nat) : Device :=
  d.modStr n fun x => { x with vPk := none, negRun := 0, riseRun := 0, sinceReset := 0, isetAtReset := x.iset }

/-- Cells of a string. -/
def Device.nCells (d : Device) (n : Nat) : Rat := (d.get (O.cellCount n) : Rat)

/-- Point of the OCV table in V per cell (09 R246). -/
def Device.ocvPoint (d : Device) (i : Nat) : Rat := (field (d.get O.ocvTable) (2 * i) 2 : Rat) / 1000
/-- Segment of the OCV table that holds a state of charge; the end segments beyond the ends. -/
def ocvSegment (s : Rat) : Nat := min 9 (s * 10).floor.toNat
/-- Slope of the table at a state of charge, in V per unit (09 R248). -/
def Device.ocvSlope (d : Device) (s : Rat) : Rat :=
  (d.ocvPoint (ocvSegment s + 1) - d.ocvPoint (ocvSegment s)) * 10
/-- The table at a state of charge (09 R246). -/
def Device.ocvTab (d : Device) (s : Rat) : Rat :=
  if s ≤ 0 then d.ocvPoint 0 else if 1 ≤ s then d.ocvPoint 10
  else d.ocvPoint (ocvSegment s) + d.ocvSlope s * (s - (ocvSegment s : Rat) / 10)
/-- Temperature term of the OCV in V per cell (09 R246). -/
def Device.ocvTemp (d : Device) (n : Nat) : Rat :=
  (d.get O.ocvTempCoef : Rat) / 1000000 * ((d.str n).temp - 25)
/-- OCV(s, T_s) of a string's cell (09 R246). -/
def Device.ocv (d : Device) (n : Nat) (s : Rat) : Rat := d.ocvTab s + d.ocvTemp n
/-- Table inverse: the state of charge of a voltage per cell at 25 °C (09 R253, R256). -/
def Device.ocvInv (d : Device) (v : Rat) : Rat :=
  if v ≤ d.ocvPoint 0 then 0
  else match (List.range 10).find? fun i => decide (v < d.ocvPoint (i + 1)) with
    | some i => ((i : Rat) + (v - d.ocvPoint i) / (d.ocvPoint (i + 1) - d.ocvPoint i)) / 10
    | none => 1

/-- Temperature in °C of a voltage of STHn in V: R_T against the pull-up of 10 kΩ to 1.8 V, and the law of R214. -/
def Device.thermTemp (d : Device) (v : Rat) : Rat :=
  let r := 10000 * quot v (9 / 5 - v)
  quot 1 (Config.ln (r / (d.get O.thermNominal : Rat)) / (d.get O.thermBeta : Rat) + 100 / 29815) - 27315 / 100

/-- STHn between its limits of short and open, in µV (08 R214). -/
def thermIn (v : Int) : Bool := decide (36000 ≤ v) && decide (v ≤ 1764000)

/-- The mean temperature of samples of STHn in µV: of those between the limits (08 R214).
DESIGN CHOICE 189 (notes/assumptions). -/
def Device.meanTemp (d : Device) (l : List Int) : Option Rat :=
  let ok := l.filter thermIn
  if ok = [] then none else some (mean (ok.map fun v => d.thermTemp ((v : Rat) / 1000000)))

/-- Temperature factor of the resistance (09 R247, R251). -/
def Device.resFactor (d : Device) (n : Nat) : Rat :=
  max (1 / 2) (1 + (d.get O.resistanceTempCoef : Rat) / 1000000 * (25 - (d.str n).temp))
/-- R_s in Ω, as formed at the last lap boundary (09 R247, R248).
DEDUCED 61 (notes/assumptions). -/
def Device.rs (d : Device) (n : Nat) : Rat := (d.str n).rs
/-- The last 1 s mean of V_str in V; before the first one, the mean of the samples so far.
DESIGN CHOICE 188 (notes/assumptions). -/
def Device.vSec (d : Device) (n : Nat) : Rat :=
  let w := (d.str n).watch
  let y := w.last.getD w.sec
  quot y.v y.n
/-- ns of the present lap that have passed.
DESIGN CHOICE 191 (notes/assumptions). -/
def Device.intoLap (d : Device) : Nat := d.now % 65536 * d.tb.lapDur / 65536
/-- ns in the charge state (08 R229). -/
def Device.elapsedNow (d : Device) (n : Nat) : Int := (d.str n).elapsed + d.intoLap
/-- σ_v in V (09 R248). -/
def Device.sigmaV (d : Device) : Rat := (d.get O.measNoise : Rat) / 1000
/-- InitialSocSigma as a fraction. -/
def Device.sigma0 (d : Device) : Rat := (d.get O.initialSocSigma : Rat) / 10000

/-- Q_int in µAs (09 R243). -/
def Str.qInt (x : Str) : Int := x.qStored + x.acc
/-- Q_c in µAs (09 R244). -/
def Str.qc (x : Str) : Int := x.qInt + x.aSum
/-- SoC_c (09 R244). -/
def Str.socC (x : Str) : Rat := (x.qc : Rat) / 1000000 / x.cl
/-- HoldupSoC (09 R255). -/
def Str.socHold (x : Str) : Rat := min x.socC x.soc

/-- The greater of CutoffRelease and V_eod + 50 mV, per cell (08 R233). -/
def Device.vRelease (d : Device) (n : Nat) : Rat :=
  max ((d.get (O.cutoffRelease n) : Rat) / 1000) (max 1 (33 / d.nCells n) + 5 / 100)
/-- V_eod per cell (08 R233). -/
def Device.vEod (d : Device) (n : Nat) : Rat := max 1 (33 / d.nCells n)

/-- Q_u of R256 in As. -/
def Device.usable (d : Device) (n : Nat) : Rat :=
  let x := d.str n
  let cut := max 0 (d.ocvInv (d.vEod n - d.ocvTemp n))
  max 0 (x.socHold - cut) * x.cl

/-- SocValid (09 R250). -/
def Device.socOk (d : Device) (n : Nat) : Bool := d.present n && d.geRuns && (d.str n).ready

/-- The gauge objects follow the gauge's state (09 R265); SocSigma keeps its default until the filter first starts, and V_eod
is shown in whole mV as R233 rounds it. -/
def Device.gaugeShow (d : Device) (n : Nat) : Device :=
  let x := d.str n
  let d := (d.setFlag (O.socValid n) (d.socOk n)).set (O.stateOfCharge n) (satU 16 (quant (x.soc * 10000)))
  let d := (d.set (O.chargeSoC n) (satS 16 (quant (x.socC * 10000)))).set (O.holdupSoC n)
    (satU 16 (quant (x.socHold * 10000)))
  let d := (d.set (O.coulombIntegral n) x.qInt).set (O.anchorSum n) x.aSum
  let d := (d.set (O.learnedCapacity n) (satU 32 (quant (x.cl / 36 * 10)))).set (O.resistanceInUse n)
    (satU 32 (quant (d.rs n * 1000000)))
  let d := (d.set (O.resistance25 n) (satU 32 (quant (x.r25 * 1000000)))).set (O.polarizationVoltage n)
    (satS 32 (quant (x.vp * 1000000)))
  let d := d.when (decide (x.p22 ≠ 0)) fun d => d.set (O.socSigma n) (satU 16 (quant (Config.sqrt x.p11 * 10000)))
  (d.set (O.usableCharge n) (satU 32 (quant (d.usable n / 36 * 10)))).set (O.cutoffVoltage n) (satU 16 (roundQ (d.vEod n * 1000)))

/-- The learned capacity after an anchor that closes a span (09 R254): the new C_L, if the span is used. -/
def Device.learnCap (d : Device) (n : Nat) (sa : Rat) : Option Rat :=
  let x := d.str n
  match x.span with
  | none => none
  | some (s0, qin, qout) =>
    let eta := q15 (d.get O.chargeEfficiency)
    let net := qout - eta * qin
    if (d.get O.capLearnMinSpan : Rat) / 10000 ≤ |sa - s0| ∧ eta * qin ≤ 1 / 10 * |net| ∧ sa < s0 then
      let obs := net / (s0 - sa)
      let r := (d.get (O.ratedCapacity n) : Rat) * 3600
      some (clampQ (r / 2) (11 / 10 * r) (x.cl + (obs - x.cl) / 4))
    else none

/-- An anchor (09 R252, R254): cause 0 rest, 1 full, 2 insertion, with s_a and σ_a. -/
def Device.anchor (d : Device) (n cause : Nat) (sa sigma : Rat) : Device :=
  let x := d.str n
  let dA := quant (sa * x.cl * 1000000) - x.qc
  let socBefore := x.socC
  let learned := if cause = 2 then none else d.learnCap n sa
  let d := d.modStr n fun x =>
    { x with
      aSum := x.aSum + dA, soc := sa, vp := 0, p11 := sigma * sigma, anchored := true
      lastAnchor := (quant (sa * 10000)).toNat
      span := if cause = 2 then none else some (sa, 0, 0) }
  let d := match learned with
    | some c =>
      ((d.modStr n fun x => { x with cl := c, capLearned := true, capUpdates := x.capUpdates + 1 }).bump
        (O.capacityUpdates n)).set (O.learnedSource n) 2
    | none => d
  let d := ((d.bump (O.anchorCount n)).stampAt (O.lastAnchorStamp n)).setFlag (O.disagree n) false
  (d.gaugeShow n).raiseD (strBlock n) 0 0x0505
    (leBytes 1 cause ++ [0, 0, 0] ++ leBytes 8 (quant ((dA : Rat) / 1000)) ++
      leBytes 2 (satS 16 (quant (socBefore * 10000))) ++ leBytes 2 (quant (sa * 10000)))

/-- The filter starts: s = SoC_c with InitialSocSigma, V_p 0, P_22 = σ_v² (09 R258, R263).
DEDUCED 61 (notes/assumptions). -/
def Device.filterStart (d : Device) (n : Nat) : Device :=
  let s0 := d.sigma0
  let sv := d.sigmaV
  d.modStr n fun x =>
    { x with soc := x.socC, vp := 0, p11 := s0 * s0, p12 := 0, p21 := 0, p22 := sv * sv }

/-- C_L and R_25 as configured (09 R258, R261). -/
def Device.unlearn (d : Device) (n : Nat) : Device :=
  let c : Rat := (d.get (O.ratedCapacity n) : Rat) * 3600
  let r : Rat := (d.get (O.initialResistance n) : Rat) / 100000
  (d.modStr n fun x => { x with cl := c, r25 := r, capLearned := false, resLearned := false, capUpdates := 0 }).set
    (O.learnedSource n) 0

/-- An insertion anchor from the 1 s mean of V_str in V (09 R253). -/
def Device.insertionAnchor (d : Device) (n : Nat) (v : Rat) : Device :=
  d.anchor n 2 (d.ocvInv (v / d.nCells n - d.ocvTemp n)) d.sigma0

/-- What GE makes of an identity: with the one held the restored values stand; another, or none, takes the configured ones
and an insertion anchor from the 1 s mean of V_str then (09 R253, R258). -/
def Device.gaugeIdentify (d : Device) (n : Nat) (same : Bool) (v : Rat) : Device :=
  let d := d.modStr n fun x => { x with due := none }
  if same then
    (((d.filterStart n).modStr n fun x => { x with ready := true }).set (O.learnedSource n) 1).gaugeShow n
  else
    (((d.unlearn n).filterStart n).modStr n fun x => { x with ready := true }).insertionAnchor n v

/-- The identity of a string is settled: 0 for an anonymous one (08 R216, 09 R258). While GE does not run its part waits for
it (R263). A charger fault that has not been acknowledged stands over a removal (08 R218).
DESIGN CHOICE 64, 190 (notes/assumptions). -/
def Device.identified (d : Device) (n id : Nat) : Device :=
  let x := d.str n
  let same := decide (id ≠ 0) && decide (id = x.held) && (x.due.map (·.1)).getD true
  let v := d.vSec n
  let d := (d.modStr n fun x =>
    { x with reading := false, fails := 0, anonymous := id == 0, held := id, ready := false, span := none
             rested := false, due := some (same, v) }).set (O.stringIdentity n) id
  let d := d.when (d.strSt n == 2) fun d => d.setString n (if d.get (O.chargerFault n) = 0 then 3 else 9)
  (d.strGatePolicy n).when d.geRuns fun d => d.gaugeIdentify n same v

/-- What a write-back of a string would hold, but sequence and stamp (09 R257, R259).
DESIGN CHOICE 63 (notes/assumptions). -/
def Device.learnedNow (d : Device) (n : Nat) : Learned :=
  let x := d.str n
  let anon := x.anonymous
  { seq := 0, identity := x.held, qInt := x.qInt, aSum := x.aSum
    cl := if anon then d.get (O.ratedCapacity n) * 1000 else quant (x.cl / 36 * 10)
    r25 := if anon then d.get (O.initialResistance n) * 10 else quant (x.r25 * 1000000)
    lastAnchor := if anon then 0 else x.lastAnchor
    capUpdates := if anon then 0 else min 65535 x.capUpdates
    flags := (if x.capLearned && !anon then 1 else 0) + (if x.resLearned && !anon then 2 else 0) +
      (if d.present n then 0 else 4)
    stamp := 0, powerOns := d.getN O.powerOnCount, damaged := false }

/-- A slot that can be restored: written, with a matching CRC (09 R258). -/
def Learned.ok (r : Learned) : Bool := !r.damaged && r.seq != 0

/-- Slot A or B of a string in MRAM. -/
def Device.learnedSlot (d : Device) (n j : Nat) : Learned := d.mram.learned.getD (2 * n + j) Learned.blank
/-- The newest valid slot of a string: 0 A, 1 B (09 R258). -/
def Device.newest (d : Device) (n : Nat) : Option Nat :=
  let a := d.learnedSlot n 0
  let b := d.learnedSlot n 1
  if a.ok && b.ok then some (if a.seq < b.seq then 1 else 0)
  else if a.ok then some 0 else if b.ok then some 1 else none

/-- The write-back of a string: to the slot that is not the newest, with the next sequence (09 R259); deferred and
counted during a brown-out warning (09 R260).
DESIGN CHOICE 79 (notes/assumptions). -/
def Device.writeBack (d : Device) (n : Nat) : Device :=
  if d.sys.brownOut then
    d.when (!(d.str n).deferred) fun d =>
      (d.modStr n fun x => { x with deferred := true }).bump O.writeBacksDeferred
  else
    let now := d.now
    let base := d.learnedNow n
    let j := match d.newest n with
      | some i => 1 - i
      | none => 0
    let seq := match d.newest n with
      | some i => (d.learnedSlot n i).seq + 1
      | none => 1
    let r := { base with seq := seq, stamp := now }
    let d := { d with mram := { d.mram with learned := modAt d.mram.learned (2 * n + j) fun _ => r } }
    ((d.modStr n fun x => { x with written := base, deferred := false }).bump O.writeBacks).bump O.mramWrites

/-- The write-back of a lap boundary: where any field other than the stamp has changed (09 R259). -/
def Device.writeBackIfChanged (d : Device) (n : Nat) : Device :=
  d.when ((d.str n).written != d.learnedNow n) fun d => d.writeBack n

/-- A record of MRAM with its CRC-32C. Of a damaged one nothing is known but that its CRC does not match: free.
DESIGN CHOICE 63 (notes/assumptions). -/
def withCrc (damaged : Bool) (b : List Byte) : List Byte :=
  if damaged then
    let n := b.length
    let x := Config.damagedBytes b
    fit n x ++ leBytes 4 ((crc32c (fit n x) + 1 + ofLe (x.drop n) % (2 ^ 32 - 1) : Nat) % 2 ^ 32 : Nat)
  else b ++ leBytes 4 (crc32c b)

/-- Bytes of a learned record (09 R257); the stored bytes of a damaged slot are not known, but that its CRC does not match.
DESIGN CHOICE 63 (notes/assumptions). -/
def Learned.bytes (r : Learned) : List Byte :=
  if r.seq = 0 then List.replicate 64 0
  else
    let b := leBytes 8 r.seq ++ leBytes 8 r.identity ++ leBytes 8 r.qInt ++ leBytes 8 r.aSum ++ leBytes 4 r.cl ++
      leBytes 4 r.r25 ++ leBytes 2 r.lastAnchor ++ leBytes 2 r.capUpdates ++ leBytes 2 r.flags ++ [0, 0] ++
      leBytes 8 r.stamp ++ leBytes 4 r.powerOns
    withCrc r.damaged b

/-- A string is removed (08 R217, 09 R259): charger off, gate forced OFF, gauge frozen, ABSENT, a notice and the
removal's write-back, which waits for GE where it does not run (09 R263). -/
def Device.strRemoved (d : Device) (n : Nat) : Device :=
  let d := (d.chargeStop n).setString n 1
  let d := (d.modStr n fun x =>
    { x with reading := false, fails := 0, tripped := false, ready := false, span := none, rested := false
             restDue := none, watch := { x.watch with rest := 0 } }).strGatePolicy n
  let d := ((d.set (O.stringIdentity n) 0).bump (O.removals n)).raiseD (strBlock n) 0 0x0501 []
  let d := d.setFlag (O.socValid n) false
  if d.geRuns then d.writeBack n else d.modStr n fun x => { x with deferred := true }

/-- A qualified string: IDENTIFYING, and its identity is read (08 R216). -/
def Device.strQualified (d : Device) (n : Nat) : Device :=
  ((d.setString n 2).modStr n fun x => { x with reading := true, fails := 0, tripped := false }).emit (.note 215 [n])

/-- A cause suspends a string in a charge state (08 R231). -/
def Device.suspend (d : Device) (n b : Nat) : Device :=
  if d.charging n then
    let st := d.strSt n
    let d := ((d.chargeStop n).modStr n fun x => { x with left := st }).setString n 8
    d.set (O.suspendCause n) (2 ^ b)
  else d.when (d.strSt n == 8) fun d => d.setBitOf (O.suspendCause n) b

/-- Entry to a charge state from outside the charge states or from another of them (08 R227–R230). -/
def Device.enterCharge (d : Device) (n st : Nat) : Device :=
  let into := d.intoLap
  let d := ((d.setString n st).modStr n fun x =>
    { x with elapsed := -(into : Int), watch := { x.watch with qualify := 0, atMax := 0, low := 0 } }).set (O.stateElapsed n) 0
  let d := d.when (st == 5) fun d => (d.chargeReset n).modStr n fun x => { x with temps := [] }
  d.when (st == 7) fun d => d.modStr n fun x => { x with qMaintain := x.qInt }

/-- Current of a charge state in A (08 R223). -/
def Device.stateCurrent (d : Device) (n st : Nat) : Rat :=
  let o := match st with
    | 4 => d.get (O.qualifyCurrent n)
    | 5 => d.get (O.fastCurrent n)
    | 6 => d.get (O.topoffCurrent n)
    | _ => d.get (O.maintainCurrent n)
  (o : Rat) / 10

/-- Factor of the temperature window (08 R225). -/
def Device.tempFactor (d : Device) (n : Nat) : Rat :=
  match d.getN (O.tempWindow n) with
  | 1 => q15 (d.get O.coolFrac)
  | 2 => 1
  | 3 => q15 (d.get O.warmFrac)
  | _ => 0

/-- The temperature window from T_s: away from NORMAL at the boundary, towards it a hysteresis inside (08 R225). -/
def Device.windowOf (d : Device) (n : Nat) (t : Rat) : Int :=
  let c := d.getN (O.tempWindow n)
  let h : Rat := d.get O.tempHysteresis
  let cold : Rat := d.get O.coldLimit
  let cool : Rat := d.get O.coolLimit
  let warm : Rat := d.get O.warmLimit
  let hot : Rat := d.get O.hotLimit
  if t < cold ∨ (c = 0 ∧ t < cold + h) then 0
  else if t < cool ∨ (c ≤ 1 ∧ t < cool + h) then 1
  else if hot ≤ t ∨ (c = 4 ∧ hot - h < t) then 4
  else if warm ≤ t ∨ (3 ≤ c ∧ warm - h < t) then 3
  else 2

/-- The lap's means from the gauge samples; a lap without a sample leaves them as they were.
DESIGN CHOICE 188 (notes/assumptions). -/
def Device.sumsLap (d : Device) (n : Nat) : Device :=
  d.modStr n fun x =>
    let y := x.watch.lap
    let z := { x with idMax := x.watch.idPeak, watch := { x.watch with lap := .zero, idPeak := 0 } }
    if y.n = 0 then z else { z with vLap := y.v / y.n, iLap := y.i / y.n }

/-- P_L of the lap that ends (09 R256 step 1).
DESIGN CHOICE 188 (notes/assumptions). -/
def Device.loadLap (d : Device) : Device :=
  let h := d.hold
  { d with hold := { h with loadSum := 0, loadN := 0, load := if h.loadN = 0 then h.load else h.loadSum / h.loadN } }

/-- The temperature of a string at a lap boundary, R_s, and what follows from them (08 R214, R225, R232, R238, 09 R248).
DESIGN CHOICE 60, 62 (notes/assumptions). -/
def Device.strLap (d : Device) (n : Nat) (therm : List Int) : Device :=
  let t := (d.meanTemp therm).getD (d.str n).temp
  let h : Rat := d.get O.tempHysteresis
  let lim : Rat := d.get O.dischargeHotLimit
  let d := d.set (O.tempWindow n) (d.windowOf n t)
  let d := d.modStr n fun x => { x with temp := t, hotOff := decide (lim ≤ t) || (x.hotOff && decide (lim - h < t)) }
  let d := d.modStr n fun x => { x with rs := x.r25 * d.resFactor n }
  (d.set (O.temperature n) (satS 16 (quant (t * 10)))).strGatePolicy n

/-- The source row (08 R224). -/
def Device.sourceRowOf (d : Device) : Nat :=
  let c := d.get O.sourceClass
  if d.get O.batonHolder = 1 ∨ c = 0 then 4
  else if c = 3 then 3 else if c = 2 then 2 else if d.get O.capacityState = 1 then 1 else 0

/-- I_in of the source row in A (08 R224). -/
def Device.inputLimitNow (d : Device) : Rat :=
  let r := d.getN O.sourceRow
  if 4 ≤ r then 0 else (d.get (O.inputLimit r) : Rat) / 10

/-- The charge state that counts for a string's demand: its own, or the one a suspension has left (08 R226). -/
def Device.chargeAs (d : Device) (n : Nat) : Option Nat :=
  if d.charging n then some (d.strSt n) else if d.strSt n = 8 then some (d.str n).left else none

/-- Demand D_n in W (08 R226). -/
def Device.demand (d : Device) (n : Nat) : Rat :=
  match d.chargeAs n with
  | some st => quot (d.stateCurrent n st * d.tempFactor n * (d.str n).vLap) (q15 (d.get O.chargerEfficiency))
  | none => 0

/-- Water-filling of the charging reserve over demands in ascending order (08 R226). -/
def waterFill : List (Nat × Rat) → Rat → List (Nat × Rat)
  | [], _ => []
  | (n, dem) :: l, left =>
    let p := min dem (left / (l.length + 1))
    (n, p) :: waterFill l (left - p)

/-- Shares P_n in W (08 R226). -/
def Device.shares (d : Device) : List (Nat × Rat) :=
  let l := ((List.range 4).filter fun n => (d.chargeAs n).isSome).map fun n => (n, d.demand n)
  if d.flag O.creditEnable then
    let pos := (l.filter fun x => decide (0 < x.2)).mergeSort fun a b => decide (a.2 ≤ b.2)
    waterFill pos (d.ledger.rc : Rat) ++ l.filter fun x => decide (x.2 ≤ 0)
  else l

/-- Causes of a suspension at a lap boundary (08 R221, R231), with the bus's lap mean in V. -/
def Device.causes (d : Device) (n : Nat) (vbus share : Rat) : Int :=
  let w := d.get (O.tempWindow n)
  let x := d.str n
  b2i (w == 0) + 2 * b2i (w == 4) + 4 * b2i (decide (d.inputLimitNow = 0)) +
    8 * b2i (decide (97 / 100 * vbus < x.vLap) || decide (vbus < 32) || decide (60 < vbus)) +
    16 * b2i (decide (share = 0) && decide (d.demand n ≠ 0)) +
    32 * b2i (d.get O.activeShelfCore == 0xFF) +
    64 * b2i (d.flag (O.conducting (strGate n)) && decide (1 < x.idMax))

/-- The set-point of a string in a charge state (08 R223).
DESIGN CHOICE 192 (notes/assumptions). -/
def Device.setpointOf (d : Device) (n : Nat) (vbus share : Rat) : Rat :=
  let v := (d.str n).vLap
  let eta := q15 (d.get O.chargerEfficiency)
  min (d.stateCurrent n (d.strSt n) * d.tempFactor n)
    (min (quot (d.inputLimitNow * eta * vbus) v) (min (quot (share * eta) v) 60))

/-- Entry to the first charge state (08 R227). -/
def Device.chargeStart (d : Device) (n : Nat) : Device :=
  if d.strSt n = 3 ∧ d.flag O.chargeEnable = true ∧ d.flag (O.stringEnable n) = true then
    let x := d.str n
    if d.socOk n = true ∧ 95 / 100 ≤ x.socHold then d.enterCharge n 7
    else if x.vLap / d.nCells n < (d.get (O.qualifyVoltage n) : Rat) / 1000 ∧ |x.iLap| < 1 then d.enterCharge n 4
    else d.enterCharge n 5
  else d

/-- The drivers of a channel are enabled, unless its output window has tripped (08 R222). -/
def Device.chargerOn (d : Device) (n : Nat) : Device :=
  d.when (!(d.str n).tripped) fun d => d.modPins fun p => { p with chDrven := modAt p.chDrven n fun _ => true }

/-- A string's charge at a lap boundary: suspension, resumption and set-point (08 R223, R228, R231).
DESIGN CHOICE 192 (notes/assumptions). -/
def Device.chargeLap (d : Device) (n : Nat) (vbus share : Rat) : Device :=
  let c := d.causes n vbus share
  if d.charging n then
    if c = 0 then
      let i := d.setpointOf n vbus share
      let old := (d.str n).isetAtReset
      let d := ((d.modStr n fun x => { x with iset := i }).set (O.chargeSetpoint n) (satU 16 (quant (i * 10)))).chargerOn n
      d.when (d.strSt n == 5 && decide (old / 20 < |i - old|)) fun d => d.chargeReset n
    else
      let st := d.strSt n
      ((((d.chargeStop n).modStr n fun x => { x with left := st }).setString n 8).set (O.suspendCause n) c)
  else if d.strSt n = 8 then
    if c = 0 then
      let d := (d.setString n (d.str n).left).set (O.suspendCause n) 0
      let i := d.setpointOf n vbus share
      let d := ((d.modStr n fun x => { x with iset := i, temps := [] }).set (O.chargeSetpoint n) (satU 16 (quant (i * 10)))).chargerOn n
      d.chargeReset n
    else d.set (O.suspendCause n) c
  else d

/-- Time in the charge state at a lap boundary, shown in whole seconds passed (08 R229, R238).
DESIGN CHOICE 191 (notes/assumptions). -/
def Device.chargeTime (d : Device) (n ns : Nat) : Device :=
  if d.charging n then
    let t : Int := (d.str n).elapsed + ns
    (d.modStr n fun x => { x with elapsed := t }).set (O.stateElapsed n) (max 0 (t / 1000000000))
  else d

/-- Lamp code of a string (08 R235). -/
def Device.lampOf (d : Device) (n : Nat) : Nat :=
  let st := d.strSt n
  if st ≤ 1 then 0
  else if st = 9 ∨ d.get (O.gateFault (strGate n)) ≠ 0 then 1
  else if d.flag (O.cutoffHold n) = true ∨ (d.str n).hotOff = true then 2
  else if d.flag (O.conducting (strGate n)) = true ∧ 1 ≤ (d.str n).idMax then 3
  else if st = 8 then 4
  else if st = 2 ∨ (d.str n).anonymous = true then 5
  else if st = 4 ∨ st = 5 ∨ st = 6 then 6
  else 7

/-- Green and amber lamp of a code (08 R235). -/
def lampPattern (c : Nat) : Blink × Blink :=
  match c with
  | 1 => (.off, .fast)
  | 2 => (.off, .steady)
  | 3 => (.fast, .off)
  | 4 => (.off, .slow)
  | 5 => (.slow, .slow)
  | 6 => (.slow, .off)
  | 7 => (.steady, .off)
  | _ => (.off, .off)

/-- LampCode and the lamps of a string (08 R235, R238). -/
def Device.showLamp (d : Device) (n c : Nat) : Device :=
  (d.set (O.lampCode n) c).modPins fun p => { p with lamp := modAt p.lamp n fun _ => lampPattern c }

/-- The lamps of a string at a lap boundary (08 R236). -/
def Device.lampLap (d : Device) (n : Nat) : Device :=
  let o := d.getN (O.lampOverride n)
  d.showLamp n (if o ≤ 7 then o else d.lampOf n)

/-- Contributing strings of the hold-up seconds (09 R256 step 2). -/
def Device.contributing (d : Device) : List Nat :=
  (List.range 4).filter fun n => d.socOk n && !(d.flag (O.cutoffHold n)) &&
    d.get (O.forceOffCause (strGate n)) == 0 && d.get (O.gateFault (strGate n)) == 0

/-- Hold-up seconds at a lap boundary, with the lap's P_L, and the strings that contribute to them (09 R256). -/
def Device.holdupSecondsNow (d : Device) : Device :=
  let p := max d.hold.load (d.get O.holdupMinLoad : Rat)
  let ns := d.contributing
  let mid := fun n =>
    let cut := max 0 (d.ocvInv (d.vEod n - d.ocvTemp n))
    d.nCells n * d.ocv n (((d.str n).socHold + cut) / 2)
  let ie := quot p ((ns.map mid).sum)
  let e := (ns.map fun n => d.usable n * max 0 (mid n - ie * d.rs n)).sum
  let secs : Int := if ns = [] then 0 else satU 32 (quant (e / p * 10))
  let d := { d with hold := { d.hold with energy := e, contrib := ns } }
  (d.set O.holdupSeconds secs).set O.holdupLoad (satU 32 (quant p))

/-- A rest anchor of the lap that ends is taken, unless the lap has had its full anchor (09 R253, R263).
DESIGN CHOICE 166 (notes/assumptions). -/
def Device.restLap (d : Device) (n : Nat) : Device :=
  match (d.str n).restDue with
  | none => d
  | some v =>
    let d := d.modStr n fun x => { x with restDue := none }
    let sa := d.ocvInv (v / d.nCells n - d.ocvTemp n)
    let g := d.ocvSlope sa
    d.when (d.present n && decide ((d.get O.anchorMinSlope : Rat) / 100 ≤ g)) fun d =>
      (d.anchor n 0 sa (d.sigmaV / (d.nCells n * g))).modStr n fun x => { x with rested := true }

/-- The gauge engine's work at a lap boundary, with what the lap has measured (08 R214–R236, 09 R256–R259). -/
def Device.stringsLap (d : Device) (m : LapData) : Device :=
  let ns := List.range 4
  let vbus : Rat := (m.vBus : Rat) / 1000000
  let d := (d.forAll ns fun n d => (d.chargeTime n m.duration).sumsLap n).loadLap
  let d := if d.geRuns then
      let d := d.forAll ns fun n d => (d.restLap n).strLap n (m.therm.getD n [])
      let d := d.set O.sourceRow d.sourceRowOf
      let d := d.forAll ns fun n d => d.chargeStart n
      let sh := d.shares
      let d := d.forAll ns fun n d => d.chargeLap n vbus (((sh.find? fun x => x.1 == n).getD (n, 0)).2)
      d.holdupSecondsNow.forAll ns fun n d => (d.gaugeShow n).writeBackIfChanged n
    else d
  d.forAll ns fun n d => d.lampLap n

end Sys2Proof.Machine
end

