-- ==== Sys2Proof/Machine/Orders.lean ====
section
/-! DEFINITION. The checks of a write that look at other objects: the disabled block of class Q, and the orders that
the chapters state, judged on the block as it would stand with the value in force (16 R411 steps 5 and 6, R415,
14 R364). -/

namespace Sys2Proof.Machine

/-- The block of a class-Q object counts as disabled (16 R415, 18 R470, 19 R496). A
block's own enable object is exempt. -/
def Device.quiescent (d : Device) (o : Obj) (k : Nat) : Bool :=
  let feedOff := fun j : Nat => d.feedSt j == 0
  let strings := (List.range 4).all fun n => d.strSt n == 0
  match o.id with
  | 0x201001 => !d.flag O.lineTrackEnable
  | 0x201002 => !d.flag O.lineTrackEnable
  | 0x202102 => !d.flag O.lineTrackEnable
  | 0x241000 => feedOff k
  | 0x300006 => feedOff k
  | 0x300103 => feedOff k
  | 0x302001 => feedOff k
  | 0x302007 => feedOff k
  | 0x30200c => feedOff k
  | 0x250009 => match d.feedOf k with
    | some j => feedOff j
    | none => true
  | 0x25000a => match d.feedOf k with
    | some j => feedOff j
    | none => true
  | 0x300a07 => d.get (O.linkState k) == 0
  | 0x102002 => !d.flag (O.portEnable k) || !(d.dict.portApplied.getD k false)
  | 0x102003 => !d.flag (O.portEnable k) || !(d.dict.portApplied.getD k false)
  | 0x102004 => !d.flag (O.portEnable k) || !(d.dict.portApplied.getD k false)
  | 0x102005 => !d.flag (O.portEnable k) || !(d.dict.portApplied.getD k false)
  | 0x400005 => !d.flag O.rectEnable
  | 0x401001 => !d.flag O.rectEnable
  | 0x410002 => !d.flag O.rectEnable || !d.flag (O.slotEnable k)
  | 0x480002 => !d.flag O.chargeEnable && (List.range 4).all fun n => !d.charging n
  | 0x480003 => !d.flag O.chargeEnable && (List.range 4).all fun n => !d.charging n
  | 0x48000a => strings
  | 0x48000b => strings
  | 0x481002 => d.strSt k == 0
  | 0x481003 => d.strSt k == 0
  | 0x489001 => d.strSt k == 0
  | 0x489004 => d.strSt k == 0
  | 0x500001 => !d.flag O.creditEnable
  | 0x505001 => !d.flag O.creditEnable
  | 0x150001 => !d.flag O.creditEnable
  | 0x150002 => !d.flag O.creditEnable
  | 0x150003 => !d.flag O.creditEnable
  | 0x580201 => d.get O.seqState == 0
  | 0x581001 => d.get O.seqState == 0
  | 0x581002 => d.get O.seqState == 0
  | 0x581003 => d.get O.seqState == 0
  | 0x58100b => d.get O.seqState == 0
  | 0x681002 => !d.flag (O.unitEnable k)
  | 0x681003 => !d.flag (O.unitEnable k)
  | 0x681004 => !d.flag (O.unitEnable k)
  | 0x681005 => !d.flag (O.unitEnable k)
  | 0x681006 => !d.flag (O.unitEnable k)
  | 0x700002 => !d.flag O.ddrEnable
  | 0x700003 => !d.flag O.ddrEnable
  | 0x700004 => !d.flag O.ddrEnable
  | 0x710002 => !d.flag (O.laneEnable k)
  | 0x710003 => !d.flag (O.laneEnable k)
  | 0x710004 => !d.flag (O.laneEnable k)
  | 0x781002 => !d.flag O.ddrEnable
  | 0x781003 => !d.flag O.ddrEnable
  | 0x781004 => !d.flag O.pfEnable
  | 0x781005 => !d.flag O.pfEnable
  | 0x781006 => !d.flag O.pfEnable
  | 0x781100 => !d.flag O.pfEnable
  | _ => true

/-- The current limit of a cell in a feed leaves the IMON range (03 R55): zero in mV, gain in µV/A, limit in 0.1 A. -/
def Device.imonBad (d : Device) (k n : Nat) : Bool :=
  let z := d.get (O.imonZero n)
  decide (z < 100) || decide (11500000 < z * 10000 + d.get (O.imonGain n) * d.get (O.phaseLimit k))

/-- The same for every feed that names a cell in its map. -/
def Device.cellImonBad (d : Device) (n : Nat) : Bool :=
  (List.range 16).any fun k => (d.feedCells k).contains n && d.imonBad k n

/-- Worst case of a feed's over-current recovery in µs (03 R75, 12 R329). -/
def Device.feedWorst (d : Device) (k : Nat) : Int :=
  (d.get (O.hiccupTime k) + d.get (O.startTimeout k) + d.get (O.recoveryQual k)) * 1000 + 6

/-- PgTimeout of a rail in use is below the worst case of its feed (12 R329). -/
def Device.pgWorstBad (d : Device) (r : Nat) : Bool :=
  match d.railFeed r with
  | some k => decide (d.get (O.pgTimeout r) * 1000 < d.feedWorst k)
  | none => false

/-- The same for every rail that names a feed. -/
def Device.feedWorstBad (d : Device) (k : Nat) : Bool :=
  (List.range 24).any fun r => d.railFeed r == some k && d.pgWorstBad r

/-- Worst case of a tray gate's retries in ms (06 R162, 14 R364). -/
def Device.tgWorst (d : Device) (k : Nat) : Int :=
  d.get (O.tgRetries k) * (d.get (O.coolDown k) + d.get (O.inrushTimeout k))

/-- Worst case of a slot's retries in laps (07 R206, 14 R364). -/
def Device.rectWorst (d : Device) : Int :=
  d.get O.rectRetries * (d.get O.rectRetryDelay + d.get O.addSpacing + d.get O.addSettleLaps + 1)

/-- Largest sum of a quantity of the rails along any path of the graph (12 R330). -/
def Device.pathSum (d : Device) (f : Nat → Int) : Int :=
  let use := d.railsInUse
  let step := fun l : List (Nat × Int) => use.map fun r =>
    (r, f r + ((d.preds r).filterMap fun p => (l.find? fun x => x.1 == p).map (·.2)).foldl max 0)
  (((List.range 24).foldl (fun l _ => step l) []).map (·.2)).foldl max 0

/-- W of 12 R330, in ms. -/
def Device.worstNow (d : Device) : Int :=
  let u := d.pathSum fun r => d.get (O.startDelay r) + d.get (O.pgTimeout r)
  let t := d.pathSum fun r => d.get (O.stopDelay r) + d.get (O.dischargeTimeout r)
  d.get O.subtreeRetries * (t + d.get O.retryDelay + u) + d.get O.sequenceRetries * (t + d.get O.seqRetryDelay + u)

/-- The sequencer's worst case exceeds the bring-up timeout (12 R330, 16 R423). -/
def Device.worstBad (d : Device) : Bool := decide (d.get O.bringUpTimeout < d.worstNow)

/-- A rail lies on a cycle (12 R317): it follows itself through predecessors. -/
def Device.cyclic (d : Device) (r : Nat) : Bool :=
  ((List.range 24).foldl (fun l _ => l ++ ((l.flatMap d.preds).filter fun p => !l.contains p).dedup) (d.preds r)).contains r

/-- Predecessors that are wrong among the other rails (12 R317). -/
def Device.graphBad (d : Device) (r : Nat) : Bool :=
  (d.preds r).any (fun p => d.get (O.railKind p) == 0) || d.cyclic r

/-- Another rail in use names the feed of a rail, or a rail that is not used any more is listed (12 R316, R317).
DESIGN CHOICE 24 (notes/assumptions). -/
def Device.railBad (d : Device) (r : Nat) : Bool :=
  (match d.railFeed r with
    | some k => (d.railsInUse.filter fun q => q != r).any fun q => d.railFeed q == some k
    | none => false) ||
  (d.get (O.railKind r) == 0 && !((d.dependants r).filter fun q => q != r).isEmpty)

/-- Frames that a photo-finish slot holds (19 R489). -/
def Device.frameCapacity (d : Device) : Int :=
  (d.get O.pfSlotSize * 1048576 - 128) / (2 * (d.pfChannels.length : Int))

/-- The pre-trigger and post-trigger frames do not fit a slot (19 R489). -/
def Device.framesBad (d : Device) : Bool :=
  decide (d.frameCapacity < d.get O.pfPreFrames + d.get O.pfPostFrames) || d.get O.pfPostFrames == 0

/-- The DDR4 regions exceed the capacity (18 R456); without DDR4 there is no capacity to exceed. -/
def Device.regionsBad (d : Device) : Bool :=
  let mib : Int := 1048576
  d.get O.memDensity != 0 &&
    decide (16 * ddrBytes (d.get O.memDensity) < d.get O.bulkPoolSize * 17 * mib + 16 * (d.get O.historyLaps * 512) +
      16 * (d.get O.pfSlots * d.get O.pfSlotSize * mib))

/-- The quotas of the enabled lanes of a pool exceed its total (18 R460). -/
def Device.quotasBad (d : Device) : Bool :=
  decide ((d.poolTotal 0 : Int) < d.quotaSum 0) || decide ((d.poolTotal 1 : Int) < d.quotaSum 1)

/-- The orders between objects, on the block with the written value in force (16 R411 step 6). `old` is the block
before it.
DESIGN CHOICE 24, 25 (notes/assumptions). -/
def Device.ordersBad (d old : Device) (o : Obj) (k : Nat) : Bool :=
  match o.id with
  | 0x241000 => old.mapBad k (d.get (O.phaseMap k)) || (d.feedCells k).any (d.imonBad k)
  | 0x250009 => d.cellImonBad k
  | 0x25000a => d.cellImonBad k
  | 0x30200d => (d.feedCells k).any (d.imonBad k)
  | 0x302002 => decide (d.get (O.onTimeMax k) < d.get (O.onTimeMin k))
  | 0x302003 => decide (d.get (O.onTimeMax k) < d.get (O.onTimeMin k))
  | 0x302015 => decide (d.get (O.deExit k) ≤ d.get (O.deEntry k))
  | 0x302016 => decide (d.get (O.deExit k) ≤ d.get (O.deEntry k))
  | 0x302012 => d.feedWorstBad k
  | 0x302013 => d.feedWorstBad k
  | 0x300005 => d.feedWorstBad k
  | 0x300703 => decide (d.get (O.addLevel k) < 2 * d.get (O.shedLevel k))
  | 0x300704 => decide (d.get (O.addLevel k) < 2 * d.get (O.shedLevel k))
  | 0x300c04 => decide (d.get (O.tgOvLevel k) ≤ d.get (O.tgUvLevel k))
  | 0x300c05 => decide (d.get (O.tgOvLevel k) ≤ d.get (O.tgUvLevel k))
  | 0x300c0a => decide (d.get (O.foldbackDrop k) ≤ d.get (O.inrushDoneDrop k))
  | 0x300c0b => decide (d.get (O.foldbackDrop k) ≤ d.get (O.inrushDoneDrop k))
  | 0x300c09 => decide (d.get O.waitTimeout < d.tgWorst k)
  | 0x300c0e => decide (d.get O.waitTimeout < d.tgWorst k)
  | 0x300c0f => decide (d.get O.waitTimeout < d.tgWorst k)
  | 0x120002 => (List.range 16).any fun j => decide (d.get O.waitTimeout < d.tgWorst j)
  | 0x470001 => decide (d.get (O.onThreshold k) ≤ d.get (O.regDrop k)) || decide (d.get (O.regDrop k) ≤ d.get (O.revThreshold k))
  | 0x470002 => decide (d.get (O.onThreshold k) ≤ d.get (O.regDrop k)) || decide (d.get (O.regDrop k) ≤ d.get (O.revThreshold k))
  | 0x470003 => decide (d.get (O.onThreshold k) ≤ d.get (O.regDrop k)) || decide (d.get (O.regDrop k) ≤ d.get (O.revThreshold k))
  | 0x400105 => decide (d.get O.trimWindow < d.get O.trimRange + d.get O.shareClamp)
  | 0x400106 => decide (d.get O.trimWindow < d.get O.trimRange + d.get O.shareClamp)
  | 0x400302 => decide (d.get O.trimWindow < d.get O.trimRange + d.get O.shareClamp)
  | 0x400401 => decide (d.get O.addFrac ≤ d.get O.shedFrac)
  | 0x400402 => decide (d.get O.addFrac ≤ d.get O.shedFrac)
  | 0x400406 => decide (d.get O.returnLaps < d.rectWorst)
  | 0x40040e => decide (d.get O.returnLaps < d.rectWorst)
  | 0x400410 => decide (d.get O.returnLaps < d.rectWorst)
  | 0x400411 => decide (d.get O.returnLaps < d.rectWorst)
  | 0x21000d => decide (d.get O.returnLaps < d.rectWorst)
  | 0x48000d => !(decide (d.get O.coldLimit < d.get O.coolLimit) && decide (d.get O.coolLimit < d.get O.warmLimit) && decide (d.get O.warmLimit < d.get O.hotLimit))
  | 0x48000e => !(decide (d.get O.coldLimit < d.get O.coolLimit) && decide (d.get O.coolLimit < d.get O.warmLimit) && decide (d.get O.warmLimit < d.get O.hotLimit))
  | 0x48000f => !(decide (d.get O.coldLimit < d.get O.coolLimit) && decide (d.get O.coolLimit < d.get O.warmLimit) && decide (d.get O.warmLimit < d.get O.hotLimit))
  | 0x480010 => !(decide (d.get O.coldLimit < d.get O.coolLimit) && decide (d.get O.coolLimit < d.get O.warmLimit) && decide (d.get O.warmLimit < d.get O.hotLimit))
  | 0x481014 => decide (d.get (O.chargerOvCell k) ≤ d.get (O.maxCellVoltage k))
  | 0x48100f => decide (d.get (O.chargerOvCell k) ≤ d.get (O.maxCellVoltage k))
  | 0x581001 => d.railBad k || d.pgWorstBad k || d.worstBad
  | 0x581002 => d.railBad k || d.pgWorstBad k
  | 0x581003 => d.graphBad k || d.worstBad
  | 0x581005 => decide (10 * d.get (O.pgTimeout k) ≤ d.get (O.qualTime k))
  | 0x581007 => decide (10 * d.get (O.pgTimeout k) ≤ d.get (O.qualTime k)) || d.pgWorstBad k || d.worstBad
  | 0x581008 => d.worstBad
  | 0x581009 => d.worstBad
  | 0x58100a => d.worstBad
  | 0x580002 => d.worstBad
  | 0x580003 => d.worstBad
  | 0x580004 => d.worstBad
  | 0x580005 => d.worstBad
  | 0x220002 => decide (d.get O.bringUpTimeout < d.get O.worstRecovery)
  | 0x681004 => decide (d.get (O.threshHi k) < d.get (O.threshLo k))
  | 0x681005 => decide (d.get (O.threshHi k) < d.get (O.threshLo k))
  | 0x700002 => d.regionsBad
  | 0x700003 => d.regionsBad || d.quotasBad
  | 0x700004 => d.regionsBad
  | 0x781002 => d.regionsBad
  | 0x781003 => d.regionsBad || d.framesBad
  | 0x781005 => d.framesBad
  | 0x781006 => d.framesBad
  | 0x781100 => d.framesBad
  | 0x710001 => d.quotasBad
  | 0x710002 => d.quotasBad
  | 0x710004 => d.quotasBad
  | _ => false

end Sys2Proof.Machine
end

