-- ==== Sys2Proof/Machine/Strings.lean ====
section
/-! DEFINITION. Commands of the strings and their chargers (08 R214–R237). -/

namespace Sys2Proof.Machine

/-- STRING_QUALIFIED (08 R214–R216): an ABSENT string, with STHn between its limits and SIDn at idle level for StringDeglitch,
enters IDENTIFYING and its identity is read. -/
def execStringQualified (w : StringWires) (s : State) : Host.Outcome State Fault Refusal :=
  s.next fun d => d.when (d.live && d.strSt w.n == 1 && thermIn w.sth && decide (400000 ≤ w.sid) && decide (w.sid ≤ 1400000))
    fun d => d.strQualified w.n

/-- The identity of a valid frame: the sync byte 0xA5, 8 bytes of identity, neither 0 nor all ones, and their CRC-16
(08 R215). -/
def validIdentity (frame : List Byte) : Option Nat :=
  let id := (frame.drop 1).take 8
  let v := ofLe id
  if frame.length = 11 ∧ frame.head? = some 0xA5 ∧ ofLe (frame.drop 9) = (crc16 id).toNat ∧ v ≠ 0 ∧ v ≠ 2 ^ 64 - 1 then some v
  else none

/-- IDENTITY_READ_DONE (08 R215, R216): the first byte received and the rest, none where no answer came. Three failed reads in a row make the
string anonymous; another identity is a removal and a new insertion.
DESIGN CHOICE 64 (notes/assumptions). -/
def execIdentityReadDone (n : Fin 4) (sync : Byte) (rest : List Byte) (s : State) : Host.Outcome State Fault Refusal :=
  s.run fun d => d.when (d.live && (d.str n).reading) fun d =>
    match validIdentity (sync :: rest) with
    | some i =>
      if d.strSt n = 2 then d.identified n i
      else if d.get (O.stringIdentity n) = i then d.modStr n fun x => { x with reading := false, fails := 0 }
      else (d.strRemoved n).strQualified n
    | none =>
      let f := (d.str n).fails + 1
      if 3 ≤ f ∧ (d.str n).anonymous = false ∨ 3 ≤ f ∧ d.strSt n = 2 then d.identified n 0
      else d.modStr n fun x => { x with reading := false, fails := f }

/-- IDENTITY_REREAD (08 R216): the identity is read again. -/
def execIdentityReread (n : Fin 4) (s : State) : Host.Outcome State Fault Refusal :=
  s.next fun d => d.when (d.live && decide (2 ≤ d.strSt n) && !(d.str n).reading) fun d =>
    (d.modStr n fun x => { x with reading := true }).emit (.note 215 [n])

/-- STRING_REMOVAL (08 R214, R215, R217): STHn open or short, or SIDn so outside an identity read. -/
def execStringRemoval (w : StringWires) (s : State) : Host.Outcome State Fault Refusal :=
  s.run fun d =>
    let sidOut := !(d.str w.n).reading && (decide (1600000 < w.sid) || decide (w.sid < 200000))
    d.when (d.live && decide (2 ≤ d.strSt w.n) && (!(thermIn w.sth) || sidOut)) fun d => d.strRemoved w.n

/-- On-time of a charger pulse in eu (08 R220 step 1). -/
def Device.chargerEu (d : Device) (n : Nat) : Nat :=
  let f : Rat := d.get O.chargerFreq
  (roundQ (clampQ (50 / 1000000000) (97 / 100 / f) (quot (d.str n).watch.v (d.hold.vNow * f)) * 9600000000)).toNat

/-- The channel may fire (08 R221, R222, R231, R234): its string is in a charge state with a set-point, V_str is at most 0.97 of
V_bus, V_bus inside 32–60 V, and neither the output window nor an unruled early start holds it. -/
def Device.chargerMay (d : Device) (n : Nat) : Bool :=
  let b := d.hold.vNow
  d.live && d.charging n && decide (0 < (d.str n).iset) && !(d.chargePaused n) && !(d.str n).tripped &&
    decide ((d.str n).watch.v ≤ 97 / 100 * b) && decide (32 ≤ b) && decide (b ≤ 60)

/-- The trigger of a charger pulse (08 R220 steps 2–4): with I_r at or above half the ripple, CHISn in A has fallen to the
valley; below it, the period since the last high edge, `dt` eu ago, has passed. -/
def Device.chargerTriggers (d : Device) (n dt : Nat) (i : Rat) : Bool :=
  let x := d.str n
  let l : Rat := (d.get O.chargerInductance : Rat) / 1000000
  let on : Rat := (d.chargerEu n : Rat) / 9600000000
  let rip := (d.hold.vNow - x.watch.v) * on / l
  if rip / 2 ≤ x.ir then decide (i ≤ x.ir - rip / 2 + x.delta)
  else
    let t := quot (rip * (on + quot (rip * l) x.watch.v)) (2 * x.ir)
    decide ((if x.delta = 0 then t else Config.trimmedPeriod t x.delta x.ir) ≤ (dt : Rat) / 9600000000)

/-- I_r moves towards I_set for `dt` eu; δ follows a 1 ms mean of CHISn in mA, clamped to 10% of I_r (08 R220, R223).
DESIGN CHOICE 193 (notes/assumptions). -/
def Device.chargerRamp (d : Device) (n dt : Nat) (mean : Option Int) : Device :=
  let st : Rat := (d.get O.chargeRamp : Rat) * ((dt : Rat) / 9600000000)
  d.modStr n fun x =>
    let ir := x.ir + clampQ (-st) st (x.iset - x.ir)
    let tr := match mean with
      | some m => Config.chargerTrim x.delta (ir - (m : Rat) / 1000)
      | none => x.delta
    { x with ir := ir, delta := clampQ (-(ir / 10)) (ir / 10) tr }

/-- CHARGER_FIRE (08 R220, R221): `dt` eu after the channel's previous pulse, or since it may fire again where that is
later. A pulse whose CHISn rises above ChargerPeakLimit ends early and is counted; the low side is turned off below 0.5 A.
`mean`: a 1 ms mean of CHISn in mA that has been completed. -/
def execChargerFire (n : Fin 4) (dt : Nat) (i : ChargerCurrent) (mean : Option Int) (s : State) :
    Host.Outcome State Fault Refusal :=
  s.next fun d => d.when (d.chargerMay n) fun d =>
    let r := d.chargerRamp n dt mean
    d.when (r.chargerTriggers n dt ((i.fire : Rat) / 1000)) fun _ =>
      let peak := decide (d.get O.chargerPeakLimit * 100 < i.peak)
      let d := (r.when peak fun d => d.bump (O.peakLimited n)).emit (.note 220 [n, r.chargerEu n])
      d.modPins fun p => { p with chPwm := modAt p.chPwm n fun _ => if i.low < 500 then .mid else .low
                                  chDrven := modAt p.chDrven n fun _ => true }

/-- CHARGER_WINDOW_TRIP (08 R222): in hardware, CHVOn above n × ChargerOvCell, or below 5 V while the channel fires.
Only a string that is there can be faulted by it (R237). -/
def execChargerWindowTrip (o : ChargerOutput) (s : State) : Host.Outcome State Fault Refusal :=
  s.next fun d =>
    let fires := d.pins.chDrven.getD o.n false && decide (0 < (d.str o.n).iset)
    let out := decide (d.get (O.cellCount o.n) * d.get (O.chargerOvCell o.n) * 1000 < o.chvo) ||
      (decide (o.chvo < 5000000) && fires)
    d.when (d.sys.coreRunning && out) fun d =>
      (d.chargerOff o.n).modStr o.n fun x => { x with tripped := decide (2 ≤ d.strSt o.n) }

/-- CHARGER_FAULT (08 R222): no removal has followed the trip. -/
def execChargerFault (n : Fin 4) (s : State) : Host.Outcome State Fault Refusal :=
  s.run fun d => d.when (d.live && (d.str n).tripped && decide (2 ≤ d.strSt n)) fun d =>
    (((d.modStr n fun x => { x with tripped := false, ir := 0, iset := 0 }).set (O.chargeSetpoint n) 0).stringFault n 0).raiseB
      (strBlock n) 1 0x0502 [1]

/-- CHARGER_SENSE_FAULT (08 R222): the 1 s means of the shunt and of the charger's own current have differed for 5 s. -/
def execChargerSenseFault (n : Fin 4) (s : State) : Host.Outcome State Fault Refusal :=
  s.run fun d => d.when (d.geRuns && d.charging n && decide (5 ≤ (d.str n).watch.sense)) fun d =>
    ((d.chargeStop n).stringFault n 1).raiseB (strBlock n) 1 0x0502 [2]

/-- Whole minutes in ns. -/
def minutes (v : Int) : Int := v * 60000000000

/-- QUALIFY_PASS (08 R227): V_str ÷ n has stayed at or above QualifyVoltage for 10 s. -/
def execQualifyPass (n : Fin 4) (s : State) : Host.Outcome State Fault Refusal :=
  s.next fun d => d.when (d.geRuns && d.strSt n == 4 && decide (40000 ≤ (d.str n).watch.qualify)) fun d => d.enterCharge n 5

/-- QUALIFY_TIMEOUT (08 R227). -/
def execQualifyTimeout (n : Fin 4) (s : State) : Host.Outcome State Fault Refusal :=
  s.run fun d => d.when (d.geRuns && d.strSt n == 4 && decide (minutes (d.get (O.qualifyTimeout n)) ≤ d.elapsedNow n)) fun d =>
    ((d.chargeStop n).stringFault n 2).raiseB (strBlock n) 1 0x0502 [4]

/-- Least-squares slope of values over their evaluations, one a second, per second (08 R228). -/
def slopeOf (ys : List (Nat × Rat)) : Rat :=
  let xs := ys.map fun y => (y.1 : Rat)
  let vs := ys.map (·.2)
  let mx := mean xs
  let my := mean vs
  quot ((List.zipWith (fun x y => (x - mx) * (y - my)) xs vs).sum) ((xs.map fun x => (x - mx) * (x - mx)).sum)

/-- Criteria of a backup stop, as the bits of EndCause (08 R229): the timer of the state, and V_c at or above MaxCellVoltage
for 1 s. -/
def Device.backupCauses (d : Device) (n : Nat) : Int :=
  let lim := if d.strSt n = 6 then 2 * d.get (O.topoffTime n) else d.get (O.fastTimeout n)
  4 * b2i (decide (minutes lim ≤ d.elapsedNow n)) + 8 * b2i (decide (4000 ≤ (d.str n).watch.atMax))

/-- A backup stop: MAINTAIN, EndCause with every criterion met, a notice (08 R229, R237). -/
def Device.backupNow (d : Device) (n : Nat) (causes : Int) : Device :=
  ((d.set (O.endCause n) causes).enterCharge n 7).raiseD (strBlock n) 0 0x0503 (leBytes 1 causes)

/-- One evaluation of the criteria of R228 from V_c in V and T_s in °C: the counts of both.
DESIGN CHOICE 62 (notes/assumptions). -/
def Device.evaluate (d : Device) (n : Nat) (vc t : Rat) : Device :=
  let x := d.str n
  let pk := max vc (x.vPk.getD vc)
  let temps := ((x.evals, t) :: x.temps).filter fun y => decide (x.evals < y.1 + 60)
  let full := temps.any fun y => y.1 + 59 == x.evals
  let neg := decide ((d.get (O.negDeltaV n) : Rat) / 1000 ≤ pk - vc)
  let rise := full && decide ((d.get (O.dtDtLimit n) : Rat) / 100 ≤ slopeOf temps * 60)
  d.modStr n fun x =>
    { x with vPk := some pk, temps := temps, negRun := if neg then x.negRun + 1 else 0
             riseRun := if rise then x.riseRun + 1 else 0 }

/-- The criteria met after an evaluation, outside the hold-off, as the bits of EndCause (08 R228). -/
def Device.endCriteria (d : Device) (n : Nat) : Int :=
  let x := d.str n
  if d.get (O.detectHoldoff n) ≤ x.sinceReset then b2i (decide (3 ≤ x.negRun)) + 2 * b2i (decide (3 ≤ x.riseRun)) else 0

/-- CHARGE_END_EVALUATION (08 R228, R229, R234, R237): every second in FAST, with the 1 s mean of V_str and the samples of STHn
of the second, in µV. No
sample is taken from a pause or the 2 s after it. A backup stop of the same evaluation prevails and shows every bit met.
DESIGN CHOICE 62 (notes/assumptions). -/
def execChargeEndEvaluation (n : Fin 4) (v : Int) (therm : List Int) (s : State) : Host.Outcome State Fault Refusal :=
  s.next fun d => d.when (d.geRuns && d.strSt n == 5) fun d =>
    let x := d.str n
    let d := d.modStr n fun x => { x with sinceReset := x.sinceReset + 1, evals := x.evals + 1 }
    if d.chargePaused n = true then d
    else if x.skip ≠ 0 then d.modStr n fun x => { x with skip := x.skip - 1 }
    else
      let d := d.evaluate n ((v : Rat) / 1000000 / d.nCells n) ((d.meanTemp therm).getD x.temp)
      let c := d.endCriteria n
      let b := d.backupCauses n
      if b ≠ 0 then d.backupNow n (c + b)
      else if c ≠ 0 then (d.set (O.endCause n) c).enterCharge n 6
      else d

/-- BACKUP_STOP (08 R229): a criterion that the command names, as the bits of EndCause, is met. -/
def execBackupStop (n : Fin 4) (causes : BitVec 4) (s : State) : Host.Outcome State Fault Refusal :=
  s.next fun d =>
    let c := d.backupCauses n
    d.when (d.geRuns && (d.strSt n == 5 || d.strSt n == 6) && causes &&& BitVec.ofInt 4 c != 0) fun d => d.backupNow n c

/-- TOPOFF_END (08 R230, 09 R253, R263): MAINTAIN, with a full anchor, in whose lap no rest anchor is taken. -/
def execTopoffEnd (n : Fin 4) (s : State) : Host.Outcome State Fault Refusal :=
  s.next fun d => d.when (d.geRuns && d.strSt n == 6 && decide (minutes (d.get (O.topoffTime n)) ≤ d.elapsedNow n)) fun d =>
    let d := (d.modStr n fun x => { x with restDue := none }).anchor n 1 1 (1 / 100)
    d.enterCharge n 7

/-- RECHARGE (08 R230): the net charge removed since the entry to MAINTAIN reaches RechargeCharge, or V_c has stayed below
RechargeVoltage for 60 s with both currents below 1 A. -/
def execRecharge (n : Fin 4) (s : State) : Host.Outcome State Fault Refusal :=
  s.next fun d =>
    let x := d.str n
    let gone := decide (d.get (O.rechargeCharge n) * 360000000 ≤ x.qMaintain - x.qInt)
    d.when (d.geRuns && d.strSt n == 7 && (gone || decide (60 ≤ x.watch.low))) fun d => d.enterCharge n 5

/-- CUTOFF (08 R233): V_cut has stayed below V_eod for CutoffTime. -/
def execCutoff (n : Fin 4) (s : State) : Host.Outcome State Fault Refusal :=
  s.next fun d => d.when (d.geRuns && d.present n && decide (d.get (O.cutoffTime n) ≤ ((d.str n).watch.cut : Int))) fun d =>
    let d := d.modStr n fun x => { x with watch := { x.watch with cut := 0, release := 0 } }
    ((d.setFlag (O.cutoffHold n) true).strGatePolicy n).raiseD (strBlock n) 0 0x0504 []

/-- CUTOFF_RELEASE (08 R233): V_str ÷ n has stayed for 10 s at or above the release. -/
def execCutoffRelease (n : Fin 4) (s : State) : Host.Outcome State Fault Refusal :=
  s.next fun d => d.when (d.geRuns && d.flag (O.cutoffHold n) && decide (40000 ≤ (d.str n).watch.release)) fun d =>
    (d.setFlag (O.cutoffHold n) false).strGatePolicy n

/-- StringAck of a string in FAULT (08 R219). -/
def Device.stringAckNow (d : Device) (n : Nat) : Device := (d.set (O.chargerFault n) 0).setString n 3

/-- StringEnable 1 (08 R218): ABSENT until it is qualified. -/
def Device.stringEnableNow (d : Device) (n : Nat) : Device := d.when (d.strSt n == 0) fun d => d.setString n 1

/-- StringEnable 0 (08 R218, R237): charger off, gate forced OFF, DISABLED; learned values are kept. -/
def Device.stringDisableNow (d : Device) (n : Nat) : Device :=
  if d.strSt n = 0 then d
  else
    let d := (d.chargeStop n).setString n 0
    let d := (d.modStr n fun x =>
      { x with reading := false, fails := 0, tripped := false, ready := false, span := none, rested := false, restDue := none
               watch := { x.watch with rest := 0 } })
    ((d.strGatePolicy n).set (O.stringIdentity n) 0).setFlag (O.socValid n) false

/-- ChargeEnable 0 (08 R218): every string in a charge state or suspended from one is IDLE. -/
def Device.chargeDisableNow (d : Device) : Device :=
  d.forAll (List.range 4) fun n d =>
    d.when (d.charging n || d.strSt n == 8) fun d => (d.chargeStop n).setString n 3

end Sys2Proof.Machine
end

