-- ==== Sys2Proof/Machine/Gauge.lean ====
section
/-! DEFINITION. Commands of the string gauge (09 R240–R261). -/

namespace Sys2Proof.Machine

/-- Shunt resistance in Ω. -/
def Device.shunt (d : Device) (n : Nat) : Rat := (d.get (O.shuntResistance n) : Rat) / 100000000

/-- A converter output at an end of its range (09 R241). -/
def shuntOverload (code : BitVec 24) : Bool := code.toInt == 2 ^ 23 - 1 || code.toInt == -(2 ^ 23)

/-- I_n in A of a converter output of ±100 mV over 24 bits (09 R240, R241). -/
def Device.shuntCurrent (d : Device) (n : Nat) (code : BitVec 24) : Rat :=
  if shuntOverload code then (if code.toInt < 0 then -(1 / 10) else 1 / 10) / d.shunt n
  else
    let v : Rat := (code.toInt : Rat) / 8388608 / 10
    (v - (d.get (O.shuntOffset n) : Rat) / 10000000) * (1 + (d.get (O.shuntGainTrim n) : Rat) / 1000000) / d.shunt n

/-- One sample added to sums. -/
def GaugeSum.add (y : GaugeSum) (c : GaugeCell) (ch : Rat) : GaugeSum := ⟨y.i + c.i, y.id + c.id, y.ch + ch, y.v + c.v, y.n + 1⟩

/-- A sample as it is used: I_n, V_str, and I_d = I_ch − I_n, taken as 0 when it is negative (09 R240–R242). -/
def Device.gaugeCell (d : Device) (n : Nat) (m : GaugeIn) : GaugeCell :=
  let i := d.shuntCurrent n m.code
  ⟨i, max 0 ((m.ch : Rat) / 1000 - i), (m.v : Rat) / 1000000, shuntOverload m.code⟩

/-- A sample is kept: the latest values, the window, the sums, the run of overload samples (09 R241–R251). -/
def Device.gaugeKeep (d : Device) (n : Nat) (m : GaugeIn) (c : GaugeCell) : Device :=
  let ch : Rat := (m.ch : Rat) / 1000
  let mode := d.get (O.gateMode (strGate n))
  let d := d.when c.ovl fun d => d.bump (O.overloads n)
  d.modStr n fun x =>
    let w := x.watch
    { x with
      overRun := if c.ovl then x.overRun + 1 else 0
      watch := { w with
        win := (c :: w.win).take 20, count := w.count + 1, v := (m.vLast : Rat) / 1000000, ch := ch
        step := w.step.add c ch, stepOvl := w.stepOvl || c.ovl, sec := w.sec.add c ch, lap := w.lap.add c ch, idPeak := max w.idPeak c.id
        sinceMode := if mode = w.mode then w.sinceMode + 1 else 0, mode := mode, sinceStep := w.sinceStep + 1 } }

/-- The bus-side load from the latest conversion of each quantity (09 R256 step 1):
V_bus (I_A + I_B) + Σ V_str I_d − Σ V_str I_ch ÷ η_ch.
DESIGN CHOICE 188 (notes/assumptions). -/
def Device.loadSample (d : Device) (m : GaugeIn) : Device :=
  let v : Rat := (m.vBus : Rat) / 1000000
  let a : Rat := (m.iA : Rat) / 1000
  let b : Rat := (m.iB : Rat) / 1000
  let eta := q15 (d.get O.chargerEfficiency)
  let strs := (List.range 4).map fun n =>
    let w := (d.str n).watch
    w.v * ((w.win.head?.map (·.id)).getD 0) - quot (w.v * w.ch) eta
  let p := v * (a + b) + strs.sum
  d.modHold fun h => { h with vNow := v, iA := a, iB := b, loadSum := h.loadSum + p, loadN := h.loadN + 1 }

/-- The hardware accumulator of a string that is present, the capacity span and the rest (09 R243, R253, R254). -/
def Device.gaugeCount (d : Device) (n : Nat) (i : Rat) : Device :=
  let still := decide (|i| < (d.get O.restCurrent : Rat) / 10)
  let d := d.modStr n fun x =>
    let q := x.residue + i * 250
    { x with
      acc := x.acc + q.floor, residue := q - q.floor, rested := x.rested && still
      watch := { x.watch with rest := if still then x.watch.rest + 1 else 0 }
      span := x.span.map fun p => (p.1, p.2.1 + max 0 i / 4000, p.2.2 + max 0 (-i) / 4000) }
  d.set (O.coulombIntegral n) (d.str n).qInt

/-- V_cut of R233 per cell in V, from a 1 ms mean: the last four samples, with I_d of at least 1 A while the gate conducts. -/
def Device.vCut (d : Device) (n : Nat) : Option Rat :=
  let l := (d.str n).watch.win.take 4
  let i := mean (l.map (·.id))
  if d.flag (O.conducting (strGate n)) = true ∧ 1 ≤ i then some ((mean (l.map (·.v)) + i * d.rs n) / d.nCells n) else none

/-- Runs of samples and 1 ms means that the charge cycle and the cut-off wait for (08 R227, R229, R233). -/
def Device.watchSample (d : Device) (n : Nat) (v : Rat) : Device :=
  let vc := v / d.nCells n
  let run := fun (b : Bool) (k : Nat) => if b then k + 1 else 0
  let eod := d.vEod n
  let below := match d.vCut n with
    | some c => decide (c < eod)
    | none => false
  d.modStr n fun x =>
    let w := x.watch
    { x with watch := { w with
        qualify := run (decide ((d.get (O.qualifyVoltage n) : Rat) / 1000 ≤ vc)) w.qualify
        atMax := run (decide ((d.get (O.maxCellVoltage n) : Rat) / 1000 ≤ vc)) w.atMax
        release := run (decide (d.vRelease n ≤ vc)) w.release
        cut := if w.count % 4 = 0 then run below w.cut else w.cut } }

/-- The 1 s means every 4000 samples, shown, and the seconds that a recharge and a sense fault wait for (08 R222, R230,
R238). -/
def Device.secondEnds (d : Device) (n : Nat) : Device :=
  let y := (d.str n).watch.sec
  if y.n < 4000 then d
  else
    let m := fun (q : Rat) => q / y.n
    let low := d.strSt n == 7 && decide (m y.v / d.nCells n < (d.get (O.rechargeVoltage n) : Rat) / 1000) &&
      decide (m y.ch < 1) && decide (m y.id < 1)
    let sense := d.charging n && !(d.flag (O.conducting (strGate n))) &&
      decide ((d.get (O.chargeSenseTol n) : Rat) / 10 < |m y.i - m y.ch|)
    let d := d.modStr n fun x =>
      let w := x.watch
      { x with watch := { w with sec := .zero, last := some y, low := if low then w.low + 1 else 0
                                 sense := if sense then w.sense + 1 else 0 } }
    (d.set (O.stringVoltage n) (satU 32 (quant (m y.v * 1000)))).set (O.chargeCurrent n) (satS 16 (quant (m y.ch * 10)))

/-- GAUGE_SAMPLE (09 R240–R243, R251, R254, R256): the hardware's part, and what GE forms of it while it runs.
DESIGN CHOICE 60, 188 (notes/assumptions). -/
def Device.gaugeSample (d : Device) (n : Nat) (m : GaugeIn) : Device :=
  let c := d.gaugeCell n m
  let d := ((d.gaugeKeep n m c).loadSample m).busSample (16 + n) m.vBus
  let d := d.when (d.present n) fun d => d.gaugeCount n c.i
  d.when d.geRuns fun d => (d.watchSample n c.v).secondEnds n

/-- GAUGE_SAMPLE (09 R240–R243). -/
def execGaugeSample (n : Fin 4) (m : GaugeIn) (s : State) : Host.Outcome State Fault Refusal :=
  s.next fun d => d.when d.sys.coreRunning fun d => d.gaugeSample n m

/-- SHUNT_OVERLOAD_EVENT (09 R241): eight overload samples in a row. -/
def execShuntOverloadEvent (n : Fin 4) (s : State) : Host.Outcome State Fault Refusal :=
  s.next fun d => d.when (d.live && decide (8 ≤ (d.str n).overRun)) fun d => d.raiseC (strBlock n) 0 0x0507 []

/-- One step of the filter (09 R248, R249), with the 10 ms means in A and V.
DESIGN CHOICE 11 (notes/assumptions). -/
def Device.kalman (d : Device) (n : Nat) (i v : Rat) (skip : Bool) : Device :=
  let x := d.str n
  let c := d.nCells n
  let rs := d.rs n
  let r1 := q15 (d.get O.polarizationFrac) * rs
  let al := Config.exp (-(10 / (d.get O.polarizationTau : Rat)))
  let eta := if 0 < i then q15 (d.get O.chargeEfficiency) else 1
  let ss : Rat := (d.get O.processNoiseSoc : Rat) / 1000000
  let sp : Rat := (d.get O.processNoiseVp : Rat) / 1000000
  let s1 := x.soc + eta * i * (1 / 100) / x.cl
  let vp := al * x.vp + r1 * (1 - al) * i
  let a := x.p11 + ss * ss
  let b := al * x.p12
  let e := al * x.p21
  let f := al * al * x.p22 + sp * sp
  let nu := v - (c * d.ocv n s1 + vp + i * rs)
  let h := c * d.ocvSlope s1
  let sS := h * h * a + h * b + h * e + f + d.sigmaV * d.sigmaV
  let g : Rat := d.get O.outlierGate
  let out := decide (g * g * sS < nu * nu)
  let d := d.when (out && !skip) fun d => d.bump (O.outliers n)
  if skip || out then
    d.modStr n fun x => { x with soc := s1, vp := vp, p11 := a, p12 := b, p21 := e, p22 := f }
  else
    let k1 := (a * h + b) / sS
    let k2 := (e * h + f) / sS
    d.modStr n fun x =>
      { x with
        soc := clampQ 0 1 (s1 + k1 * nu), vp := vp + k2 * nu
        p11 := (1 - k1 * h) * a - k1 * e, p12 := (1 - k1 * h) * b - k1 * f
        p21 := (1 - k2) * e - k2 * h * a, p22 := (1 - k2) * f - k2 * h * b }

/-- One step of the filter from the samples since the last one and the mean of V_str in µV; the update is skipped where
the gate changed mode within 20 ms, or a sample of the step is an overload (09 R248, R249). -/
def Device.kalmanStep (d : Device) (n : Nat) (v : Int) : Device :=
  let w := (d.str n).watch
  let d := d.modStr n fun x => { x with watch := { x.watch with step := .zero, stepOvl := false } }
  (d.kalman n (quot w.step.i w.step.n) ((v : Rat) / 1000000) (decide (w.sinceMode < 80) || w.stepOvl)).gaugeShow n

/-- KALMAN_STEP (09 R248, R249): one step for each string that is present, with the means of SV9 inputs 3–6 over the
10 ms in µV. -/
def execKalmanStep (v0 v1 v2 v3 : Int) (s : State) : Host.Outcome State Fault Refusal :=
  s.next fun d => d.when d.geRuns fun d =>
    d.forAll (List.range 4) fun n d => d.when (d.present n) fun d => d.kalmanStep n (sel n [v0, v1, v2, v3])

/-- The current step between the two 2 ms windows of R251, 1 ms apart, in A; none where a window holds an overload sample, the
gate changed mode within them, or the last step used is less than 100 ms ago. -/
def Watch.currentStep (w : Watch) : Option Rat :=
  let new := w.win.take 8
  let old := w.win.drop 12
  if w.win.length = 20 ∧ !((new ++ old).any GaugeCell.ovl) ∧ 20 ≤ w.sinceMode ∧ 400 ≤ w.sinceStep then
    some (mean (new.map (·.i)) - mean (old.map (·.i)))
  else none

/-- RESISTANCE_STEP (09 R251): `old` and `new` are the means of V_str over the two windows, in µV. -/
def execResistanceStep (n : Fin 4) (old new : Int) (s : State) : Host.Outcome State Fault Refusal :=
  s.next fun d => d.when (d.geRuns && d.present n) fun d =>
    match (d.str n).watch.currentStep with
    | none => d
    | some di =>
      let r := ((new - old : Int) : Rat) / 1000000 / di
      if (d.get O.rStepMin : Rat) / 10 ≤ |di| ∧ 0 < r ∧ r ≤ 4 * d.rs n then
        let r25 := r / d.resFactor n
        let d := d.modStr n fun x =>
          { x with r25 := x.r25 + (r25 - x.r25) / 16, resLearned := true, watch := { x.watch with sinceStep := 0 } }
        ((d.bump (O.resistanceUpdates n)).set (O.learnedSource n) 2).gaugeShow n
      else d

/-- The string has had its full anchor in the present lap: it entered MAINTAIN in it, with an anchor at that stamp
(09 R253, R263).
DESIGN CHOICE 166 (notes/assumptions). -/
def Device.fullAnchored (d : Device) (n : Nat) : Bool :=
  d.strSt n == 7 && d.get (O.lastAnchorStamp n) == d.get (O.stringStateStamp n) &&
    decide (d.getN (O.lastAnchorStamp n) / 65536 = d.lap) && d.get (O.anchorCount n) != 0

/-- REST_ANCHOR (09 R253, R263): |I_n| has stayed below RestCurrent for RestTime; `v` is V_rest in µV. Once per
rest; it is taken at the end of its lap, and not where the lap has its full anchor.
DESIGN CHOICE 166 (notes/assumptions). -/
def execRestAnchor (n : Fin 4) (v : Int) (s : State) : Host.Outcome State Fault Refusal :=
  s.next fun d => d.when (d.geRuns && d.present n && !(d.str n).rested && !(d.fullAnchored n) &&
      decide (d.get O.restTime * 240000 ≤ ((d.str n).watch.rest : Int))) fun d =>
    d.modStr n fun x => { x with restDue := some ((v : Rat) / 1000000) }

/-- Difference of the two estimates (09 R255). -/
def Device.disagreement (d : Device) (n : Nat) : Rat := |(d.str n).socC - (d.str n).soc|

/-- DISAGREE_SET (09 R255). -/
def execDisagreeSet (n : Fin 4) (s : State) : Host.Outcome State Fault Refusal :=
  s.next fun d => d.when (d.geRuns && d.present n && !(d.flag (O.disagree n)) &&
      decide ((d.get O.disagreeLimit : Rat) / 10000 < d.disagreement n)) fun d =>
    (d.setFlag (O.disagree n) true).raiseD (strBlock n) 0 0x0506 []

/-- DISAGREE_CLEAR (09 R255). -/
def execDisagreeClear (n : Fin 4) (s : State) : Host.Outcome State Fault Refusal :=
  s.next fun d => d.when (d.geRuns && d.flag (O.disagree n) &&
      decide (d.disagreement n < (d.get O.disagreeLimit : Rat) / 20000)) fun d => d.setFlag (O.disagree n) false

/-- A write of ForgetLearned 1 (09 R261); the insertion anchor of a present string waits for GE (R263). -/
def Device.forgetNow (d : Device) (n : Nat) : Device :=
  let d := (d.unlearn n).modStr n fun x => { x with held := 0 }
  if d.present n = true ∧ d.geRuns = true then d.insertionAnchor n (d.vSec n)
  else
    let v := d.vSec n
    (d.when (d.present n) fun d => d.modStr n fun x => { x with due := some (false, v) }).gaugeShow n

/-- What the gauge objects show of a restored record before the filter starts (09 R258, R265). -/
def Device.gaugeRestored (d : Device) (n : Nat) : Device :=
  let x := d.str n
  let r := satU 32 (quant (x.r25 * 1000000))
  let d := (d.set (O.coulombIntegral n) x.qInt).set (O.anchorSum n) x.aSum
  let d := (d.set (O.chargeSoC n) (satS 16 (quant (x.socC * 10000)))).set (O.learnedCapacity n) (satU 32 (quant (x.cl / 36 * 10)))
  (d.set (O.resistanceInUse n) r).set (O.resistance25 n) r

/-- One slot of a string is restored at power-on (09 R258): the newest valid one; a slot whose CRC fails is reported. -/
def Device.restoreLearned (d : Device) (n : Nat) : Device :=
  let bad := (d.learnedSlot n 0).damaged || (d.learnedSlot n 1).damaged
  let d := d.when bad fun d => d.raiseC (strBlock n) 0 0x0508 []
  let d := d.unlearn n
  let d := match d.newest n with
    | some j =>
      let r := d.learnedSlot n j
      let d := d.modStr n fun x =>
        { x with qStored := r.qInt, aSum := r.aSum, held := r.identity, lastAnchor := r.lastAnchor
                 written := { r with seq := 0, stamp := 0 } }
      d.when (r.identity != 0) fun d => d.modStr n fun x =>
        { x with cl := (r.cl : Rat) * 36 / 10, r25 := (r.r25 : Rat) / 1000000, capLearned := bits r.flags 0 1 == 1
                 resLearned := bits r.flags 1 1 == 1, capUpdates := r.capUpdates }
    | none => d
  (d.modStr n fun x => { x with acc := 0, residue := 0, qSplit := x.qStored, rs := x.r25 }).gaugeRestored n

end Sys2Proof.Machine
end

