-- ==== Sys2Proof/Machine/LedgerOps.lean ====
section
/-! DEFINITION. The credit ledger: entries, commits, transfer records, the lap commit and the enforcement on the
feeds (11 R287–R313). -/

namespace Sys2Proof.Machine

/-- The sum of the ledger's entries (11 R287). -/
def Book.total (b : Book) : Int := b.pool + b.grants.sum + b.rc + b.rh + b.eout + b.ein

/-- Grant of a feed. -/
def Book.grant (b : Book) (k : Nat) : Int := b.grants.getD k 0

/-- The ledger changed. -/
def Device.modBook (d : Device) (f : Book → Book) : Device := { d with ledger := f d.ledger }

/-- The transfer table changed. -/
def Device.modTransfers (d : Device) (f : List Transfer → List Transfer) : Device :=
  { d with mram := { d.mram with transfers := f d.mram.transfers } }

/-- Records of giver's offers that are in escrow-out, and of taker's that are in escrow-in (11 R291). -/
def Transfer.inOut (t : Transfer) : Bool := t.giver && (t.st == 1 || t.st == 2)
/-- See `Transfer.inOut`. -/
def Transfer.inIn (t : Transfer) : Bool := !t.giver && t.st == 5
/-- An open record (11 R304). -/
def Transfer.isOpen (t : Transfer) : Bool := t.st == 1 || t.st == 2 || t.st == 3 || t.st == 5

/-- Sum of the amounts of some records. -/
def amounts (l : List Transfer) : Int := (l.map Transfer.amount).sum

/-- The check of the ledger (01 R23, 11 R291).
DEDUCED 72 (notes/assumptions). -/
def Device.ledgerOk (d : Device) : Bool :=
  decide (d.ledger.allot = d.ledger.total) &&
  decide (d.ledger.eout = amounts (d.mram.transfers.filter Transfer.inOut)) &&
  decide (d.ledger.ein = amounts (d.mram.transfers.filter Transfer.inIn))

/-- A mismatch freezes the ledger and is a class-B fault of it (01 R23, 11 R291). -/
def Device.ledgerCheck (d : Device) : Device :=
  d.when (!d.ledgerOk && !d.ledger.frozen) fun d =>
    (d.modBook fun b => { b with frozen := true }).raiseB 79 0 0x0707 []

/-- A slot that can be restored (11 R289). -/
def LedgerRec.ok (r : LedgerRec) : Bool := !r.damaged && r.seq != 0

/-- The newest valid slot (11 R289): true for B. -/
def Mram.newestLedger (m : Mram) : Option Bool :=
  if m.ledA.ok && m.ledB.ok then some (decide (m.ledA.seq < m.ledB.seq))
  else if m.ledA.ok then some false else if m.ledB.ok then some true else none

/-- The record of the newest valid slot, a blank one where no slot is valid. -/
def Mram.ledgerRec (m : Mram) : LedgerRec :=
  match m.newestLedger with
  | some true => m.ledB
  | some false => m.ledA
  | none => LedgerRec.blank

/-- Bytes of a transfer record (11 R304). -/
def Transfer.bytes (t : Transfer) : List Byte :=
  leBytes 8 t.id ++ leBytes 2 t.peer ++ leBytes 1 (b2i (!t.giver)) ++ leBytes 1 t.st ++ leBytes 4 t.amount ++
    leBytes 8 t.stamp ++ leBytes 2 t.reason ++ leBytes 2 t.repeats ++ leBytes 4 0

/-- The transfer record that a ledger record carries (11 R289, R304). -/
def LedgerRec.transfer (r : LedgerRec) : Transfer :=
  let f := fun (at' n : Nat) => ofLe ((r.xfer.drop at').take n)
  { id := f 0 8, peer := f 8 2, giver := f 10 1 == 0, st := f 11 1, amount := f 12 4, stamp := f 16 8, reason := f 24 2
    repeats := f 26 2, allot := r.book.allot, born := r.seq, sent := .restart, waited := 0, said := false }

/-- Bytes of a ledger record (11 R289). -/
def LedgerRec.bytes (r : LedgerRec) : List Byte :=
  if r.seq = 0 then List.replicate 160 0
  else
    let b := leBytes 8 r.seq ++ leBytes 8 r.stamp ++ leBytes 4 r.book.allot ++ leBytes 4 r.book.pool ++
      (r.book.grants.map (leBytes 4)).flatten ++ leBytes 4 r.book.rc ++ leBytes 4 r.book.rh ++
      leBytes 4 r.book.eout ++ leBytes 4 r.book.ein ++ leBytes 8 r.book.next ++ leBytes 4 r.powerOns ++
      leBytes 2 (b2i r.book.frozen + 2 * b2i r.book.baton) ++ leBytes 1 r.kind ++ [0] ++ r.xfer ++ leBytes 4 0
    withCrc r.damaged b

/-- A commit (11 R289, R290): one record to the slot that is not the newest, with the next sequence; the check
follows.
DESIGN CHOICE 70, 79 (notes/assumptions). -/
def Device.commitLedger (d : Device) (kind : Nat) (xfer : List Byte) : Device :=
  let r : LedgerRec := ⟨d.mram.ledgerRec.seq + 1, d.now, d.ledger, d.get O.powerOnCount, kind, xfer, false⟩
  let m := if d.mram.newestLedger = some false then { d.mram with ledB := r } else { d.mram with ledA := r }
  ({ d with mram := m }.bumpBy O.mramWrites 3).ledgerCheck

/-- Entries and records are changed only while a shelf core is active and no brown-out warning stands (01 R24, 11
R290).
DEDUCED 78 (notes/assumptions). -/
def Device.canCommit (d : Device) : Bool := d.scActive && !d.sys.brownOut

/-- A commit that changes an entry for a transfer is made: neither frozen nor switched off (11 R291, R303).
DEDUCED 73 (notes/assumptions). -/
def Device.canTransfer (d : Device) : Bool := d.canCommit && !d.ledger.frozen && d.flag O.creditEnable

/-- The transfer record of an ID. -/
def Device.transfer (d : Device) (id : Nat) : Option Transfer := d.mram.transfers.find? fun t => t.id == id

/-- The record of an ID changed. -/
def Device.modTransfer (d : Device) (id : Nat) (f : Transfer → Transfer) : Device :=
  d.modTransfers fun l => l.map fun t => if t.id == id then f t else t

/-- The new floor of a giver of which a record has been evicted (11 R304).
DEDUCED 74 (notes/assumptions). -/
def floorAfter (f : Floor) (c : Nat) (held : List Nat) : Floor :=
  let top := max f.top c
  { f with top := top, floor := max f.floor ((held.filter fun h => decide (f.floor < h)).foldl (fun m h => min m (h - 1)) top) }

/-- A record leaves the table: a taker's record moves its giver's floor (11 R304).
DEDUCED 74 (notes/assumptions). -/
def Device.evicted (d : Device) (t : Transfer) : Device :=
  if t.giver then d
  else
    let g := t.id / 2 ^ 48
    let held := (d.mram.transfers.filter fun x => !x.giver && x.id / 2 ^ 48 == g && x.id != t.id).map fun x => x.id % 2 ^ 48
    let f := (d.mram.floors.find? fun f => f.giver == g).getD ⟨g, 0, 0⟩
    let rest := d.mram.floors.filter fun f => f.giver != g
    { d with mram := { d.mram with floors := rest ++ [floorAfter f (t.id % 2 ^ 48) held] } }

/-- The oldest record that a new one may replace (11 R304).
DEDUCED 75 (notes/assumptions). -/
def Device.oldestClosed (d : Device) : Option Transfer :=
  (d.mram.transfers.filter fun t => !t.isOpen).foldl
    (fun o t => match o with
      | none => some t
      | some x => if t.born < x.born then some t else some x) none

/-- A new record: in the place of the oldest closed one once the table is full (11 R304).
DEDUCED 75 (notes/assumptions). -/
def Device.addTransfer (d : Device) (t : Transfer) : Device :=
  if d.mram.transfers.length < 64 then d.modTransfers fun l => l ++ [t]
  else match d.oldestClosed with
    | some o => (d.evicted o).modTransfers fun l => l.map fun x => if x.id == o.id then t else x
    | none => d

/-- The transfer table disagrees with the newest ledger record: it lacks the record of that commit, or holds an earlier
state of it (11 R289).
DEDUCED 194 (notes/assumptions). -/
def tableLacks (l : List Transfer) (t : Transfer) : Bool :=
  match l.find? fun x => x.id == t.id with
  | some x => decide (x.stamp < t.stamp)
  | none => true

/-- The ledger is taken from the newest valid slot, the table is rebuilt from it where the two disagree, and the records
have not been repeated yet (11 R289, R305). -/
def Device.restoreLedger (d : Device) : Device :=
  let r := d.mram.ledgerRec
  let t := r.transfer
  let d := (d.modBook fun _ => r.book).modTransfers fun l => l.map fun t => { t with sent := .restart, waited := 0, said := false }
  d.when (r.kind != 0 && r.kind != 8 && tableLacks d.mram.transfers t) fun d =>
    if (d.transfer t.id).isSome then d.modTransfer t.id fun _ => t else d.addTransfer t

/-- Fewer than 32 records are open (11 R304). -/
def Device.openRoom (d : Device) : Bool := decide ((d.mram.transfers.filter Transfer.isOpen).length < 32)

/-- Peer entry with a ShelfId (11 R297). -/
def Device.peerEntry (d : Device) (shelf : Nat) : Option Nat :=
  (List.range 16).find? fun i => shelf != 0 && d.getN (O.peerShelfId i) == shelf

/-- A credit message sent in a session (11 R298, 15 R385). -/
def Device.sendCredit (d : Device) (h : Nat) (payload : List Byte) : Device :=
  d.when (d.runs engNE && d.get (O.sessionState h) == 2) fun d => d.sendNew h 0x30 payload

/-- Payload of a message about a transfer (11 R298). FLAGS: 1 repeat, 2 answered from the record. -/
def Device.creditPayload (d : Device) (kind flags : Nat) (t : Transfer) : List Byte :=
  leBytes 1 kind ++ leBytes 1 flags ++ leBytes 2 (d.get O.shelfId) ++ leBytes 2 t.peer ++
    leBytes 2 (if kind = 3 then t.reason else 0) ++ leBytes 8 t.id ++ leBytes 4 t.amount ++ leBytes 8 t.stamp ++
    leBytes 4 t.allot

/-- The session of a transfer's peer, if one is open. -/
def Device.peerLink (d : Device) (shelf : Nat) : Option Nat :=
  match d.peerEntry shelf with
  | some i => if d.get (O.peerSession i) = 0xFF then none else some (d.getN (O.peerSession i))
  | none => none

/-- The session that a message to a peer goes out in: NE runs, it is open, and the objects of one of its ports have been
applied (15 R380). -/
def Device.peerUp (d : Device) (shelf : Nat) : Option Nat :=
  match d.peerLink shelf with
  | some h =>
    if d.runs engNE && d.get (O.sessionState h) == 2 && (d.session h).macs.any fun m => d.applied m.1 then some h else none
  | none => none

/-- A message about a transfer to its peer; without a session nothing goes out, and it has not been sent (11 R303). -/
def Device.sendPeer (d : Device) (kind flags : Nat) (t : Transfer) : Device :=
  match d.peerUp t.peer with
  | some h =>
    let lap := d.lap
    (d.modTransfer t.id fun x => { x with sent := .at lap }).sendCredit h (d.creditPayload kind flags t)
  | none => d

/-- A record enters a state: stamp, allotment after the commit, and no lap waited (11 R299, R304).
DESIGN CHOICE 71 (notes/assumptions). -/
def Device.toState (d : Device) (id st reason : Nat) : Device :=
  let now := d.now
  let a := d.ledger.allot
  d.modTransfer id fun t => { t with st := st, reason := reason, stamp := now, allot := a, waited := 0, said := false, sent := .never }

/-- The bytes of the record of an ID as it stands. -/
def Device.xferBytes (d : Device) (id : Nat) : List Byte :=
  match d.transfer id with
  | some t => t.bytes
  | none => List.replicate 32 0

/-- A commit that a transfer's record makes.
DESIGN CHOICE 70, 79 (notes/assumptions). -/
def Device.commitXfer (d : Device) (kind id : Nat) : Device := d.commitLedger kind (d.xferBytes id)

/-- Capacity ceiling of a feed in credits: C · V_set, `none` while no cell is retired (11 R293). -/
def Device.capacityCeil (d : Device) (k : Nat) : Option Int :=
  if d.get (O.retiredMask k) = 0 then none
  else some (max 0 ((d.get (O.capacity k) : Rat) / 10 * (d.feed k).vset).floor)

/-- Ceiling of a grant (11 R293). -/
def Device.grantCeil (d : Device) (k : Nat) : Int :=
  match d.capacityCeil k with
  | some c => min (d.get (O.grantMax k)) c
  | none => d.get (O.grantMax k)

/-- A grant changed, paid by the pool. -/
def Book.regrant (b : Book) (k : Nat) (g : Int) : Book :=
  { b with pool := b.pool + (b.grant k - g), grants := modAt b.grants k fun _ => g }

/-- A grant above its ceiling is lowered to it, with a notice of the feed (11 R293). -/
def Device.ceilGrant (d : Device) (k : Nat) : Device :=
  let c := d.grantCeil k
  let d := d.set (O.capacityCeiling k) (match d.capacityCeil k with
    | some c => satU 32 c
    | none => 0xFFFFFFFF)
  let g := d.ledger.grant k
  if c < g then (d.modBook fun b => b.regrant k c).raiseD k 0 0x0702 (leBytes 4 g ++ leBytes 4 c) else d

/-- A reserve moves towards a target: down at once, up by what the pool holds (11 R294, R295). -/
def Book.moveRc (b : Book) (target : Int) : Book :=
  let n := if target < b.rc then target else min target (b.rc + b.pool)
  { b with pool := b.pool + (b.rc - n), rc := n }
/-- See `Book.moveRc`. -/
def Book.moveRh (b : Book) (target : Int) : Book :=
  let n := if target < b.rh then target else min target (b.rh + b.pool)
  { b with pool := b.pool + (b.rh - n), rh := n }

/-- Target of the charging reserve (11 R294). -/
def Device.chargeTarget (d : Device) : Int :=
  if d.flag O.chargeEnable then
    d.get O.chargeReservePerString * ((List.range 4).filter fun n => d.flag (O.stringEnable n) && d.present n).length
  else 0

/-- Target of the hold-up reserve H* (11 R295). -/
def Device.holdTarget (d : Device) : Int :=
  let b := d.ledger
  if d.get O.holdupEnable = 0 ∨ d.get O.holdupTarget = 0 then 0
  else if b.baton = true ∨ d.geRuns = false ∨ d.get O.holdupSeconds = 0xFFFFFFFF then d.get O.holdupReserveTarget
  else
    let per := d.hold.energy / ((d.get O.holdupTarget : Rat) / 10) * q15 (d.get O.feedEfficiency)
    max 0 (b.allot - b.rc - b.eout - b.ein - per.floor)

/-- The reserves move, unless the ledger is frozen (11 R291, R294, R295). -/
def Device.moveReserves (d : Device) : Device :=
  let t := d.chargeTarget
  let d := d.set O.chargeReserveTarget t
  let d := d.when (!d.ledger.frozen && !d.ledger.baton) fun d => d.modBook fun b => b.moveRc t
  let h := d.holdTarget
  let d := d.set O.holdupReserveTarget h
  let d := d.when (!d.ledger.frozen) fun d => d.modBook fun b => b.moveRh h
  let s := max 0 (h - d.ledger.rh)
  let rise := d.get O.holdupReserveShortfall == 0 && decide (0 < s)
  (d.set O.holdupReserveShortfall s).when rise fun d => d.raiseD 79 0 0x0703 (leBytes 4 s)

/-- One request for less is served (11 R293).
DEDUCED 76 (notes/assumptions). -/
def Device.lowerGrant (d : Device) (k : Nat) : Device :=
  let r := d.get (O.grantRequest k)
  if r < d.ledger.grant k then d.modBook fun b => b.regrant k r else d

/-- One request for more is served from the pool (11 R293).
DEDUCED 76 (notes/assumptions). -/
def Device.raiseGrant (d : Device) (k : Nat) : Device :=
  let w := min (d.get (O.grantRequest k)) (d.grantCeil k) - d.ledger.grant k
  let x := min w d.ledger.pool
  if 0 < x then d.modBook fun b => b.regrant k (b.grant k + x) else d

/-- Requests: decreases, then increases in ascending feed number; none of these while frozen, no increase while
the baton is with the strings (11 R291, R293).
DEDUCED 73, 76 (notes/assumptions). -/
def Device.serveGrants (d : Device) : Device :=
  let d := d.when (!d.ledger.frozen) fun d =>
    let d := d.forAll (List.range 16) fun k d => d.lowerGrant k
    d.when (!d.ledger.baton) fun d => d.forAll (List.range 16) fun k d => d.raiseGrant k
  d.forAll (List.range 16) fun k d =>
    d.set (O.grantShortfall k) (max 0 (d.get (O.grantRequest k) - d.ledger.grant k))

/-- Enforcement counts of a feed. -/
def Device.enforce (d : Device) (k : Nat) : Enforce := d.enf.getD k ⟨0, 0⟩
/-- The same changed. -/
def Device.modEnf (d : Device) (k : Nat) (f : Enforce → Enforce) : Device := { d with enf := modAt d.enf k f }

/-- A change of a feed's enforcement state, recorded with P_k and G_k (11 R308). -/
def Device.enforceTo (d : Device) (k : Nat) (st : Int) : Device :=
  ((d.set (O.enforceState k) st).modEnf k fun _ => ⟨0, 0⟩).raiseD k 0 0x0701
    (leBytes 4 (d.get (O.lapPower k)) ++ leBytes 4 (d.ledger.grant k) ++ leBytes 8 d.now)

/-- The credit cap of a feed in 0.1 A, rounded up (11 R309). -/
def Device.creditCapNow (d : Device) (k : Nat) : Int :=
  (quot ((d.ledger.grant k : Rat) * (1 + q15 (d.get O.capMargin)) * 10000) (d.get (O.targetInForce k))).ceil

/-- The credit cap in force, or none. -/
def Device.setCreditCap (d : Device) (k : Nat) (c : Option Int) : Device :=
  d.modFeed k fun f => { f with creditCap := c }

/-- Back to NORMAL with the cap lifted and its CapNotice (11 R308, R310, R313). -/
def Device.enforceClear (d : Device) (k : Nat) : Device :=
  (((d.set (O.graceLeft k) 0).setCreditCap k none).enforceTo k 0).capNotice k

/-- The enforcement state machine on a lap with mean power `p` in W (11 R308, R310). -/
def Device.enforceLap (d : Device) (k : Nat) (p : Rat) : Device :=
  let g : Rat := d.ledger.grant k
  let tol := q15 (d.get O.overrunTol)
  let above := decide (g * (1 + tol) < p)
  let hard := decide (g * (1 + q15 (d.get O.capMargin) + tol) < p)
  let d := d.when above fun d => d.bump (O.overrunLaps k)
  let e := d.enforce k
  match d.getN (O.enforceState k) with
  | 0 => d.when above fun d => ((d.set (O.graceLeft k) (d.get O.graceLaps)).enforceTo k 1).capNotice k
  | 1 =>
    if above then
      let n := d.get (O.graceLeft k) - 1
      let d := (d.set (O.graceLeft k) n).modEnf k fun x => { x with clear := 0 }
      if n ≤ 0 then ((d.setCreditCap k (some (d.creditCapNow k))).enforceTo k 2).capNotice k else d.capNotice k
    else if d.getN O.clearLaps ≤ e.clear + 1 then d.enforceClear k
    else d.modEnf k fun x => { x with clear := x.clear + 1 }
  | 2 =>
    if above then
      let n := if hard then e.fault + 1 else 0
      let d := d.modEnf k fun _ => ⟨0, n⟩
      d.when (hard && decide (d.getN O.faultLaps ≤ n)) fun d => (d.enforceTo k 3).latchB k 8 0x0111
    else if d.getN O.clearLaps ≤ e.clear + 1 then d.enforceClear k
    else d.modEnf k fun x => { clear := x.clear + 1, fault := 0 }
  | _ => d

/-- Enforcement of one feed at a lap commit (11 R308, R309, R311): `start` is the beginning of the split's interval,
`p` the split's mean power in W. -/
def Device.enforceFeed (d : Device) (k start : Nat) (p : Rat) : Device :=
  if d.flag O.creditEnable then
    let d := d.when (d.feedSt k == 4 && decide ((d.feed k).runFrom ≤ start)) fun d => d.enforceLap k p
    if d.get (O.enforceState k) = 2 then
      let c := d.creditCapNow k
      let old := (d.feed k).creditCap
      (d.setCreditCap k (some c)).when (old != some c) fun d => d.capNotice k
    else d
  else if d.get (O.enforceState k) = 1 ∨ d.get (O.enforceState k) = 2 then d.enforceClear k
  else d.when (d.feed k).creditCap.isSome fun d => (d.setCreditCap k none).capNotice k

/-- One lap waited by an open record, and its stale notice (11 R303). -/
def Device.waitXfer (d : Device) (id : Nat) : Device :=
  match d.transfer id with
  | none => d
  | some t =>
    if !t.isOpen then d
    else
      let n := t.waited + 1
      let stale := !t.said && decide (d.getN O.creditStaleLaps ≤ n)
      let d := d.modTransfer id fun t => { t with waited := n, said := t.said || stale }
      d.when stale fun d => (d.bump O.staleTransfers).raiseC 79 0 0x0704 (leBytes 8 id)

/-- Message kind that a giver's record repeats (11 R299). -/
def Transfer.kindSent (t : Transfer) : Option Nat :=
  if t.giver then match t.st with
    | 1 => some 1
    | 2 => some 6
    | 3 => some 4
    | _ => none
  else none

/-- A giver's record repeats its message where it has not been sent in the last CreditRetryLaps laps (11 R303); the first
time since power-on at a lap commit with CreditEnable 1 (11 R305). -/
def Device.repeatXfer (d : Device) (id : Nat) : Device :=
  match d.transfer id with
  | none => d
  | some t => match t.kindSent with
    | none => d
    | some kind =>
      let due := match t.sent with
        | .at l => decide (l + d.getN O.creditRetryLaps ≤ d.lap)
        | .restart => d.flag O.creditEnable
        | .never => true
      if due && (d.peerUp t.peer).isSome then
        (d.modTransfer id fun t => { t with repeats := min 65535 (t.repeats + 1) }).sendPeer kind 1 t
      else d

/-- The lap commit at a firing of slot 0 (11 R292): mean powers of the feeds in mW, beginning of the interval.
DEDUCED 73 (notes/assumptions). -/
def Device.lapCommit (d : Device) (start : Nat) (powers : List Int) : Device :=
  if d.canCommit then
    let baton := d.get O.batonHolder == 1
    let d := d.modBook fun b => { b with baton := baton }
    let d := d.when (!d.ledger.frozen) fun d => d.forAll (List.range 16) fun k d => d.ceilGrant k
    let d := d.moveReserves.serveGrants
    let d := d.forAll (List.range 16) fun k d => d.enforceFeed k start ((sel k powers : Rat) / 1000)
    let d := d.when (d.ledger != d.mram.ledgerRec.book) fun d => d.commitLedger 0 (List.replicate 32 0)
    let ids := d.mram.transfers.map Transfer.id
    let d := d.ledgerCheck.forAll ids fun id d => d.waitXfer id
    d.forAll ids fun id d => d.repeatXfer id
  else d

/-- The acknowledgement of a feed's fault ends FAULTED (11 R310). -/
def Device.enforceAck (d : Device) (k : Nat) : Device :=
  d.when (d.get (O.enforceState k) == 3) fun d => d.enforceClear k

end Sys2Proof.Machine
end

