-- ==== Sys2Proof/Machine/NetOps.lean ====
section
/-! DEFINITION. Sessions and field ports: closing, replay windows, port states (15 R378–R390, R399, R403). -/

namespace Sys2Proof.Machine

/-- The set of a path that closes is discarded (16 R417). -/
def Device.dropStaged (d : Device) (path : Nat) : Device :=
  match d.dict.staged with
  | some (p, _) =>
    d.when (p == path) fun d =>
      ((({ d with dict := { d.dict with staged := none } }).bump O.stagingDiscarded).set O.stagedCount 0).set O.stagingOwner 0xFF
  | none => d

/-- A session entry is free again: its staging set and its packets go, what has taken effect stands (15 R388, 16 R417,
18 R464). -/
def Device.freeSession (d : Device) (s : Nat) : Device :=
  let peer := (d.session s).peer
  let d := (d.dropStaged s).lanesClose s
  let d := (d.modSession s fun _ => Session.reset)
  let d := { d with dict := { d.dict with segSelect := modAt d.dict.segSelect s fun _ => 0 } }
  let d := ((((d.set (O.sessionState s) 0).set (O.sessionId s) 0).set (O.sessionKeySlot s) 0xFF).set (O.sessionMode s) 0).set
    (O.rxSeqHigh s) 0
  let d := ((((d.set (O.txSeq s) 0).set (O.replayMask s) 0).set (O.sessionDuplicates s) 0).set (O.tooOld s) 0).set
    (O.notifyDropped s) 0
  match peer with
  | some i => d.set (O.peerSession i) 0xFF
  | none => d

/-- The controller closes a session with a reason (15 R388): CLOSE is sent while NE runs. -/
def Device.closeSession (d : Device) (s reason : Nat) : Device :=
  (d.when (d.get (O.sessionState s) == 2 && d.runs engNE) fun d => d.sendNew s 0x3F [BitVec.ofNat 8 reason, 0, 0, 0]).freeSession s

/-- Every open session that was opened with a key slot is closed with reason 3 (15 R386). -/
def Device.closeSlot (d : Device) (slot : Nat) : Device :=
  d.forAll (List.range 16) fun s d =>
    d.when (d.get (O.sessionState s) != 0 && d.get (O.sessionKeySlot s) == slot) fun d => d.closeSession s 3

/-- A number of a session has reached its end (15 R388).
DESIGN CHOICE 107 (notes/assumptions). -/
def Device.exhausted (d : Device) (s : Nat) : Device :=
  d.when (decide (0xFFFFFFF0 ≤ d.get (O.txSeq s)) || decide (0xFFFFFFF0 ≤ d.get (O.rxSeqHigh s))) fun d => d.closeSession s 4

/-- What the replay window says of a number (15 R389). -/
inductive Seen where
  | fresh | duplicate | old
  deriving DecidableEq, Repr

/-- See `Seen`. -/
def Device.seenSeq (d : Device) (s seq : Nat) : Seen :=
  let h := d.getN (O.rxSeqHigh s)
  if h < seq then .fresh
  else if h < seq + 64 then (if bit (d.get (O.replayMask s)) (h - seq) then .duplicate else .fresh)
  else .old

/-- A number enters the replay window (15 R389). -/
def Device.takeSeq (d : Device) (s seq : Nat) : Device :=
  let h := d.getN (O.rxSeqHigh s)
  if h < seq then
    let m : Nat := (d.getN (O.replayMask s) * 2 ^ min 64 (seq - h) + 1) % 2 ^ 64
    (d.set (O.rxSeqHigh s) seq).set (O.replayMask s) m
  else d.set (O.replayMask s) (setBit (d.get (O.replayMask s)) (h - seq))

/-- State of a port (15 R379). -/
def Device.portStateNow (d : Device) (p : Nat) : Int :=
  let x := d.netPort p
  if !d.flag (O.portEnable p) then 0
  else if x.silent then 1
  else if x.id = 0xFF ∨ x.fellBack = true then 2
  else if x.id = 0 then 4 else 3

/-- The state of a port is taken anew; the entry to SILENT or DISABLED is a class-C event (15 R379).
DESIGN CHOICE 105 (notes/assumptions). -/
def Device.portUpdate (d : Device) (p : Nat) : Device :=
  let old := d.get (O.netPortState p)
  let st := d.portStateNow p
  let d := d.set (O.netPortState p) st
  d.when (decide (st < 2) && st != old) fun d => d.raiseC 81 (p + 1) 0x0A01 (leBytes 1 st)

/-- A port works from a reset on (15 R379, R380): silent, with a stored follower ID.
DESIGN CHOICE 105 (notes/assumptions). -/
def Device.portStart (d : Device) (p : Nat) : Device :=
  let n := d.stored (O.plcaNodeId p)
  let id : Nat := if 1 ≤ n ∧ n ≤ 31 then n.toNat else 0xFF
  let d := d.modNetPort p fun _ => ⟨id, false, true, false, false⟩
  d.set (O.netPortState p) (d.portStateNow p)

/-- The port objects in force are applied (15 R380): the PLCA role, and the coordinator's BEACON (15 R378).
DEDUCED 106 (notes/assumptions). -/
def Device.portApply (d : Device) (p : Nat) : Device :=
  let d := { d with dict := { d.dict with portApplied := modAt d.dict.portApplied p fun _ => true } }
  let d := d.modNetPort p fun x => { x with id := d.getN (O.plcaNodeId p), fellBack := false }
  let d := d.when (d.get (O.plcaNodeId p) == 0 && d.flag (O.portEnable p)) fun d => d.emit (.medium p 378)
  d.portUpdate p

/-- A frame with a correct FCS has arrived on an enabled port: it leaves SILENT (15 R379).
DESIGN CHOICE 103 (notes/assumptions). -/
def Device.portHeard (d : Device) (p : Nat) : Device :=
  (d.modNetPort p fun x => { x with silent := false }).portUpdate p

/-- The port receives: it is enabled and NE runs (15 R380, R403). -/
def Device.portHears (d : Device) (p : Nat) : Bool := d.sys.coreRunning && d.runs engNE && d.flag (O.portEnable p)

/-- Queued notifications take the places of those that have been released (15 R399). -/
def Device.pumpNotify (d : Device) (s : Nat) : Device :=
  (List.range 8).foldl (fun d _ =>
    match (d.session s).queued with
    | n :: rest =>
      d.when (decide ((d.session s).unacked.length < 8)) fun d =>
        (d.modSession s fun x => { x with queued := rest }).notifyOne s n.body
    | [] => d) d

/-- A window operation completes (17 R444): the result, OPCOUNT and AlertCause b4; a READ places its value. -/
def Device.windowDone (d : Device) (r : Nat × Nat × List Byte × Nat) (state : Nat) : Device :=
  let m := d.mgmt
  let read := m.winOp = 1 ∧ r.1 = 0
  let v := r.2.2.1.take 1024
  let m :=
    { m with winState := state, winOp := 0, started := false, result := none, winStatus := r.1
             winDisp := if m.winOp = 2 then r.2.1 else 0
             winStamp := r.2.2.2, opCount := m.opCount + 1
             winLen := if read then v.length else m.winLen
             data := if read then v ++ m.data.drop v.length else m.data }
  { d with mgmt := m }.alert 4

/-- NE is lost (15 R403, 16 R430, 17 R446): every session ends without CLOSE, the queue and the set are discarded,
a window operation that has not taken effect completes with 0x0814, and STATE reads 3. -/
def Device.netDown (d : Device) : Device :=
  let d := (d.forAll (List.range 16) fun s d => d.freeSession s).dropPending
  let d := d.when (d.mgmt.winState == 1) fun d => d.windowDone (d.mgmt.result.getD (0x0814, 0, [], d.now)) 3
  { d with mgmt := { d.mgmt with winState := 3 } }

/-- NE runs: the window is idle and the session table empty (17 R443, 15 R403). -/
def Device.netUp (d : Device) : Device :=
  { d with mgmt := { d.mgmt with winState := 0, winOp := 0, started := false, result := none } }

end Sys2Proof.Machine
end

