-- ==== Sys2Proof/Machine/Sequence.lean ====
section
/-! DEFINITION. Commands of the rail sequencer (12 R315–R338). -/

namespace Sys2Proof.Machine

/-- RAIL_START (12 R322): a WAITING rail whose predecessors are UP and whose StartDelay is met. -/
def execRailStart (r : Fin 24) (s : State) : Host.Outcome State Fault Refusal :=
  s.run fun d => d.when (d.scActive && d.railSt r == 1 && (d.preds r).all fun p => d.railSt p == 4) fun d =>
    ((d.set (O.chatterCount r) 0).setRail r 2).railEnable r true

/-- The power-good of a feed rail is true (12 R316). -/
def Device.feedGood (d : Device) (r : Nat) : Bool :=
  match d.railFeed r with
  | none => true
  | some k =>
    let v := (d.feed k).vfb * 1000
    d.feedSt k == 4 && decide ((d.get (O.tgUvLevel k) : Rat) ≤ v) && decide (v ≤ (d.get (O.tgOvLevel k) : Rat))

/-- PG_RISE (12 R318, R319): qualification starts. -/
def execPgRise (r : Fin 24) (s : State) : Host.Outcome State Fault Refusal :=
  s.run fun d => d.when (d.live && d.get (O.railKind r) != 0 && !(d.flag (O.pgLevel r)) && d.feedGood r) fun d =>
    let d := d.setFlag (O.pgLevel r) true
    d.when (d.scActive && (d.railSt r == 2 || d.railSt r == 5)) fun d => d.setRail r 3

/-- RAIL_QUALIFIED (12 R319). -/
def execRailQualified (r : Fin 24) (s : State) : Host.Outcome State Fault Refusal :=
  s.run fun d => d.when (d.scActive && d.railSt r == 3 && d.flag (O.pgLevel r)) fun d => (d.setRail r 4).seqProgress

/-- A deglitched fall while a shelf core is active (12 R319, R323, R324). One in a qualification leads back to the state
that the qualification began in (R321).
DEDUCED 196 (notes/assumptions). -/
def Device.pgFallen (d : Device) (r : Nat) : Device :=
  let down := (d.rail r).down
  match d.railSt r with
  | 3 =>
    let d := (d.bump (O.chatterCount r)).seqEvent (0x0400 + r)
    if !down && decide (d.get (O.chatterLimit r) < d.get (O.chatterCount r)) then d.railFail r 1
    else d.setRail r (if (d.rail r).held then 5 else 2)
  | 4 =>
    if down then ((d.modRail r fun x => { x with up := false }).updateRst).downFailure r
    else if d.srcRetrying r then d.setRail r 5
    else d.railFail r 2
  | 6 => if d.railFeed r = none then d.railOff r else d
  | _ => d

/-- PG_FALL (12 R316, R318–R324, R338): without a shelf core the hardware only clears the UP flag, and GD counts. -/
def execPgFall (r : Fin 24) (s : State) : Host.Outcome State Fault Refusal :=
  s.run fun d => d.when (d.live && d.get (O.railKind r) != 0 && d.flag (O.pgLevel r) &&
      ((d.railFeed r).isNone || !d.feedGood r)) fun d =>
    let d := d.setFlag (O.pgLevel r) false
    if d.scActive then d.pgFallen r
    else ((d.modRail r fun x => { x with up := false, fell := true }).modSeq fun q =>
      { q with gdFalls := q.gdFalls + 1 }).updateRst

/-- PG_TIMEOUT (12 R320, R324): paused while the source retries; the cause is b2 once the rail was HELD. -/
def execPgTimeout (r : Fin 24) (s : State) : Host.Outcome State Fault Refusal :=
  s.run fun d => d.when (d.scActive && (d.railSt r == 2 || d.railSt r == 3 || d.railSt r == 5) && !(d.srcRetrying r) &&
      !(d.rail r).down) fun d => d.railFail r (if (d.rail r).held then 2 else 0)

/-- RAIL_STOP_STEP (12 R323): the dependants are OFF and StopDelay is met. -/
def execRailStopStep (r : Fin 24) (s : State) : Host.Outcome State Fault Refusal :=
  s.run fun d => d.when (d.scActive && (d.rail r).down && (d.dependants r).all fun q => d.railSt q == 0) fun d =>
    let early := d.railSt r == 2 || d.railSt r == 3
    let d := ((d.when early fun d => d.downFailure r).setRail r 6).railEnable r false
    d.when ((d.railFeed r).isNone && !(d.flag (O.pgLevel r))) fun d => d.railOff r

/-- DISCHARGE_TIMEOUT (12 R323 step 4). -/
def execDischargeTimeout (r : Fin 24) (s : State) : Host.Outcome State Fault Refusal :=
  s.run fun d => d.when (d.scActive && d.railSt r == 6) fun d =>
    (((d.setBitOf (O.railFailCause r) 4).bump O.dischargeTimeouts).seqEvent (0x0400 + r)).railOff r

/-- The whole sequence powers up (12 R322); rails that still go down in an acknowledged latch are OFF first.
DESIGN CHOICE 195 (notes/assumptions). -/
def Device.seqStart (d : Device) : Device :=
  let d := (d.modSeq fun q => { q with armed := false }).setSeqState 1
  d.when d.allOff fun d => (d.railsUp d.railsInUse).seqProgress

/-- A sequence retry restarts when its delay has ended and, where the line was driven, the release is met
(12 R325, R333).
DEDUCED 83 (notes/assumptions). -/
def Device.seqRetryStart (d : Device) : Device :=
  let wait := bit (d.get O.seqFltMode) 0 && d.flag O.seqFltEnable
  d.when (d.get O.seqState == 4 && d.allOff && d.seq.delayDone && (d.seq.releaseDone || !wait)) Device.seqStart

/-- RETRY_DELAY_END (12 R325): RetryDelay of the subtree of a root, or SeqRetryDelay for `none`. -/
def execRetryDelayEnd (root : Option (Fin 24)) (s : State) : Host.Outcome State Fault Refusal :=
  s.run fun d => match root with
    | some r => d.when (d.scActive && d.get O.seqState == 3 && d.seq.retries.contains r &&
        (d.subtree r).all fun q => d.railSt q == 0) fun d => d.railsUp (d.subtree r)
    | none => d.when (d.scActive && d.get O.seqState == 4 && d.allOff) fun d =>
        (d.modSeq fun q => { q with delayDone := true }).seqRetryStart

/-- SEQ_RETRY_COUNT_RESET (12 R326): of a rail, or of the sequence for `none`. -/
def execSeqRetryCountReset (root : Option (Fin 24)) (s : State) : Host.Outcome State Fault Refusal :=
  s.next fun d => match root with
    | some r => d.when (d.scActive && (d.subtree r).all fun q => d.railSt q == 4) fun d =>
        d.set (O.subtreeRetryCount r) 0
    | none => d.when (d.scActive && d.get O.seqState == 2) fun d => d.set O.sequenceRetryCount 0

/-- A shared shutdown (12 R332).
DESIGN CHOICE 81 (notes/assumptions). -/
def Device.sharedShutdown (d : Device) : Device :=
  let d := (d.modSeq fun q => { q with retries := [], armed := false }).driveFlt true
  let d := (d.setSeqState 6).bump O.sharedShutdowns
  ((d.railsDown d.railsInUse).settleFailed).seqDownDone

/-- SEQ_FLT_LOW (12 R332, R335, R337): a deglitched low; one that the controller itself causes only shows. -/
def execSeqFltLow (s : State) : Host.Outcome State Fault Refusal :=
  s.run fun d => d.when (d.live && d.flag O.seqFltEnable && d.flag O.seqFltLine) fun d =>
    let own := d.seq.drive
    let d := ((d.setFlag O.seqFltLine false).seqEvent 0).edge 123
    let st := d.getN O.seqState
    if own || !d.scActive then d
    else if st = 5 then d.driveFlt true
    else d.when (st == 1 || st == 2 || st == 3 || st == 4 || st == 7) Device.sharedShutdown

/-- SEQ_FLT_RISE (12 R332, R335). -/
def execSeqFltRise (s : State) : Host.Outcome State Fault Refusal :=
  s.run fun d => d.when (d.live && d.flag O.seqFltEnable && !(d.flag O.seqFltLine)) fun d =>
    ((d.setFlag O.seqFltLine true).modSeq fun q => { q with stuckSaid := false, released := false }).seqEvent 0

/-- SEQ_FLT_RELEASE_MET (12 R332, R333): the line has been high for SeqFltRelease. -/
def execSeqFltReleaseMet (s : State) : Host.Outcome State Fault Refusal :=
  s.run fun d => d.when (d.scActive && d.flag O.seqFltEnable && d.flag O.seqFltLine) fun d =>
    match d.getN O.seqState with
    | 7 =>
      if (d.get O.seqFltRestart = 1 ∧ d.flag O.seqEnable = true) ∨ d.seq.armed = true then d.seqStart
      else d.setSeqState 0
    | 4 => (d.modSeq fun q => { q with releaseDone := true }).seqRetryStart
    | _ => d

/-- SEQ_FLT_STUCK (12 R333): once for a low that stands after the controller has released the line. -/
def execSeqFltStuck (s : State) : Host.Outcome State Fault Refusal :=
  s.next fun d => d.when (d.scActive && d.flag O.seqFltEnable && !(d.flag O.seqFltLine) && !d.seq.drive &&
      d.seq.released && !d.seq.stuckSaid) fun d => (d.modSeq fun q => { q with stuckSaid := true }).raiseC 78 0 0x0804 []

/-- SEQ_FLT_ROUTE_PULSE_END (12 R334). -/
def execSeqFltRoutePulseEnd (s : State) : Host.Outcome State Fault Refusal :=
  s.next fun d => d.when d.seq.routePulse fun d => 
    (d.modSeq fun q => { q with routePulse := false, released := q.released || !q.drive }).updateSeqFlt

/-- RST_STRETCH_DONE (12 R331): the condition has held for RstStretch; the output is released. -/
def execRstStretchDone (i : Fin 8) (s : State) : Host.Outcome State Fault Refusal :=
  s.next fun d => d.when (d.live && d.rstCond i) fun d => d.setRst i false

/-- SeqEnable 1 (12 R322): from OFF the power-up; in SHARED_WAIT it arms the restart. -/
def Device.seqUpNow (d : Device) : Device :=
  match d.getN O.seqState with
  | 0 => d.seqStart
  | 7 => d.modSeq fun q => { q with armed := true }
  | _ => d

/-- SeqEnable 0 (12 R323). -/
def Device.seqDownNow (d : Device) : Device :=
  match d.getN O.seqState with
  | 1 | 2 | 3 | 4 =>
    let d := (d.modSeq fun q => { q with retries := [], armed := false }).setSeqState 5
    ((d.railsDown d.railsInUse).settleFailed).seqDownDone
  | 7 => d.modSeq fun q => { q with armed := false }
  | _ => d

/-- SeqAck in LATCHED (12 R325, R333): with b3 of SeqFltMode the line is released now, else once every rail is OFF.
DESIGN CHOICE 195 (notes/assumptions). -/
def Device.seqAckNow (d : Device) : Device :=
  let d := (d.setSeqState 0).set O.sequenceRetryCount 0
  let d := d.when (bit (d.get O.seqFltMode) 3 || d.allOff) fun d => d.driveFlt false
  d.forAll (List.range 24) fun r d => d.set (O.subtreeRetryCount r) 0

/-- A core runs again after both were lost: each rail whose power-good has fallen and is low fails by R324, which HOLDs
one whose source retries; the UP flag of one whose power-good is high again stands (12 R338).
DEDUCED 196 (notes/assumptions). -/
def Device.seqCoreBack (d : Device) : Device :=
  d.forAll (List.range 24) fun r d =>
    if (d.rail r).fell then
      let d := d.modRail r fun x => { x with fell := false }
      if d.flag (O.pgLevel r) then d.when (d.railSt r == 4) fun d => d.modRail r fun x => { x with up := true }
      else if d.railSt r = 4 then d.pgFallen r
      else if d.railSt r = 3 then if (d.rail r).down then d.downFailure r else d.railFail r 2
      else d
    else d

/-- A write of RailKind (12 R315, R321): a slot that is used is OFF, one that is not is UNUSED with its enable low. -/
def Device.railKindNow (d : Device) (r : Nat) : Device :=
  if d.get (O.railKind r) = 0 then (d.setRail r 8).modPins fun p => { p with seqEn := modAt p.seqEn r fun _ => false }
  else d.when (d.railSt r == 8) fun d => d.setRail r 0

end Sys2Proof.Machine
end

