-- ==== Sys2Proof/Machine/HoldEntry.lean ====
section
/-! DEFINITION. Hold-up: early start, dropout, return of the baton (10 R266–R284). -/

namespace Sys2Proof.Machine

/-- The states of the chapter act: HoldupEnable is set and a shelf core is active (10 R266). -/
def Device.holdActs (d : Device) : Bool := d.scActive && d.flag O.holdupEnable

/-- String gates whose committed mode is DIODE (10 R271). -/
def Device.diodeGates (d : Device) : List Nat := [2, 3, 4, 5].filter fun g => d.get (O.gateMode g) == 2

/-- The drive of a string gate in DIODE from the early start on (06 R172): full enhancement or the pre-bias, as its V_AK
stands; V_AK at that stamp is no input of the model, so a gate that conducts takes a free one of the two.
DESIGN CHOICE 182 (notes/assumptions). -/
def Device.driveEarly (d : Device) (g : Nat) : Device :=
  if d.flag (O.conducting g) then (d.setDrive g (if d.freeVal % 2 = 0 then .full else .preBias)).used else d.setDrive g .preBias

/-- A hold-up early start on a deviation with first sample `first` (10 R271, R272).
DEDUCED 66 (notes/assumptions). -/
def Device.holdStart (d : Device) (first : Nat) : Device :=
  let gs := d.diodeGates
  let ps := (List.range 4).filter d.charging
  let sag := (gs.map fun g => (d.str (g - 2)).vLap).foldl max 0
  let pre := min (q15 (d.get O.preloadFrac) * max 0 (d.hold.vLap - sag)) (d.volts O.preloadMax)
  let es : HoldEs := { stamp := d.now, dev := first, confirm := first + d.getN O.confirmAngle
                       budget := d.get O.holdupSeconds, sag := sag * 1000, preload := pre, strings := d.hold.contrib
                       low := none }
  let d := gs.foldl Device.driveEarly d
  let d := ps.foldl (fun d n => d.modPins fun p => { p with chPwm := modAt p.chPwm n fun _ => .mid }) d
  let d := d.forAll (List.range 16) fun k d => d.modFeed k fun f => { f with sag := pre, sagStep := 0 }
  d.modHold fun h => { h with es := some es }

/-- A DEV_START in NORMAL: an early start, or an ignored deviation (10 R271).
DESIGN CHOICE 67 (notes/assumptions). -/
def Device.holdDev (d : Device) (first : Nat) : Device :=
  if d.holdActs = true ∧ d.get O.holdupState = 0 ∧ d.flag O.holdupEsEnable = true then
    if d.hold.es.isNone ∧ d.diodeGates ≠ [] then d.holdStart first else d.bump O.ignoredDeviations
  else d

/-- A HOLDUP notification (15 R398): 1 entry, 2 return committed, 3 return complete; its stamp, and the early-start stamp, 0
for none. -/
def Device.holdNotify (d : Device) (code stamp early : Nat) : Device :=
  d.notify 2 (notifyBody 2 80 code 0 stamp early
    (leBytes 1 (d.get O.entryCause) ++ [0, 0, 0] ++ leBytes 4 (d.get O.holdupBudget)))

/-- No placement of slots 4 and 5 is outstanding. -/
def Device.dropPlaces (d : Device) : Device := { d with bus := { d.bus with place4 := [], place5 := [] } }

/-- The entry to HOLDUP is committed: every bit of its confirmation stamp, and all that 10 R274 lists together. -/
def Device.holdEntry (d : Device) (u : HoldDue) : Device :=
  let es := d.hold.es
  let early : Nat := match es with
    | some e => e.stamp
    | none => 0
  let budget := match es with
    | some e => e.budget
    | none => d.get O.holdupSeconds
  let d := d.when es.isSome fun d => d.holdEnd.bump O.holdupCleanStarts
  let d := ((d.set O.holdupState 1).set O.batonHolder 1).set O.entryCause u.causes
  let d := ((d.set O.deviationStamp u.dev).set O.earlyStartStamp early).set O.entryStamp u.stamp
  let d := (((d.set O.lapsSinceChange 0).setFlag O.busArmed false).set O.sourceRow 4).dropPlaces.modHold fun h =>
    { h with restarts := false }
  let d := d.forAll (List.range 4) fun n d => d.suspend n 2
  let d := (d.set O.holdupBudget budget).bump O.holdups
  let ps := leBytes 8 early ++ leBytes 8 u.stamp ++ leBytes 8 u.dev ++ leBytes 1 u.causes ++ [0, 0, 0] ++ leBytes 4 budget
  let d := (d.takeEvent 80 0 0x0602 0 ps es.isSome).1
  let d := (d.holdNotify 1 u.stamp early).edge 120
  d.when (decide (budget < d.get O.holdupTarget)) fun d => d.raiseD 80 0 0x0608 (leBytes 4 budget)

/-- The ruling of the events of one stamp in NORMAL (10 R268, R270, R273–R275): an event of R268 confirms the dropout;
otherwise the DEV_END rules an unruled early start false, or the deviation was ridden through. Between a failure of the
active core and the swap the ruling is left to the other core (01 R15). -/
def Device.ruleNow (d : Device) (u : HoldDue) : Device :=
  if d.coreWaits then d.workDue (.hold u)
  else d.when (d.holdActs && d.get O.holdupState == 0) fun d =>
    if u.causes ≠ 0 then d.holdEntry u
    else if d.hold.es.isSome then d.holdFalse u.stamp
    else d.bump O.rideThroughs

/-- What is due is ruled: no further event can have its stamp. -/
def Device.ruleDue (d : Device) : Device :=
  match d.hold.due with
  | some u => (d.modHold fun h => { h with due := none }).ruleNow u
  | none => d

/-- The stamp goes on to `t`, once what is due at the present one has been ruled (10 R270). -/
def Device.toStamp (d : Device) (t : Nat) : Device :=
  (d.when (decide (d.now < t)) Device.ruleDue).modTb fun b => { b with stamp := t }

/-- An event of hold-up with its stamp joins those that share it; it is ruled as soon as the stamp goes on, at once where it
has gone on already (10 R268, R270).
DEDUCED 29 (notes/assumptions). -/
def Device.holdEvent (d : Device) (stamp : Nat) (f : HoldDue → HoldDue) : Device :=
  let dev : Nat := match d.tb.dev with
    | some x => x.1
    | none => 0
  let d := match d.hold.due with
    | some u => d.when (u.stamp != stamp) Device.ruleDue
    | none => d
  let u := d.hold.due.getD ⟨stamp, dev, 0, false⟩
  (d.modHold fun h => { h with due := some (f u) }).when (decide (stamp < d.now)) Device.ruleDue

/-- A dropout is confirmed by the event of a bit of EntryCause, with its confirmation stamp (10 R268). -/
def Device.dropout (d : Device) (b stamp : Nat) : Device :=
  if d.get O.holdupState = 0 then
    d.when (d.holdActs || (d.coreWaits && d.flag O.holdupEnable)) fun d =>
      d.holdEvent stamp fun u => { u with causes := setBit u.causes b }
  else d.when (d.holdActs && d.get O.holdupState == 1 && d.getN O.entryStamp == stamp) fun d => d.setBitOf O.entryCause b

/-- A return ends without completion: HOLDUP again; placements send nothing (10 R282, R283). -/
def Device.returnEnds (d : Device) (counter : Obj) (code : Nat) : Device :=
  let d := ((d.set O.holdupState 1).set O.lapsSinceChange 0).setFlag O.busArmed false
  let d := d.dropPlaces.modHold fun h => { h with restarts := false }
  (d.bump counter).raiseD 80 0 code []

/-- A return is cancelled by a DEV_START, a line loss or the class NONE (10 R282); between a failure of the active core
and the swap it is left to the other core (01 R15). -/
def Device.returnCancel (d : Device) : Device :=
  if d.coreWaits then d.workDue .returnCancel
  else d.when (d.holdActs && d.get O.holdupState == 2) fun d => d.returnEnds O.returnsCancelled 0x0606

/-- A DEV_END whose K-th sample has a stamp (10 R268, R270, R273). -/
def Device.devEnds (d : Device) (stamp : Nat) : Device :=
  d.when (d.get O.holdupState == 0 && (d.holdActs || (d.coreWaits && d.flag O.holdupEnable))) fun d =>
    d.holdEvent stamp fun u => { u with ended := true }

/-- Conditions of a return commit (10 R278). -/
def Device.returnMay (d : Device) : Bool :=
  d.holdActs && d.get O.holdupState == 1 && d.inZone && d.get O.sourceClass != 0 &&
    decide (d.get O.returnQualLaps ≤ d.get O.qualifiedLaps) &&
    decide (d.get O.returnQualLaps ≤ d.get O.lapsSinceChange) && d.tb.dev.isNone && d.flag O.rectEnable &&
    !(d.rectIn [5, 7]).isEmpty

/-- The return is committed (10 R279). -/
def Device.returnCommit (d : Device) : Device :=
  let lap := d.lap
  let d := ((d.set O.holdupState 2).stampAt O.returnStamp).set O.lapsSinceChange 0
  let d := (d.raiseD 80 0 0x0604 []).holdNotify 2 d.now 0
  let vb := d.bus.vbar.getD (Config.freeRat d.free) + d.volts O.returnLift
  let d := { d with bus := { d.bus with vb := vb, started := true, integ := 0 } }
  let d := ((d.set O.busSetpoint (satU 32 (quant (vb * 1000000)))).set O.integralTrim 0)
  let d := d.forAll (List.range 32) fun r d => (d.modSlot r fun x => { x with share := 0 }).set (O.shareTrim r) 0
  let d := d.modHold fun h => { h with restarts := true, returnLap := lap, returnPaused := 0, staggerLap := [lap, lap] }
  (d.placeRestart false).placeRestart true

/-- A lap of hold-up ends: a removed string leaves the reservation (10 R284), laps since the change, the return's count, and its completion (10 R278, R281, R283,
14 R364). -/
def Device.holdLap (d : Device) : Device :=
  if d.holdActs then
    let gone := fun n => !d.present n
    let d := d.modHold fun h =>
      { h with es := h.es.map fun e => { e with strings := e.strings.filter fun n => !gone n } }
    let d := d.when (d.get O.holdupState != 0 || d.get O.entryStamp != 0) fun d => d.bumpSat O.lapsSinceChange
    if d.get O.holdupState = 2 then
      let d := d.when ((List.range 32).any fun r => d.flag (O.rectRetrying r)) fun d =>
        d.modHold fun h => { h with returnPaused := h.returnPaused + 1 }
      if (d.rectIn [5] ≠ []) ∧ ((List.range 4).all fun n => !(d.present n) || decide ((d.str n).idMax < 1)) = true ∧
          d.tb.linePresent = true ∧ d.tb.dev = none then
        let d := ((d.set O.holdupState 0).set O.batonHolder 0).stampAt O.exitStamp
        ((((d.bump O.returnsCompleted).raiseD 80 0 0x0605 []).holdNotify 3 d.now 0).edge 121)
      else d
    else d
  else d

end Sys2Proof.Machine
end

