-- ==== Sys2Proof/Machine/TimeOps.lean ====
section
/-! DEFINITION. The angle engine: amplitude, presence, the DPLL, template, deviation, classification, qualification
and the scheduler's slots (02 R27–R50, R533). -/

namespace Sys2Proof.Machine

/-- The angle engine runs and tracks the line (02 R38, 01 R12). -/
def Device.aeTracks (d : Device) : Bool := d.live && d.runs engAE && d.flag O.lineTrackEnable

/-- The amplitude is that of a DC feed (02 R33). -/
def Device.dcAmp (d : Device) : Bool := d.tb.dcTest || d.get O.sourceClass == 3

/-- The amplitude of a sample against a fraction of the reference (02 R33): below, equal or above. Voltages in mV. -/
def Device.ampCmp (d : Device) (ab bc ca : Rat) (level : Rat) : Ordering :=
  let ref := level * (d.get O.nominalVoltage : Rat) * 1000
  if d.dcAmp then compareOfLessAndEq |ab| ref
  else
    let al := (2 * ab - bc - ca) / 3
    let be := bc - ca
    compareOfLessAndEq (al * al + be * be / 3) (2 * ref * ref)

/-- Upper limit of the amplitude as a fraction: QualUpperLevel doubled (02 R52). -/
def Device.upperLevel (d : Device) : Rat := 2 * q15 (d.get O.qualUpperLevel)

/-- Phase error of a line phase against an angle (02 R34).
DEDUCED 30 (notes/assumptions). -/
def phaseErr (phi theta : Nat) : Int := ((phi : Int) - theta + 32768) % 65536 - 32768

/-- Frequency word as Q16.16 (02 R34). -/
def toQ1616 (f : Rat) : Int := quant (f * 65536)

/-- The loop filter at one sample (02 R533); `e` in au, −32768 taken as an advance (02 R35).
DESIGN CHOICE 11; DEDUCED 30 (notes/assumptions). -/
def Device.loopFilter (d : Device) (e : Int) : Device :=
  let e : Rat := if e = -32768 then 32768 else e
  let b := if d.get O.sourceClass = 2 ∨ d.get O.sourceClass = 0 then q1616 (d.get O.bandwidthGenerator)
    else q1616 (d.get O.bandwidthUtility)
  let w := 2 * Config.pi * b
  let t : Rat := (d.tb.lapDur : Rat) / 1000000000 / 2048
  let i := d.tb.freqI + w * w / 65536 * e * t
  let f := i + 2 * (707 / 1000) * w / 65536 * e
  if d.get O.timebaseState = 2 then
    let m := d.tb.lapFreq / 1000
    let s := m * (d.get O.slewLimit : Rat) / 65536
    let c := clampQ (m - s) (m + s) f
    d.modTb fun t => { t with freq := c, freqI := if c = f then i else t.freqI }
  else d.modTb fun t => { t with freq := f, freqI := i }

/-- The ramp of the frequency word towards the nominal frequency at one sample (02 R34). -/
def Device.virtualRamp (d : Device) : Device :=
  let step := (d.get O.virtualRamp : Rat) / 1000 / 2048
  let f := d.tb.freq + clampQ (-step) step (q1616 (d.get O.nominalFreq) - d.tb.freq)
  d.modTb fun t => { t with freq := f, freqI := f }

/-- The timebase enters a state (02 R34); the hold-over laps count from the entry to HOLDOVER. -/
def Device.toTimebase (d : Device) (st : Int) : Device :=
  (d.set O.timebaseState st).modTb fun t =>
    { t with lockRun := 0, unlockRun := 0, holdFrom := if st = 1 then t.stamp else t.holdFrom, lapLocked := t.lapLocked && st == 3
             lapTracked := t.lapTracked && (st == 2 || st == 3) }

/-- RELOCK is entered: f_I starts at the frequency word (02 R533). -/
def Device.enterRelock (d : Device) : Device :=
  ((d.toTimebase 2).bump O.relocks).modTb fun t => { t with freqI := t.freq }

/-- The template's bin of a sample (02 R40). -/
def Device.binOf (d : Device) (k phi : Nat) : Nat :=
  let st := d.get O.timebaseState
  if st ≠ 0 ∧ d.get O.sourceClass ≠ 3 then ((phi + 16) / 32) % 2048 else k

/-- The learned bin of a number; `none` for a bin that no sample has loaded yet.
DESIGN CHOICE 26 (notes/assumptions). -/
def Device.templateBin (d : Device) (k : Nat) : Option Bin := d.tb.template.find? fun b => b.k == k

/-- A_T: the largest magnitude of the template (02 R42). -/
def Device.templateMax (d : Device) : Rat :=
  d.tb.template.foldl (fun m b => max m (max |b.ab| (max |b.bc| |b.ca|))) 0

/-- The sample lies outside the window (02 R42).
DESIGN CHOICE 26 (notes/assumptions). -/
def Device.outside (d : Device) (x : Bin) : Bool :=
  d.flag O.templateValid && match d.templateBin x.k with
    | some t => decide (q15 (d.get O.devWindow) * d.templateMax < max |x.ab - t.ab| (max |x.bc - t.bc| |x.ca - t.ca|))
    | none => false

/-- Presence counts, deviation counts and the lap's record of one sample (02 R33, R41–R43). -/
def Device.takeSample (d : Device) (x : Bin) : Device :=
  let lo := d.ampCmp x.ab x.bc x.ca (q15 (d.get O.lossLevel)) == .lt
  let hi := d.ampCmp x.ab x.bc x.ca (q15 (d.get O.returnLevel)) != .lt
  let ok := hi && d.ampCmp x.ab x.bc x.ca d.upperLevel != .gt
  let out := d.outside x
  let valid := d.flag O.templateValid
  let now := d.now
  d.modTb fun t =>
    { t with
      belowRun := if lo then t.belowRun + 1 else 0
      aboveRun := if hi then t.aboveRun + 1 else 0
      lapSamples := t.lapSamples ++ [x]
      lapOutside := t.lapOutside || out
      lapAmpOk := t.lapAmpOk && ok
      outRun := if valid && out then t.outRun + 1 else 0
      outStamps := if valid && out then (t.outStamps ++ [now]).take 16 else []
      inRun := if valid && !out then t.inRun + 1 else 0
      inStamps := if valid && !out then (t.inStamps ++ [now]).take 16 else [] }

/-- The two stamps of a deviation event (02 R42): of the first and of the K-th sample of its run. -/
def runStamps (k : Nat) (l : List Nat) : Nat × Nat := (l.getD 0 0, l.getD (k - 1) 0)

/-- The phase error at a sample: shown, counted for lock and unlock, and filtered (02 R34, R533). -/
def Device.phaseStep (d : Device) (e : Int) : Device :=
  let th := d.get O.lockThreshold
  let d := (d.set O.phaseError e).modTb fun t =>
    { t with
      worstErr := if |t.worstErr| < |e| then e else t.worstErr
      lockRun := if |e| ≤ th then t.lockRun + 1 else 0
      unlockRun := if 4 * th < |e| then t.unlockRun + 1 else 0 }
  d.loopFilter e

/-- One SV10 sample of a tracked line: index, line-to-line voltages in mV, line phase (02 R32–R42). -/
def Device.lineSample (d : Device) (k : Nat) (ab bc ca : Int) (phi : Nat) : Device :=
  let d := d.takeSample ⟨d.binOf k phi, ab, bc, ca⟩
  let st := d.get O.timebaseState
  if st = 2 ∨ st = 3 then d.phaseStep (phaseErr phi (32 * k))
  else if st = 0 then d.virtualRamp
  else d

/-- The template is reset and marked invalid (02 R41).
DESIGN CHOICE 27 (notes/assumptions). -/
def Device.templateReset (d : Device) : Device :=
  (d.setFlag O.templateValid false).modTb fun t =>
    { t with template := [], templateLaps := 0, outRun := 0, inRun := 0, outStamps := [], inStamps := [] }

/-- One bin learned from a lap's sample (02 R41). A bin that is met for the first time is loaded, in the loading lap or
later; a second sample of a bin in the loading lap updates it.
DESIGN CHOICE 167 (notes/assumptions). -/
def Device.learnBin (d : Device) (b : Bin) : Device :=
  let w : Rat := 1 / 2 ^ (d.getN O.learnShift)
  d.modTb fun t =>
    match t.template.find? fun x => x.k == b.k with
    | none => { t with template := t.template ++ [b] }
    | some _ =>
      { t with template := t.template.map fun x =>
          if x.k == b.k then ⟨x.k, x.ab + (b.ab - x.ab) * w, x.bc + (b.bc - x.bc) * w, x.ca + (b.ca - x.ca) * w⟩ else x }

/-- The template learns from the lap that ends (02 R41). -/
def Device.learnLap (d : Device) : Device :=
  if (d.tb.lapLocked || d.tb.lapDc) && !d.tb.lapOutside && !d.tb.lapSamples.isEmpty then
    let d := d.tb.lapSamples.foldl (fun d b => d.learnBin b) d
    let n := d.tb.templateLaps + 1
    (d.modTb fun t => { t with templateLaps := n }).when (decide (d.getN O.minLearnLaps ≤ n)) fun d =>
      d.setFlag O.templateValid true
  else d

/-- Frequency variance over the last 16 laps in mHz², once 16 laps exist (02 R39).
DEDUCED 28 (notes/assumptions). -/
def Device.variance (d : Device) : Option Rat :=
  let l := d.tb.freqs.take 16
  if l.length < 16 then none
  else some ((l.map fun f => (f - mean l) * (f - mean l)).sum / 16)

/-- A frequency in mHz inside 45–66 Hz. -/
def inLineRange (f : Rat) : Bool := decide (45000 ≤ f) && decide (f ≤ 66000)

/-- The class at a lap boundary (02 R38, R39).
DEDUCED 28, 163 (notes/assumptions). -/
def Device.classNow (d : Device) : Int :=
  let old := d.get O.sourceClass
  let th : Rat := d.get O.varThreshold
  if !(d.flag O.lineTrackEnable) then 0
  else if (old = 3 ∧ d.tb.dcFailRun < 16) ∨ 16 ≤ d.tb.dcRun then 3
  else if !d.tb.linePresent || !(inLineRange d.tb.lapFreq) || (old == 0 && d.tb.dcTest) then 0
  else match d.variance with
    | none => 1
    | some v =>
      if old = 2 then (if d.getN O.varReleaseLaps ≤ d.tb.varRun then 1 else 2)
      else if th < v then 2 else 1

/-- The counts of the tests over whole laps (02 R31, R33, R38, R39). -/
def Device.lapTests (d : Device) (m : LapData) : Device :=
  let dc := decide (d.get O.dcMinLevel * 1000 ≤ m.absAb) && decide (m.fundAb * 10 < m.absAb)
  let f : Rat := (m.freq : Rat) / 1000
  let d := d.modTb fun t =>
    { t with
      dcTest := dc
      dcRun := if dc then t.dcRun + 1 else 0
      dcFailRun := if dc then 0 else t.dcFailRun + 1
      freqs := if t.lapPresent then (f :: t.freqs).take 16 else t.freqs
      seenFreqs := if t.lapPresent then (f :: t.seenFreqs).take 16 else t.seenFreqs
      negRun := if t.lapPresent && m.negative then t.negRun + 1 else 0 }
  let low := match d.variance with
    | some v => decide (v ≤ (d.get O.varThreshold : Rat) / 2)
    | none => false
  d.modTb fun t => { t with varRun := if low then t.varRun + 1 else 0 }

/-- The lap that ends is qualified (02 R43); `old` is the class in force during it. -/
def Device.lapQualified (d : Device) (old : Int) : Bool :=
  let ref : Rat := if d.tb.qualFreqs.isEmpty then q1616 (d.get O.nominalFreq) * 1000 else mean d.tb.qualFreqs
  (d.tb.lapTracked || d.tb.lapDc) && d.get O.sourceClass == old && !d.tb.lapOutside &&
    decide (|d.tb.lapFreq - ref| ≤ (d.get O.qualFreqTol : Rat)) && d.tb.lapAmpOk

/-- The count of qualified laps (02 R43). -/
def Device.qualifyLap (d : Device) (old : Int) : Device :=
  if d.lapQualified old then
    let f := d.tb.lapFreq
    (d.bumpSat O.qualifiedLaps).modTb fun t => { t with qualFreqs := (f :: t.qualFreqs).take 16 }
  else d.set O.qualifiedLaps 0

/-- A new class (02 R34, R38, R41, 10 R282). -/
def Device.newClass (d : Device) (c : Int) : Device :=
  let old := d.get O.sourceClass
  if c = old then d
  else
    let d := ((d.set O.sourceClass c).templateReset).raiseD 80 0 0x0601 (leBytes 1 old ++ leBytes 1 c)
    let d := d.when (c == 3 && d.get O.timebaseState != 0) fun d => d.toTimebase 0
    d.when (c == 0) Device.returnCancel

/-- What the angle engine's lap starts from. -/
def Device.lapStart (d : Device) : Device :=
  let st := d.get O.timebaseState
  let dc := d.get O.sourceClass == 3
  d.modTb fun t =>
    { t with lapSamples := [], lapOutside := false, lapLocked := st == 3, lapTracked := st == 2 || st == 3, lapDc := dc
             lapAmpOk := true, lapPresent := t.linePresent, lastSample := none }

/-- The angle engine's work at a lap boundary (02 R34, R38–R43). The measured frequency and duration of the lap are
kept whatever runs (02 R30). While AE does not run nothing judges the laps, and QualifiedLaps keeps its count.
PRESUMED 32; DESIGN CHOICE 168 (notes/assumptions). -/
def Device.lapAngle (d : Device) (m : LapData) : Device :=
  let f : Rat := (m.freq : Rat) / 1000
  let d := (d.set O.lineFreq (toQ1616 (f / 1000))).modTb fun t => { t with lapFreq := f, lapDur := m.duration }
  let d := d.when (d.live && d.runs engAE) fun d =>
    let old := d.get O.sourceClass
    let d := d.when (d.flag O.lineTrackEnable) fun d => (d.lapTests m).learnLap
    (d.newClass d.classNow).qualifyLap old
  d.lapStart

/-- The word of a slot in force (02 R44, R48); FIRE_CNT stands in the slot. -/
def Device.slotWordNow (d : Device) (n : Nat) : Nat :=
  match n with
  | 2 => slotWordOf (d.getN O.zoneOpen) 2 2 true
  | 3 => slotWordOf (if d.zoneRuns then (d.tb.zoneFrom + d.tb.zoneLen) % 65536
      else (d.getN O.zoneOpen + d.getN O.zoneLength) % 65536) 3 2 true
  | _ => (d.tb.slots.getD n ⟨0, 0, none⟩).word

/-- The word of a slot as it reads, with FIRE_CNT (02 R44); for slots 8–63 the word last written. -/
def Device.slotRead (d : Device) (n : Nat) : Int :=
  let w : Int := if n < 8 then d.slotWordNow n else d.get (O.slotWord n)
  w + 65536 * ((d.tb.slots.getD n ⟨0, 0, none⟩).fires % 256 : Nat)

/-- The word of a slot that the next boundary puts into force (02 R46, R48): the angles of the split and of the apply
slot, and the words written to slots 8–63.
DEDUCED 162 (notes/assumptions). -/
def Device.slotWordNext (d : Device) (n : Nat) (s : Slot) : Nat :=
  if n = 0 then slotWordOf (d.getN O.splitAngle) 0 0 true
  else if n = 6 then slotWordOf (d.getN O.applyAngle) 6 0 true
  else if n < 8 then s.word
  else d.getN (O.slotWord n)

/-- Slot words written in the last lap take effect (02 R46).
DEDUCED 162 (notes/assumptions). -/
def Device.loadSlots (d : Device) : Device :=
  d.modTb fun t => { t with slots := t.slots.mapIdx fun n s => { s with word := d.slotWordNext n s } }

/-- The MODE condition of a word (02 R44). -/
def Device.modeHolds (d : Device) (w : Nat) : Bool :=
  let st := d.get O.timebaseState
  match bits w 26 2 with
  | 0 => true
  | 1 => st == 3
  | 2 => ((st == 2 || st == 3) && decide (|d.get O.phaseError| ≤ d.get O.lockThreshold)) || d.get O.sourceClass == 3
  | _ => false

/-- Stamp at which a slot fires in the present lap. -/
def Device.fireStamp (d : Device) (n : Nat) : Nat := d.lap * 65536 + bits (d.slotWordNow n) 48 16

/-- Slots 4 and 5 fire only in the lap of a placement (07 R201). -/
def Device.placedNow (d : Device) (n : Nat) : Bool :=
  let l := if n = 4 then d.bus.place4 else d.bus.place5
  l.any fun x => x.2 == d.lap

/-- The slot fires in the present lap: enabled, its lap, its MODE, its angle not passed, not fired yet (02 R45), and no
slot of a higher number has fired on the same tick (02 R47).
DEDUCED 33 (notes/assumptions). -/
def Device.slotFires (d : Device) (n : Nat) : Bool :=
  let w := d.slotWordNow n
  let t := d.fireStamp n
  let div := bits w 40 8 + 1
  d.sys.coreRunning && bits w 24 1 == 1 && n != 7 && d.lap % div == bits w 32 8 && d.modeHolds w &&
    decide (d.now ≤ t) && (d.tb.slots.getD n ⟨0, 0, none⟩).last != some t &&
    ((d.tb.slots.drop (n + 1)).all fun s => s.last != some t) && ((n != 4 && n != 5) || d.placedNow n)

/-- The firing in hardware: the count, the line's pulse, merged with one of the same tick, and ONESHOT (02 R44,
R45). -/
def Device.slotHardware (d : Device) (n : Nat) : Device :=
  let w := d.slotWordNow n
  let t := d.fireStamp n
  let line := bits w 28 4
  let merged := (List.range 64).any fun m =>
    (d.tb.slots.getD m ⟨0, 0, none⟩).last == some t && bits (d.slotWordNow m) 28 4 == line
  let once := bits w 25 1 == 1 && decide (8 ≤ n)
  let d := (d.toStamp t).modTb fun b =>
    { b with slots := modAt b.slots n fun s =>
               { word := if once then s.word - 2 ^ 24 else s.word, fires := s.fires + 1, last := some t } }
  let d := d.when (once && d.getN (O.slotWord n) == w) fun d => d.set (O.slotWord n) (w - 2 ^ 24 : Nat)
  if merged then d else (d.emit (.sched line)).edge (64 + line)

/-- The exchange zone opens: at most one in each lap (02 R49). -/
def Device.zoneOpens (d : Device) : Device :=
  let lap := d.lap
  let n := d.getN O.zoneLength
  d.when (d.tb.zoneLap != some lap) fun d => d.modTb fun t =>
    { t with zoneOpen := true, zoneFrom := t.stamp, zoneLen := n, zoneLap := some lap }

/-- The exchange zone closes. -/
def Device.zoneCloses (d : Device) : Device := d.modTb fun t => { t with zoneOpen := false }

/-- AE judges the line anew: no line present, and no run of samples or laps in progress (02 R31, R33, R38, R39). -/
def Timebase.judgeAnew (t : Timebase) : Timebase :=
  { t with belowRun := 0, aboveRun := 0, linePresent := false, lapPresent := false, freqs := [], qualFreqs := []
           dcTest := false, dcRun := 0, dcFailRun := 0, varRun := 0, negRun := 0 }

/-- Line tracking starts (02 R28, R33). -/
def Device.trackOn (d : Device) : Device := d.modTb Timebase.judgeAnew

/-- Line tracking ends: VIRTUAL with the word held, no line present, no loss (02 R33, R34). While AE does not run the
state goes on reading HOLDOVER (02 R37). -/
def Device.trackOff (d : Device) : Device :=
  (d.when (d.runs engAE) fun d => d.toTimebase 0).modTb fun t => { t.judgeAnew with freqI := t.freq }

/-- AE is lost (02 R37): the word is kept and the state reads HOLDOVER. -/
def Device.angleLost (d : Device) : Device := d.toTimebase 1

/-- AE runs again: it judges the line anew, and the timebase is VIRTUAL where tracking is disabled or the class is DC
(02 R33, R34, R37).
DESIGN CHOICE 164 (notes/assumptions). -/
def Device.angleBack (d : Device) : Device :=
  (d.when (!d.flag O.lineTrackEnable || d.get O.sourceClass == 3) fun d => d.toTimebase 0).modTb fun t =>
    { t.judgeAnew with freqI := t.freq }

/-- Line lock is lost with the line still present: recorded and counted as class D (01 R21); 19 R476 gives the event no
code, so its code is a free value.
DESIGN CHOICE 169 (notes/assumptions). -/
def Device.lockLostNow (d : Device) : Device := (d.enterRelock.used).raiseD 80 0 (d.freeVal % 65536).toNat []

end Sys2Proof.Machine
end

