-- ==== Sys2Proof/Machine/EngineOps.lean ====
section
/-! DEFINITION. Engines: loss, return, retirement, pair moves and swaps of the shelf cores (01 R12–R15, R21, 04
R115–R117, 20 R507–R512). -/

namespace Sys2Proof.Machine

/-- The engine of a number. -/
def Device.engine (d : Device) (e : Nat) : Engine := d.eng.engine.getD e ⟨0, false, none⟩
/-- The block with one engine changed. -/
def Device.modEngine (d : Device) (e : Nat) (f : Engine → Engine) : Device :=
  { d with eng := { d.eng with engine := modAt d.eng.engine e f } }
/-- The block with the engines' record changed. -/
def Device.modEng (d : Device) (f : Engines → Engines) : Device := { d with eng := f d.eng }
/-- An engine enters a state (20 R515). -/
def Device.setEngine (d : Device) (e : Nat) (st : Int) : Device :=
  (d.set (O.engineState e) st).stampAt (O.engineStateStamp e)
/-- Source code of an engine in block 85 (14 R355). -/
def engineSource (e : Nat) : Nat := 0x0200 + e
/-- The banks of a class. -/
def Device.banks (d : Device) (c : Nat) : ClassBanks := d.mram.banks.getD c ⟨⟨false, [], 0, 0⟩, ⟨false, [], 0, 0⟩, 0, 0⟩
/-- A bank of a class. -/
def ClassBanks.bank (b : ClassBanks) (n : Nat) : Bank := if n = 0 then b.bank0 else b.bank1
/-- The banks of a class changed. -/
def Device.modBanks (d : Device) (c : Nat) (f : ClassBanks → ClassBanks) : Device :=
  d.modMram fun m => { m with banks := modAt m.banks c f }
/-- The objects 0xA020 + c from the banks of a class (20 R515). -/
def Device.showBanks (d : Device) (c : Nat) : Device :=
  let b := d.banks c
  ((((d.set (O.bank0Version c) b.bank0.version).set (O.bank1Version c) b.bank1.version).set (O.bankValid c)
    (b2i b.bank0.valid + 2 * b2i b.bank1.valid)).set (O.bootBank c) b.boot).set (O.securityFloor c) b.floor

/-- The other shelf core. -/
def otherCore (e : Nat) : Nat := if e = 0 then 1 else 0

/-- GE is lost, or both shelf cores (01 R21, 08 R231): the chargers stop. -/
def Device.chargersLost (d : Device) : Device := d.forAll (List.range 4) fun n d => d.suspend n 5

/-- GE is lost (09 R263). -/
def Device.gaugeLost (d : Device) : Device :=
  let d := d.chargersLost
  (d.forAll (List.range 4) fun n d => d.setFlag (O.socValid n) false).set O.holdupSeconds 0xFFFFFFFF

/-- The write-backs that a brown-out warning, or the loss of GE, has held up (09 R260, R263). -/
def Device.writeBacksDue (d : Device) : Device :=
  d.forAll (List.range 4) fun n d => d.when (d.str n).deferred fun d => d.writeBack n

/-- GE runs again: the filter of every string that is present restarts, an identity settled meanwhile has its effect, and
the write-backs held up are made (09 R258, R260, R263). -/
def Device.gaugeBack (d : Device) : Device :=
  let d := d.forAll (List.range 4) fun n d => d.when (d.present n) fun d => match (d.str n).due with
    | some (same, v) => d.gaugeIdentify n same v
    | none => (d.filterStart n).gaugeShow n
  d.when (!d.sys.brownOut) Device.writeBacksDue

/-- BE is lost (19 R494): live and post-trigger captures stop.
DESIGN CHOICE 132 (notes/assumptions). -/
def Device.recorderLost (d : Device) : Device :=
  let d := d.forAll (List.range 16) fun i d =>
    let st := (d.pfSlot i).state
    d.when (st == 1 || st == 2) fun d => d.modPf i fun _ => PfSlot.reset
  (d.set O.pfState 0).set O.liveSlot 0xFF

/-- Both shelf cores are lost (01 R21, 10 R284): an unruled early start is false, the chargers stop. -/
def Device.coresLost (d : Device) : Device :=
  (((d.modEng fun x => { x with swap := none, failedLap := none, due := [] }).set O.activeShelfCore 0xFF).holdLost).chargersLost

/-- A shelf core becomes active with no other one running (12 R338, 11 R290).
DEDUCED 142 (notes/assumptions). -/
def Device.coreStarts (d : Device) (e : Nat) : Device :=
  (((d.setEngine e 1).set O.activeShelfCore e).seqCoreBack).restoreLedger

/-- The core that is not the active one stands by (01 R15). -/
def Device.standbyCore (d : Device) : Option Nat :=
  let a := d.getN O.activeShelfCore
  let e := otherCore a
  if a < 2 ∧ d.get (O.engineState e) = 2 then some e else none

/-- The two feeds of an engine that no engine takes over: safe state, gate open, class B of each (01 R13).
DEDUCED 140 (notes/assumptions). -/
def Device.pairSafe (d : Device) (n : Nat) : Device :=
  d.forAll [2 * n, 2 * n + 1] fun k d =>
    let d := ((d.feedSafe k).endHiccup k).setDrven k false
    let d := (d.when (d.feedSt k != 0 && d.feedSt k != 8) fun d => d.set (O.feedState k) 7).tgDriveOff k
    d.raiseB k 0 0x0C01 []

/-- LE8 can take over a pair: it holds none, and is in reserve or shadows a pair that it would take (01 R13, 04 R117).
DEDUCED 141 (notes/assumptions). -/
def Device.le8CanTake (d : Device) : Bool :=
  (d.get (O.engineState 10) == 2 || d.get (O.engineState 10) == 3) && d.get O.le8Pair == 0xFF

/-- LE8 takes a pair (04 R115, R117). -/
def Device.le8Takes (d : Device) (n : Nat) : Device :=
  let d := d.forAll [2 * n, 2 * n + 1] fun k d => d.set (O.controlEngine k) 8
  (d.setEngine 10 1).set O.le8Pair n

/-- LEn takes its pair from LE8 (20 R508). -/
def Device.le8Gives (d : Device) (n : Nat) : Device :=
  let d := d.forAll [2 * n, 2 * n + 1] fun k d => d.set (O.controlEngine k) n
  ((d.setEngine (engLE n) 1).setEngine 10 2).set O.le8Pair 0xFF

/-- LE8 is in reserve.
DEDUCED 141 (notes/assumptions). -/
def Device.le8Free (d : Device) : Bool := d.get (O.engineState 10) == 2 && d.get O.le8Pair == 0xFF

/-- The engine that a move hands the pair to. -/
def Move.taker (m : Move) : Nat := if m.back then engLE m.pair else 10

/-- A pair move that cannot be finished is refused; a taker that shadows stands by again (20 R508). -/
def Device.moveRefused (d : Device) (m : Move) : Device :=
  ((d.when (d.get (O.engineState m.taker) == 3) fun d => d.setEngine m.taker 2).modEng fun x =>
    { x with move := none }).set O.pairMoveState 4

/-- A pair move that the loss of an engine ends: one of its two engines, or LE8's takeover of the failed engine's pair
(01 R12, 20 R508). -/
def Device.moveLost (d : Device) (e : Nat) : Device :=
  match d.eng.move with
  | some m => d.when (e == 10 || e == engLE m.pair || !m.back) fun d => d.moveRefused m
  | none => d

/-- A pair move can go on: its taker stands by, to LE8 only while LE8 holds no pair and LEn runs it (01 R12, 20 R507). -/
def Device.moveHolds (d : Device) (m : Move) : Bool :=
  let n := m.pair
  if m.back then d.get O.le8Pair == n && d.runs 10
  else d.get O.le8Pair == 0xFF && d.getN (O.controlEngine (2 * n)) == n && d.runs (engLE n)

/-- What an engine's loss does beside its own state (01 R13, R15, R21, 04 R117), `was` being its state before. The
class is that of R21: B for AE, GE, NE and both cores, C for BE, D where another engine takes over.
DEDUCED 140, 141, 142 (notes/assumptions). -/
def Device.dutiesLost (d : Device) (e : Nat) (was : Int) (planned : Bool) : Device :=
  let say := fun (cls : Nat) (d : Device) =>
    if planned then d
    else if cls = 2 then d.raiseB 85 (engineSource e) 0x0C01 []
    else if cls = 1 then d.raiseC 85 (engineSource e) 0x0C01 []
    else d.raiseD 85 (engineSource e) 0x0C01 []
  if e < 2 then
    if d.getN O.activeShelfCore = e ∧ was = 1 then
      match d.standbyCore with
      | some _ => say 0 (d.modEng fun x => { x with swap := some (d.lap + 1), failedLap := some d.lap, due := [] })
      | none => (say 2 d).coresLost
    else if d.coreWaits && d.getN O.activeShelfCore != e then
      let d := (d.raiseB 85 (engineSource e) 0x0C01 []).coresLost
      d.when (d.get (O.engineState (otherCore e)) == 2) fun d => d.coreStarts (otherCore e)
    else say 0 (d.when (!d.coreWaits) fun d => d.modEng fun x => { x with swap := none })
  else if e < 10 then
    let n := e - 2
    if d.getN (O.controlEngine (2 * n)) = n ∧ was = 1 then
      if d.le8CanTake then
        let d := ((say 0 d).moveLost e).le8Takes n
        d.when (!planned) fun d => d.forAll [2 * n, 2 * n + 1] fun k d => d.raiseD k 0 0x0C01 []
      else (d.moveLost e).pairSafe n
    else
      say 0 (match d.eng.move with
        | some m => d.when (e == engLE m.pair) fun d => d.moveRefused m
        | none => d)
  else if e = 10 then
    let d := d.moveLost 10
    let p := d.getN O.le8Pair
    if p < 8 then d.pairSafe p else say 0 d
  else if e = 11 then (say 2 d).angleLost
  else if e = 12 then (say 2 d).gaugeLost
  else if e = 13 then (say 2 d).netDown
  else if e = 14 then (say 1 d).recorderLost
  else d

/-- What the return of an engine into service does (01 R21, 09 R263, 15 R403, 19 R482).
DEDUCED 143 (notes/assumptions). -/
def Device.dutiesBack (d : Device) (e : Nat) : Device :=
  if e < 2 then
    if d.get O.activeShelfCore = 0xFF then d.coreStarts e else d.setEngine e 2
  else if e < 11 then d.setEngine e 2
  else
    let d := d.setEngine e 1
    if e = 11 then d.angleBack
    else if e = 12 then d.gaugeBack
    else if e = 13 then d.netUp
    else if e = 14 then d.recorderBack
    else d

/-- An engine is retired as a class-B event (20 R512).
DEDUCED 141 (notes/assumptions). -/
def Device.retireB (d : Device) (e : Nat) : Device := (d.setEngine e 5).raiseB 85 (engineSource e) 0x0C03 []

/-- GD declares an engine failed (20 R512): its duties are handed on; a second failure retires it. -/
def Device.engineFails (d : Device) (e : Nat) : Device :=
  let was := d.get (O.engineState e)
  let second := (d.engine e).failedOnce
  let d := ((d.setEngine e 4).bump (O.engineFailures e)).modEngine e fun x => { x with failedOnce := true, load := none }
  let d := d.dutiesLost e was second
  d.when second fun d => d.retireB e

/-- When every engine of a class in service runs one bank, it becomes the boot bank and the security floor rises
(20 R510); under a brown-out warning this write of MRAM waits for its end (01 R24). -/
def Device.bootBankNow (d : Device) (c : Nat) : Device :=
  if d.sys.brownOut then d else
  let es := (List.range 16).filter fun e => engineClass e == c && d.get (O.engineState e) != 5
  match es.map fun e => (d.engine e).bank with
  | b :: rest =>
    if rest.all (· == b) && (d.banks c).boot != b then
      (d.modBanks c fun x => { x with boot := b, floor := max x.floor (x.bank b).security }).showBanks c
    else d
  | [] => d

/-- An engine runs a bank (20 R509): RunningBank with the pending GD load, FirmwareVersion. -/
def Device.showEngine (d : Device) (e : Nat) : Device :=
  let x := d.engine e
  let d := d.set (O.runningBank e) (x.bank + (if e = 15 ∧ d.mram.gdPending.isSome then 128 else 0) : Nat)
  d.set (O.firmwareVersion e) ((d.banks (engineClass e)).bank x.bank).version

/-- A PairMove is refused (20 R507): pair, direction, boundary. -/
def Device.pairMoveRefused (d : Device) (v : Int) : Bool :=
  let n := field v 0 1
  let b := field v 4 8
  d.eng.move.isSome || (b != 0 && decide (b < d.lap + 2)) ||
    (if field v 1 1 = 0 then !(d.le8Free && d.getN (O.controlEngine (2 * n)) == n && d.runs (engLE n))
     else !(d.get O.le8Pair == n && d.runs 10 && d.get (O.engineState (engLE n)) == 2))

/-- A PairMove is accepted (20 R507): 0 selects the lap after next. -/
def Device.pairMoveNow (d : Device) (v : Int) : Device :=
  let b := if field v 4 8 = 0 then d.lap + 2 else field v 4 8
  ((d.modEng fun x => { x with move := some ⟨field v 0 1, field v 1 1 != 0, b⟩ }).set O.pairMoveState 1).set O.pairMoveLap b

/-- The lap before the boundary of a move begins: the taking engine loads and shadows (04 R115, 20 R508).
DEDUCED 144 (notes/assumptions). -/
def Device.moveShadow (d : Device) : Device :=
  match d.eng.move with
  | some m =>
    d.when (decide (m.boundary ≤ d.lap + 1) && d.get O.pairMoveState == 1) fun d =>
      if d.moveHolds m && d.get (O.engineState m.taker) == 2 then (d.setEngine m.taker 3).set O.pairMoveState 2
      else d.moveRefused m
  | none => d

/-- The first loop sample at or after the boundary (04 R115, R116, 20 R508); `same`: no shadow U differed.
DEDUCED 144 (notes/assumptions). -/
def Device.moveCommit (d : Device) (same : Bool) : Device :=
  match d.eng.move with
  | some m =>
    d.when (decide (m.boundary ≤ d.lap) && d.get O.pairMoveState == 2) fun d =>
      let taker := m.taker
      let holds := d.moveHolds m
      let d := d.modEng fun x => { x with move := none }
      let params := leBytes 1 m.pair ++ leBytes 1 (b2i m.back)
      if same && holds then
        let d := if m.back then d.le8Gives m.pair else (d.le8Takes m.pair).setEngine (engLE m.pair) 2
        (d.set O.pairMoveState 3).raiseD (2 * m.pair) 0 0x010E params
      else ((d.setEngine taker 2).set O.pairMoveState 4).raiseC (2 * m.pair) 0 0x010F params
  | none => d

/-- A SwapLap is refused: the standby core must be healthy and not updating (20 R507). -/
def Device.swapRefused (d : Device) : Bool := d.standbyCore.isNone || !d.scActive

/-- A SwapLap is accepted (20 R507): 0 selects the next boundary.
DESIGN CHOICE 145 (notes/assumptions). -/
def Device.swapNow (d : Device) (lap : Int) : Device :=
  d.modEng fun x => { x with swap := some (if lap = 0 then d.lap + 1 else lap.toNat) }

/-- The early start at the takeover of a failed core (10 R284): one that the failed core had made after the last boundary
is ruled false; with the deviation outstanding and none unruled a new one is made. `l`: lap of the failure.
DEDUCED 66 (notes/assumptions). -/
def Device.takeoverHold (d : Device) (l : Nat) : Device :=
  let d := match d.hold.es with
    | some es => d.when (decide (l * 65536 ≤ es.stamp)) fun d => d.holdFalse d.now
    | none => d
  match d.tb.dev with
  | some dv => d.when d.hold.es.isNone fun d => d.holdDev dv.1
  | none => d

/-- One piece of the policy work of the lap in which the active core failed, done by the core that has taken over (01
R15). -/
def Device.redo (d : Device) : PolicyWork → Device
  | .commit start powers => d.lapCommit start powers
  | .sharing v => d.sharingUpdate v
  | .hold u => d.ruleNow u
  | .returnCancel => d.returnCancel

/-- The swap at a lap boundary (01 R15, 10 R284, 20 R508). After a failure the new core rules the early start, does the
policy work that fell due since, in its order, and takes up the rails (12 R338).
DESIGN CHOICE 145; DEDUCED 66, 142 (notes/assumptions). -/
def Device.swapDue (d : Device) : Device :=
  match d.eng.swap with
  | some b =>
    if b ≤ d.lap then
      let failed := d.eng.failedLap
      let due := d.eng.due
      let old := d.getN O.activeShelfCore
      let d := d.modEng fun x => { x with swap := none, failedLap := none, due := [] }
      match d.standbyCore with
      | none => d
      | some e =>
        let d := d.when (d.get (O.engineState old) == 1) fun d => d.setEngine old 2
        let d := (((d.setEngine e 1).set O.activeShelfCore e).bump O.swaps).raiseD 85 (engineSource e) 0x0C02 [BitVec.ofNat 8 e]
        match failed with
        | some l => (due.foldl Device.redo (d.takeoverHold l)).seqCoreBack
        | none => d
    else d
  | none => d

/-- An EngineRetire is refused (20 R512): GD, the active core, a loop engine that holds a pair. -/
def Device.retireRefused (d : Device) (e : Nat) : Bool :=
  e == 15 || (e < 2 && d.getN O.activeShelfCore == e) || (decide (2 ≤ e ∧ e < 10) && d.getN (O.controlEngine (2 * (e - 2))) == e - 2) ||
    (e == 10 && d.get O.le8Pair != 0xFF)

/-- An engine is retired on request (20 R512). -/
def Device.retireNow (d : Device) (e : Nat) : Device :=
  let was := d.get (O.engineState e)
  ((d.setEngine e 5).dutiesLost e was true).raiseD 85 (engineSource e) 0x0C03 []

/-- An EngineUpdate is refused (20 R509): the bank, or the engine's preconditions. -/
def Device.updateRefused (d : Device) (e bank : Nat) : Bool :=
  let b := (d.banks (engineClass e)).bank bank
  let st := d.get (O.engineState e)
  !b.valid || (d.engine e).load.isSome || st == 4 || st == 5 ||
    (if e < 2 then !(st == 2 && d.runs (otherCore e) && d.getN O.activeShelfCore == otherCore e)
     else if e < 10 then !(d.getN O.le8Pair == e - 2 && st == 2)
     else if e = 10 then !d.le8Free
     else if e = 11 then !(d.get O.holdupState == 0 && d.tb.dev.isNone && d.hold.es.isNone)
     else false)

/-- An update starts (20 R509): GD's is pending until the next power-on or wake; the others go out of service.
DEDUCED 143 (notes/assumptions). -/
def Device.updateNow (d : Device) (path e bank : Nat) : Device :=
  if e = 15 then (d.modMram fun m => { m with gdPending := some bank }).showEngine 15
  else
    let was := d.get (O.engineState e)
    let d := (d.modEngine e fun x => { x with load := some (bank, path) }).setEngine e 6
    if e = 14 then d.recorderLost else if 11 ≤ e ∧ e ≠ 13 then d.dutiesLost e was true else d

end Sys2Proof.Machine
end

