-- ==== Sys2Proof/Machine/PackageOps.lean ====
section
/-! DEFINITION. Firmware packages: the staging buffer, verification and installation (20 R504–R506). -/

namespace Sys2Proof.Machine

/-- Bytes held contiguously from offset 0, and the state of the buffer (20 R505). -/
def Device.setPackage (d : Device) (bs : List Byte) : Device :=
  ((d.modEng fun e => { e with package := bs }).set O.packageBytes bs.length).set O.packageState (if bs.isEmpty then 0 else 1)

/-- A verification or an installation is in progress.
DEDUCED 146 (notes/assumptions). -/
def Device.packageBusy (d : Device) : Bool := d.eng.verifying.isSome || d.eng.installing.isSome

/-- A piece outside its rules (20 R505): no whole offset, beyond the bytes held, beyond the 256 KiB.
DEDUCED 146 (notes/assumptions). -/
def Device.pieceBad (d : Device) (bs : List Byte) : Bool :=
  let off := ofLe (bs.take 4)
  decide (bs.length < 4) || decide (d.eng.package.length < off) || decide (262144 < off + (bs.length - 4))

/-- An accepted piece (20 R505): offset 0 empties the buffer first.
DEDUCED 146 (notes/assumptions). -/
def Device.pieceNow (d : Device) (bs : List Byte) : Device :=
  let off := ofLe (bs.take 4)
  let old := if off = 0 then [] else d.eng.package
  d.setPackage (old.take off ++ bs.drop 4 ++ old.drop (off + (bs.length - 4)))

/-- A field of the package. -/
def packageField (p : List Byte) (off n : Nat) : Nat := ofLe ((p.drop off).take n)

/-- Why a package is rejected: the first cause of 20 R505, 0 for none.
DEDUCED 147 (notes/assumptions). -/
def Device.packageVerdict (d : Device) : Nat :=
  let p := d.eng.package
  let cls := packageField p 6 1
  let len := packageField p 16 4
  if p.length < 64 ∨ packageField p 0 4 ≠ 0x58504C55 ∨ packageField p 4 2 ≠ 1 ∨ packageField p 7 1 ≠ 0 ∨
      packageField p 52 12 ≠ 0 ∨ 6 < cls then 1
  else if p.length ≠ 128 + len then 2
  else if Config.sha256 ((p.drop 64).take len) ≠ (p.drop 20).take 32 then 3
  else if Config.ed25519Ok (p.take (64 + len)) (p.drop (64 + len)) = false then 4
  else if (packageField p 12 2 : Int) < (d.banks cls).floor then 5
  else if Config.siliconStepping < packageField p 14 2 then 6
  else 0

/-- PackageVerify 1 (20 R505): the verdict is reached on the buffer as it stands.
DEDUCED 147 (notes/assumptions). -/
def Device.verifyNow (d : Device) (path : Nat) : Device :=
  let v := d.packageVerdict
  d.modEng fun e => { e with verifying := some (path, v) }

/-- The verdict of a verification (20 R505).
DEDUCED 147 (notes/assumptions). -/
def Device.verifyDone (d : Device) : Device :=
  match d.eng.verifying with
  | none => d
  | some (path, v) =>
    let p := d.eng.package
    let d := (d.modEng fun e => { e with verifying := none }).set O.packageReject v
    let d := (((d.set O.packageState (if v = 0 then 2 else 3)).set O.packageClass (packageField p 6 1)).set O.packageVersion
      (packageField p 8 4)).set O.packageSecurity (packageField p 12 2)
    d.answer path 0xA010 3 0 0 []

/-- The bank that an installation fills: not BootBank, and run or being loaded by no engine (20 R506).
DEDUCED 148 (notes/assumptions). -/
def Device.freeBank (d : Device) (c : Nat) : Option Nat :=
  let b := 1 - (d.banks c).boot
  let used := (List.range 16).any fun e =>
    engineClass e == c && d.get (O.engineState e) != 4 && d.get (O.engineState e) != 5 && d.get (O.engineState e) != 0 &&
      ((d.engine e).bank == b || (d.engine e).load.any fun l => l.1 == b)
  if used then none else some b

/-- PackageInstall is refused (20 R506).
DEDUCED 148 (notes/assumptions). -/
def Device.installRefused (d : Device) : Bool :=
  d.get O.packageState != 2 || d.packageBusy || (d.freeBank (d.getN O.packageClass)).isNone

/-- A bank of a class changed. -/
def ClassBanks.modBank (b : ClassBanks) (n : Nat) (f : Bank → Bank) : ClassBanks :=
  if n = 0 then { b with bank0 := f b.bank0 } else { b with bank1 := f b.bank1 }

/-- PackageInstall 1 (20 R506): the copy starts, and the bank is not valid while it lasts. -/
def Device.installNow (d : Device) (path : Nat) : Device :=
  let c := d.getN O.packageClass
  match d.freeBank c with
  | none => d
  | some b =>
    ((d.modBanks c fun x => x.modBank b fun k => { k with valid := false }).showBanks c).modEng fun e =>
      { e with installing := some path }

/-- The copy has been read back (20 R506). -/
def Device.installDone (d : Device) (ok : Bool) : Device :=
  match d.eng.installing with
  | none => d
  | some path =>
    let c := d.getN O.packageClass
    let p := d.eng.package
    let img := (p.drop 64).take (packageField p 16 4)
    let v := d.get O.packageVersion
    let sec := d.get O.packageSecurity
    let d := d.modEng fun e => { e with installing := none }
    if ok then
      let b := 1 - (d.banks c).boot
      let d := ((d.modBanks c fun x => x.modBank b fun _ => ⟨true, img, v, sec⟩).showBanks c).set O.packageState 4
      d.answer path 0xA010 9 0 0 []
    else d.answer path 0xA010 9 0x0818 0 []

end Sys2Proof.Machine
end

