-- ==== Sys2Proof/Machine/PowerOps.lean ====
section
/-! DEFINITION. Start-up, standby and wake: resets, engine loads, the restore of the stored configuration (16 R422, 20
R497–R500, R510, 21 R523). -/

namespace Sys2Proof.Machine

/-- The held objects of 16 R422 that a block enables itself by. -/
def heldEnables : List Obj :=
  [O.lineTrackEnable, O.holdupEnable, O.rectEnable, O.chargeEnable] ++ (List.range 4).map O.stringEnable ++
    (List.range 16).map O.feedEnable ++ (List.range 16).map O.tgEnable ++ (List.range 6).map O.gateRequest ++
    [O.seqEnable, O.seqFltEnable, O.creditEnable, O.routerEnable]

/-- The port configuration of a field port (16 R422, 15 R380). -/
def portConfig (p : Nat) : List Obj := [O.plcaNodeId p, O.plcaNodeCount p, O.plcaToTimer p, O.plcaBurst p]

/-- Addresses of every held object (16 R422).
DEDUCED 114 (notes/assumptions). -/
def heldKeys : List Nat := (heldEnables ++ portConfig 0 ++ portConfig 1).map Obj.key

/-- Every held enable is 0 in force.
DEDUCED 114 (notes/assumptions). -/
def Device.heldZero (d : Device) : Bool := heldEnables.all fun o => d.get o == 0

/-- The controller is held in reset: every output inert; MRAM and the AON domain keep what they hold. `cause` is what
the next power-on record gives (19 R484, 20 R497, 21 R523).
DEDUCED 135 (notes/assumptions). -/
def Device.intoReset (d : Device) (cause : Nat) : Device :=
  let sys : Sys := { d.sys with vdd := false, coreRunning := false, standby := 0, outOfRange := [], resetCause := cause
                                laterCauses := 0, aonCalibrated := false }
  { Device.reset d.mram d.aon sys with outs := d.outs, free := d.free }

/-- Bank that the engines of a class start from (20 R509, R510): GD's pending one, BootBank, or the other one where it
is valid and not below the floor. -/
def Device.startBank (d : Device) (c : Nat) : Option Nat :=
  let b := d.banks c
  let boot := if (b.bank b.boot).valid then some b.boot
    else if (b.bank (1 - b.boot)).valid && decide (b.floor ≤ (b.bank (1 - b.boot)).security) then some (1 - b.boot)
    else none
  match (if c = 6 then d.mram.gdPending else none) with
  | some p => if (b.bank p).valid then some p else boot
  | none => boot

/-- An engine is loaded at start-up (20 R498 steps 2 and 3): it runs its class's bank, or is retired (R499). -/
def Device.startEngine (d : Device) (bad : List Nat) (e : Nat) : Device :=
  match (if bad.contains e then none else d.startBank (engineClass e)) with
  | some b =>
    ((d.modEngine e fun x => { x with bank := b }).showEngine e).setEngine e (if e = 10 then 2 else 1)
  | none => d.setEngine e 5

/-- GD has loaded: a pending bank becomes its BootBank (20 R509, R510). -/
def Device.gdLoaded (d : Device) : Device :=
  if d.sys.brownOut then d.deferWrite .gdLoad
  else ((d.modMram fun m => { m with gdPending := none }).bootBankNow 6).showEngine 15

/-- The objects that MRAM and the AON domain give (14 R367, 19 R473, R485, 15 R386, 20 R515).
DEDUCED 90 (notes/assumptions). -/
def Device.showMram (d : Device) : Device :=
  let d := d.forAll (List.range 7) fun c d => d.showBanks c
  let d := d.forAll (List.range 8) fun s d => d.setFlag (O.keyValid s) ((d.mram.keys.getD s none).isSome)
  let d := (d.setFlag O.clearKeyValid d.mram.clearKey.isSome).setFlag O.full (decide (65536 ≤ d.mram.held))
  let d := (d.set O.powerOnCount d.mram.powerOnCount).set O.journalUse d.mram.journal
  match d.aon.prevClassA with
  | some c => (((d.set O.prevClassABlock c.block).set O.prevClassASource c.source).set O.prevClassACode c.code).set
      O.prevClassAStamp c.stamp
  | none => d

/-- Stored values of the sequencer's objects, by address. -/
def seqKey (k : Nat) : Bool :=
  let i := k / 256
  i == 0x5800 || (decide (0x5810 ≤ i) && decide (i ≤ 0x5827))

/-- The stored configuration is restored (16 R422, 20 R498 step 4), and the rails in use are OFF (12 R321): an entry that fails its check is not there any
more; the held objects stay at 0.
DEDUCED 114 (notes/assumptions). -/
def Device.restoreStore (d : Device) (bad : List Nat) : Device :=
  let n := (d.mram.store.filter fun e => bad.contains e.1).length
  let d := d.modMram fun m => { m with store := m.store.filter fun e => !bad.contains e.1 }
  let d := { d with regs := d.mram.store.filter fun e => !heldKeys.contains e.1 }
  let d := d.set O.storeLoadErrors n
  let d := d.when (d.regs.any fun e => seqKey e.1) fun d => d.set O.worstRecovery d.worstNow
  let d := d.forAll d.railsInUse fun r d => (d.set (O.railState r) 0).stampAt (O.railStateStamp r)
  let d := d.forAll (List.range 96) fun c d => d.when (d.feedOf c).isNone fun d => d.set (O.cellState c) 0
  (d.forAll (List.range 16) fun k d => (d.recount k).updateCapacity k).loadSlots

/-- The record of the start and what has failed in it (16 R422, 19 R484, 20 R499, R500): the power-on record comes
first. `wake`: duration in ms and laps skipped.
DEDUCED 136 (notes/assumptions). -/
def Device.startRecords (d : Device) (wake : Option (Int × Nat)) : Device :=
  let c := d.aon.prevClassA.getD ⟨0xFF, 0, 0, 0⟩
  let d := match wake with
    | none => d.raiseD 83 0 0x0001 (leBytes 4 d.mram.powerOnCount ++ leBytes 1 d.sys.resetCause ++ [0] ++ leBytes 1 c.block ++
        leBytes 2 c.source ++ leBytes 2 c.code)
    | some w => d.raiseD 83 0 0x0004 (leBytes 8 w.1 ++ leBytes 8 w.2)
  let n := d.get O.storeLoadErrors
  let d := d.when (n != 0) fun d => d.raiseC 82 0 0x0B05 (leBytes 4 n)
  d.forAll (List.range 16) fun e d => d.when (d.get (O.engineState e) == 5) fun d => d.raiseB 85 (engineSource e) 0x0C03 []

/-- Steps 5 to 7 of 20 R498: DDR4 training, NE with the field ports, the shelf cores with the ledger, the learned
records, and the SDA checks (07 R184). -/
def Device.startBlocks (d : Device) (sda : List Sda) : Device :=
  let d := d.when (!d.vddaOk) fun d => d.forAll (List.range 6) fun g d => d.setBitOf (O.forceOffCause g) 3
  let d := d.ddrEnabled
  let d := if d.runs engNE then d.netUp else { d with mgmt := { d.mgmt with winState := 3 } }
  let d := (d.portStart 0).portStart 1
  let d := d.forAll (List.range 4) fun n d => (d.restoreLearned n).strGatePolicy n
  let d :=
    if d.get (O.engineState 0) = 1 then
      ((d.when (d.get (O.engineState 1) == 1) fun d => d.setEngine 1 2).set O.activeShelfCore 0).restoreLedger
    else if d.get (O.engineState 1) = 1 then (d.set O.activeShelfCore 1).restoreLedger
    else d.set O.activeShelfCore 0xFF
  d.forAll (List.range 4) fun p d =>
    match sda.getD p .high with
    | .high => d
    | .freed => d.pbRecovered p
    | .stuck => d.pbStuck p

/-- Autostart begins: step 1 of the profile (20 R498 step 8, R501). -/
def Device.autostartBegin (d : Device) : Device :=
  d.when (d.stored O.autostartEnable == 1 && !d.flag O.controllerClassA) fun d =>
    ((d.set O.autostartState 1).set O.autostartStep 1).stampAt O.autostartStamp

/-- StandbyRequest is refused (20 R500). -/
def Device.standbyRefused (d : Device) : Bool :=
  !d.heldZero || (List.range 16).any (fun k => d.feedSt k != 0) || d.get O.seqState != 0

/-- Every queued event has its turn.
DESIGN CHOICE 137 (notes/assumptions). -/
def Device.flushRecorder (d : Device) : Device :=
  d.when (d.runs engBE && !d.sys.brownOut) fun d => d.recorder.queue.foldl (fun d _ => d.recordTurn) d

/-- An accepted StandbyRequest (20 R500): the record of the lanes, whose parameters no rule lays out, then CORE stops.
DESIGN CHOICE 137 (notes/assumptions). -/
def Device.standbyNow (d : Device) : Device :=
  let d := d.used.raiseD 83 0 0x0003 (leBytes 36 d.freeVal)
  let d := d.flushRecorder
  { d with sys := { d.sys with coreRunning := false, standby := 1 } }

/-- Start-up from a block held in reset, at a power-on or a wake (20 R498–R500).
DEDUCED 136 (notes/assumptions). -/
def Device.startUp (d : Device) (m : PowerUp) (wake : Option (Int × Nat)) : Device :=
  let d := { d with sys := { d.sys with vdd := true, coreRunning := true, standby := 0, aonCalibrated := true } }
  let d := d.modMram fun x =>
    { x with learned := x.learned.zipIdx.map fun l => if m.badLearned.contains l.2 then { l.1 with damaged := true } else l.1
             ledA := { x.ledA with damaged := x.ledA.damaged || m.badLedger.contains 0 }
             ledB := { x.ledB with damaged := x.ledB.damaged || m.badLedger.contains 1 } }
  if m.badEngines.contains 15 || (d.startBank 6).isNone then
    ((d.setEngine 15 4).showMram).raiseA 85 (engineSource 15) 0x0C01 []
  else
    let d := (d.restoreStore m.badStored).startEngine [] 15
    let d := d.gdLoaded.showMram
    let d := d.forAll [14, 13, 0, 1, 11, 12, 2, 3, 4, 5, 6, 7, 8, 9, 10] fun e d => d.startEngine m.badEngines e
    let d := (d.when (!d.runs engAE) Device.angleLost).forAll (List.range 6) fun c d => d.bootBankNow c
    (d.startRecords wake).startBlocks m.sda

/-- A power-on (20 R498): the count, the copy of 0x6010 to 0x6011 (14 R367), the steps, and autostart. -/
def Device.powerOn (d : Device) (m : PowerUp) : Device :=
  let n := if d.mram.powerOnCount < 2 ^ 32 - 1 then d.mram.powerOnCount + 1 else d.freeVal
  let d := { d.used with aon := { d.aon with prevClassA := d.aon.classA, classA := none } }
  let d := if d.sys.brownOut then d.deferWrite (.count n) else d.modMram fun x => { x with powerOnCount := n }
  (d.startUp m none).autostartBegin

/-- What autostart shows stays over a wake (20 R500): a profile that was running does not go on.
DEDUCED 136 (notes/assumptions). -/
def Device.keepAutostart (d old : Device) : Device :=
  [O.autostartState, O.autostartStep, O.autostartStamp, O.autostartFailCause].foldl
    (fun d o => d.set o (if o.key = O.autostartState.key ∧ old.get o = 1 then 0 else old.get o)) d

/-- A wake (20 R500): the angle goes on, the lap count advances by the duration in laps of the word held at entry,
rounded up. `ns`: the duration measured.
PRESUMED 32 (notes/assumptions). -/
def Device.wakeUp (d : Device) (ns : Nat) (m : PowerUp) : Device :=
  let laps : Nat := ((ns : Rat) * d.tb.freq / 1000000000).ceil.toNat
  let stamp := d.tb.stamp + laps * 65536
  let ms := quant ((ns : Rat) / 1000000)
  let cause := d.sys.resetCause
  let old := d
  let d := (d.intoReset cause).modTb fun t => { t with stamp := stamp }
  ((d.startUp m (some (ms, laps))).keepAutostart old).set O.lastStandbyDuration ms

end Sys2Proof.Machine
end

