-- ==== Sys2Proof/Machine/Credits.lean ====
section
/-! DEFINITION. What credit messages of peers do to the ledger and the transfer table, and the host's writes that act on
transfers (11 R291, R297–R306). A message is taken in the open peer session `h` that it came in; sender, receiver, ID,
amount and REASON are those of its payload (11 R298). -/

namespace Sys2Proof.Machine

/-- A credit message reaches the credit layer: an open peer session with the PEER right, and an active shelf core
(15 R386, R400, 11 R313).
DEDUCED 157 (notes/assumptions). -/
def Device.creditHeard (d : Device) (h : Nat) : Bool :=
  d.scActive && d.runs engNE && d.get (O.sessionState h) == 2 && (d.session h).peer.isSome &&
    bit (d.get (O.rights (d.getN (O.sessionKeySlot h)))) 5

/-- The ShelfId of the giver that an ID names (11 R297). -/
def giverOf (id : Nat) : Nat := id / 2 ^ 48

/-- A message of a giver stands on the right side: its sender is the giver that the ID names, and not this
controller (11 R298, R299).
DESIGN CHOICE 68 (notes/assumptions). -/
def Device.fromGiver (d : Device) (sender id : Nat) : Bool := giverOf id == sender && sender != d.getN O.shelfId

/-- A message of a taker stands on the right side: the ID names this controller as the giver, and a record of it the
sender as the peer.
DESIGN CHOICE 68 (notes/assumptions). -/
def Device.fromTaker (d : Device) (sender id : Nat) : Bool :=
  giverOf id == d.getN O.shelfId && (match d.transfer id with
    | some t => t.giver && t.peer == sender
    | none => true)

/-- An answer from the record: nothing is committed (11 R301).
DESIGN CHOICE 69 (notes/assumptions). -/
def Device.answerDup (d : Device) (h kind : Nat) (t : Transfer) : Device :=
  let lap := d.lap
  let d := (d.bump O.duplicatesAnswered).modTransfer t.id fun x => { x with repeats := min 65535 (x.repeats + 1), sent := .at lap }
  d.sendCredit h (d.creditPayload kind 2 t)

/-- The answer to a message after its commit.
DEDUCED 157 (notes/assumptions). -/
def Device.creditAnswer (d : Device) (h kind id : Nat) : Device :=
  let lap := d.lap
  match d.transfer id with
  | some t => (d.modTransfer id fun x => { x with sent := .at lap }).sendCredit h (d.creditPayload kind 0 t)
  | none => d

/-- The floor of a giver (11 R304). -/
def Device.floorOf (d : Device) (g : Nat) : Nat :=
  match d.mram.floors.find? fun f => f.giver == g with
  | some f => f.floor
  | none => 0

/-- The first reason of R300 that applies to an OFFER with a new ID, 0 for none. -/
def Device.offerReason (d : Device) (sender receiver id : Nat) (amount : Int) : Nat :=
  if receiver ≠ d.getN O.shelfId then 1
  else if d.peerEntry sender = none then 8
  else if ¬ (d.flag O.creditEnable = true ∧ d.flag O.acceptEnable = true) then 4
  else if d.ledger.frozen = true then 3
  else if amount = 0 ∨ d.get O.maxTransfer < amount then 5
  else if 130000 < d.ledger.allot + amount then 2
  else if d.openRoom = false then 9
  else if id % 2 ^ 48 ≤ d.floorOf (giverOf id) then 7
  else 0

/-- A taker's new record (11 R299). -/
def Device.takerRecord (d : Device) (id sender st reason : Nat) (amount : Int) : Transfer :=
  { id := id, peer := sender, giver := false, st := st, amount := amount, stamp := d.now, reason := reason, repeats := 0
    allot := d.ledger.allot, born := d.mram.ledgerRec.seq + 1, sent := .never, waited := 0, said := false }

/-- A refusal commit (11 R299, R300): the ledger is unchanged, the refusal is counted and sent. -/
def Device.creditRefuse (d : Device) (h id sender reason : Nat) (amount : Int) : Device :=
  if d.canCommit then
    let d := (d.addTransfer (d.takerRecord id sender 7 reason amount)).commitXfer 3 id
    ((d.bump O.refusedIn).bumpBy O.refusedInCredits amount).creditAnswer h 3 id
  else d

/-- An accept commit (11 R288, R299). -/
def Device.creditTake (d : Device) (h id sender : Nat) (amount : Int) : Device :=
  if d.canCommit then
    let d := d.modBook fun b => { b with ein := b.ein + amount, allot := b.allot + amount }
    ((d.addTransfer (d.takerRecord id sender 5 0 amount)).commitXfer 2 id).creditAnswer h 2 id
  else d

/-- The two checks of a message that is discarded with a wrong direction or a wrong receiver (11 R298).
DESIGN CHOICE 68 (notes/assumptions). -/
def Device.message (d : Device) (right : Bool) (receiver : BitVec 16) (f : Device → Device) : Device :=
  if right && receiver.toNat == d.getN O.shelfId then f d else d.bump O.badMessages

/-- The release commit of a taker (11 R299). -/
def Device.releaseCommit (d : Device) (h : Nat) (t : Transfer) : Device :=
  if d.canTransfer then
    let d := d.modBook fun b => { b with ein := b.ein - t.amount, pool := b.pool + t.amount }
    (((d.toState t.id 6 0).commitXfer 5 t.id).bump O.transfersIn).creditAnswer h 5 t.id
  else d

/-- The settle commit of a giver (11 R288, R299). -/
def Device.settleCommit (d : Device) (h : Nat) (t : Transfer) : Device :=
  if d.canTransfer then
    let d := d.modBook fun b => { b with eout := b.eout - t.amount, allot := b.allot - t.amount }
    (((d.toState t.id 3 0).commitXfer 4 t.id).bump O.transfersOut).creditAnswer h 4 t.id
  else d

/-- The return commit of a giver (11 R299): kind 3 from OFFERED, 6 from WITHDRAWING.
DESIGN CHOICE 70, 71 (notes/assumptions). -/
def Device.returnCredits (d : Device) (t : Transfer) (reason : Nat) : Device :=
  if d.canTransfer then
    let d := d.modBook fun b => { b with eout := b.eout - t.amount, pool := b.pool + t.amount }
    (((d.toState t.id 7 reason).commitXfer (if t.st = 2 then 6 else 3) t.id).bump O.refusedOut).bumpBy
      O.refusedOutCredits t.amount
  else d

/-- A TransferOffer is refused (11 R306): bytes 0–1 the peer's ShelfId, 4–7 the amount. -/
def Device.offerRefused (d : Device) (v : Int) : Bool :=
  let a : Int := field v 4 4
  !d.flag O.creditEnable || d.ledger.frozen || (d.peerEntry (field v 0 2)).isNone || decide (d.ledger.pool < a) ||
    !d.openRoom || a == 0 || decide (d.get O.maxTransfer < a) || !d.canCommit

/-- The offer commit (11 R297, R299, R306). -/
def Device.offerNow (d : Device) (v : Int) : Device :=
  let a : Int := field v 4 4
  let id := d.getN O.shelfId * 2 ^ 48 + d.ledger.next
  let d := d.modBook fun b =>
    { b with pool := b.pool - a, eout := b.eout + a, next := (b.next + 1) % 2 ^ 48 }
  let t : Transfer :=
    { id := id, peer := field v 0 2, giver := true, st := 1, amount := a, stamp := d.now, reason := 0, repeats := 0
      allot := d.ledger.allot, born := d.mram.ledgerRec.seq + 1, sent := .never, waited := 0, said := false }
  let d := ((d.addTransfer t).commitXfer 1 id).set O.lastOfferId id
  d.sendPeer 1 0 t

/-- A TransferWithdraw is refused (11 R306). -/
def Device.withdrawRefused (d : Device) (id : Nat) : Bool :=
  match d.transfer id with
  | some t => !(t.giver && t.st == 1) || !d.canCommit
  | none => true

/-- OFFERED to WITHDRAWING, and WITHDRAW is sent (11 R299, R306). -/
def Device.withdrawNow (d : Device) (id : Nat) : Device :=
  let d := d.toState id 2 0
  match d.transfer id with
  | some t => d.sendPeer 6 0 t
  | none => d

/-- An EscrowResolve is refused (11 R306): no open record that has waited CreditStaleLaps, or an action that does
not fit its side. Actions 0 RETURN, 1 SETTLE, 2 RELEASE, 3 DROP. -/
def Device.resolveRefused (d : Device) (id action : Nat) : Bool :=
  match d.transfer id with
  | some t =>
    decide (t.waited < d.getN O.creditStaleLaps) || !d.canCommit ||
      !((t.inOut && decide (action ≤ 1)) || (t.inIn && (action == 2 || action == 3)))
  | none => true

/-- The resolve commit (11 R306).
DEDUCED 72 (notes/assumptions). -/
def Device.resolveNow (d : Device) (id action : Nat) : Device :=
  match d.transfer id with
  | none => d
  | some t =>
    let a := t.amount
    let d := d.modBook fun b => match action with
      | 0 => { b with eout := b.eout - a, pool := b.pool + a }
      | 1 => { b with eout := b.eout - a, allot := b.allot - a }
      | 2 => { b with ein := b.ein - a, pool := b.pool + a }
      | _ => { b with ein := b.ein - a, allot := b.allot - a }
    let sum := if action = 0 ∨ action = 2 then a else -a
    let d := { d with mram := { d.mram with adjusted := d.mram.adjusted + sum } }
    ((d.toState id 7 (0x8000 + action)).commitXfer 7 id).raiseD 79 0 0x0706
      (leBytes 8 id ++ leBytes 1 action ++ [0, 0, 0] ++ leBytes 4 a)

/-- A LedgerAdjust is refused (11 R288, R306). -/
def Device.adjustRefused (d : Device) (v : Int) : Bool :=
  decide (130000 < d.ledger.allot + v) || decide (d.ledger.pool + v < 0) || !d.canCommit

/-- The adjustment commit (11 R288, R306).
DEDUCED 72 (notes/assumptions). -/
def Device.adjustNow (d : Device) (v : Int) : Device :=
  let d := d.modBook fun b => { b with pool := b.pool + v, allot := b.allot + v }
  ({ d with mram := { d.mram with adjusted := d.mram.adjusted + v } }).commitLedger 8 (List.replicate 32 0)

/-- A LedgerAck is refused (11 R291, 14 R358): the block's B entry is still open, it holds class A, or the check
fails.
DESIGN CHOICE 77 (notes/assumptions). -/
def Device.ledgerAckRefused (d : Device) : Bool :=
  !(d.fault 79).bSources.isEmpty || (d.fault 79).aHeld || !d.ledgerOk

/-- The freeze is cleared (11 R291).
DESIGN CHOICE 77 (notes/assumptions). -/
def Device.ledgerAckNow (d : Device) : Device := d.modBook fun b => { b with frozen := false }

end Sys2Proof.Machine
end

