-- ==== Sys2Proof/Machine/Conditions.lean ====
section
/-! DEFINITION. The state conditions of a write (16 R411 step 7), as its chapter states them, and the checks of the
written bytes that the chapters make with a code of their own. -/

namespace Sys2Proof.Machine

/-- A feed is named by a rail in use (12 R316). -/
def Device.ofRail (d : Device) (k : Nat) : Bool := d.railsInUse.any fun r => d.railFeed r == some k

/-- A start is refused: a LATCHED feed whose fault has not been acknowledged, a FAULTED feed, a block that holds class A
(04 R111, 14 R358, R362). -/
def Device.feedHeld (d : Device) (k : Nat) : Bool :=
  (d.fault k).aHeld || d.feedSt k == 8 || (d.feedSt k == 7 && !(d.fault k).bSources.isEmpty)

/-- The SegmentData or the item of a lane that a Release names belongs to the path; see `Device.releaseRefused`. -/
def stateCode (b : Bool) : Nat := if b then 0x0814 else 0

/-- The state conditions of an object's write (16 R411 step 7); 0 where they hold, else the error code.
DESIGN CHOICE 24, 25; DEDUCED 146 (notes/assumptions). -/
def Device.stateBad (d : Device) (path : Nat) (o : Obj) (k : Nat) (v : Int) (bs : List Byte) : Nat :=
  match o.id with
  | 0x300001 => stateCode (d.ofRail k || (v == 1 && d.feedHeld k))
  | 0x300101 => stateCode (d.get (O.setpointOwner k) == 1)
  | 0x250008 => stateCode (v == 1 && d.readmitRefused k)
  | 0x300c12 => stateCode (v == 1 && (d.tgSt k != 7 || (d.fault (16 + k)).aHeld))
  | 0x470108 => stateCode (v == 1 &&
    ((d.get (O.gateFault k) == 0 && !(bit (d.get (O.forceOffCause k)) 0)) || (d.fault (32 + k)).aHeld))
  | 0x410004 => stateCode (v == 1 && (d.rectSt k != 9 || (d.fault (42 + k)).aHeld))
  | 0x481016 => stateCode (v == 1 && (d.strSt k != 9 || (d.fault (38 + k)).aHeld))
  | 0x489005 => stateCode (v == 1 && d.strSt k == 2)
  | 0x580007 => stateCode (v == 1 && (d.get O.seqState != 8 || (d.fault 78).aHeld))
  | 0x580001 => stateCode (v == 1 && (d.get O.seqState == 4 || d.get O.seqState == 5 || d.get O.seqState == 6))
  | 0x581001 => stateCode (v == 2 && decide (d.feedSt (d.getN (O.feedNumber k)) ≠ 0))
  | 0x581002 => stateCode (d.get (O.railKind k) == 2 && decide (d.feedSt v.toNat ≠ 0))
  | 0x61000e => stateCode (v == 1 && ((d.fault k).aHeld || ((d.fault k).bSources.isEmpty && !(d.fault k).cOpen)))
  | 0x210001 => stateCode (v == 0 && d.flag O.holdupEnable && (d.get O.holdupState != 0 || d.hold.es.isSome))
  | 0x500002 => stateCode (v == 1 && d.get O.shelfId == 0)
  | 0x500300 => stateCode (d.offerRefused v)
  | 0x500500 => stateCode (d.withdrawRefused v.toNat)
  | 0x500600 => stateCode (d.resolveRefused (field v 0 8) (field v 8 1))
  | 0x500700 => stateCode (d.adjustRefused v)
  | 0x500800 => stateCode (v == 1 && d.ledgerAckRefused)
  | 0x710006 => stateCode (v == 1 && d.claimRefused k)
  | 0x710008 => stateCode (d.releaseRefused k path v.toNat)
  | 0x710009 => d.segmentBad k path bs
  | 0x780201 => stateCode (v == 1 && d.clearRequestRefused)
  | 0x780203 => stateCode (d.clearResponseRefused bs)
  | 0x781303 => if 16 ≤ v then 0x0809 else stateCode (d.pfReleaseRefused v.toNat)
  | 0xa01001 => if d.pieceBad bs then 0x0809 else stateCode d.packageBusy
  | 0xa01003 => stateCode (v == 1 && d.packageBusy)
  | 0xa01009 => stateCode (v == 1 && d.installRefused)
  | 0xa0100a => stateCode (v == 1 && d.packageBusy)
  | 0xa03001 => stateCode (d.updateRefused k v.toNat)
  | 0xa03003 => stateCode (v == 1 && d.retireRefused k)
  | 0xa04001 => stateCode (d.pairMoveRefused v)
  | 0xa04004 => stateCode d.swapRefused
  | 0xa05001 => stateCode (v == 1 && d.standbyRefused)
  | 0x1f2001 => stateCode (path == 16)
  | _ => 0

end Sys2Proof.Machine
end

