-- ==== Sys2Proof/Machine/Feeds.lean ====
section
/-! DEFINITION. Commands of the feed control law: loop samples, shedding, step early start, start, stop and
faults (04 R87–R114). -/

namespace Sys2Proof.Machine

/-- Loop sample period of a feed in µs (04 R87). -/
def Device.loopUs (d : Device) (k : Nat) : Nat :=
  match d.getN (O.loopRate k) with
  | 0 => 4
  | 1 => 2
  | _ => 1

/-- Phase current of an IMON sample in µV, in A (03 R54). -/
def Device.imonAmps (d : Device) (n : Nat) (uv : Int) : Rat :=
  quot ((uv - d.get (O.imonZero n) * 1000 : Int) : Rat) (d.get (O.imonGain n) : Rat)

/-- One IMON conversion of a cell: the last eight are kept, the range run counts, and the current limit
re-arms below RearmLevel of its threshold (03 R67, R72, R79).
DESIGN CHOICE 160; DEDUCED 34 (notes/assumptions). -/
def Device.imonSample (d : Device) (k n : Nat) (uv : Int) : Device :=
  let i := d.imonAmps n uv
  let lvl := q15 (d.get (O.rearmLevel k))
  d.modCell n fun c =>
    { c with imon := (i :: c.imon).take 8
             rangeRun := if uv < 24000 ∨ 1176000 < uv then c.rangeRun + 1 else 0
             rearmed := c.rearmed || decide (i < lvl * c.limit) }

/-- Mean of the last conversions that a loop sample uses: the last one at 1 MS/s, two at 500 kS/s, four at 250 kS/s (04
R87). -/
def Device.loopMean (d : Device) (k : Nat) (l : List Rat) : Rat := mean (l.take (d.loopUs k))

/-- A conversion of SV6 input k in V: the remote-sense pair while the tray gate is CLOSED, else TGDk, both on the scale of
0–19.2 V (06 R155).
DESIGN CHOICE 198 (notes/assumptions). -/
def Device.sv6 (d : Device) (k : Nat) (v : Int × Int) : Rat :=
  clampQ 0 (96 / 5) (((if d.tgSt k = 5 then v.1 else v.2 : Int) : Rat) / 1000000)

/-- The conversions that a loop sample brings, oldest first, since the last one: the remote sense and TGDk in µV, I_F in
mA, the latest V_bus in µV and, per map position, IMON in µV (04 R87, 06 R155). The lowest V_bus of an unruled hold-up early start follows (10
R275). -/
def Device.takeSamples (d : Device) (k : Nat) (vfb : List (Int × Int)) (iF : List Int) (vbus : Int) (imon : List (List Int)) : Device :=
  let cs := d.feedCells k
  let d := d.forAll (List.range cs.length) fun j d =>
    (imon.getD j []).foldl (fun d uv => d.imonSample k (cs.getD j 0) uv) d
  let d := d.modFeed k fun f =>
    { f with vbus := (vbus : Rat) / 1000000
             vConv := ((vfb.reverse.map (d.sv6 k)) ++ f.vConv).take 4
             iConv := ((iF.reverse.map fun i => (i : Rat) / 1000) ++ f.iConv).take 4 }
  let d := d.modFeed k fun f =>
    { f with vfb := d.loopMean k f.vConv, vHist := (d.loopMean k f.vConv :: f.vHist).take 16
             iHist := (d.loopMean k f.iConv :: f.iHist).take 34 }
  let v := (vbus : Rat) / 1000000
  (d.busSample k vbus).modHold fun h => { h with es := h.es.map fun e => { e with low := some (min (e.low.getD v) v) } }

/-- A pole coefficient; 0x7FFF_FFFF is exactly 1 (04 R90).
DESIGN CHOICE 11 (notes/assumptions). -/
def pole (v : Int) : Rat := if v = 0x7FFFFFFF then 1 else q31 v

/-- The pacer's step of one loop sample in V (04 R93, R94). -/
def Device.paceStep (d : Device) (k : Nat) : Rat :=
  (d.get (O.paceRate k (d.feed k).slew) : Rat) / 100000 * (d.loopUs k : Rat)

/-- Steps 1 to 7 of the control law (04 R89–R94).
DESIGN CHOICE 11; DEDUCED 93 (notes/assumptions). -/
def Device.law (d : Device) (k : Nat) : Device :=
  let f := d.feed k
  let st := d.paceStep k
  let vset := f.vset + clampQ (-st) st (f.vtgt - f.vset)
  let e := vset - f.vfb
  let c := d.get (O.compensator k)
  let uv := fun off => ((fieldS c off 4 : Int) : Rat) / 1000000
  let held := (f.clamped = 1 ∧ 0 < e) ∨ (f.clamped = -1 ∧ e < 0)
  let i := if held then f.integ else clampQ (uv 20) (uv 24) (f.integ + q31 (fieldS c 4 4) * e)
  let p := q1616 (fieldS c 0 4) * e + i + q1616 (fieldS c 8 4) * (e - f.err) + f.pre
  let q1 := f.q1 + pole (fieldS c 12 4) * (p - f.q1)
  let q2 := f.q2 + pole (fieldS c 16 4) * (q1 - f.q2)
  let s1 := notch (d.get (O.notch1 k)) f.n1w1 f.n1w2 q2
  let s2 := notch (d.get (O.notch2 k)) f.n2w1 f.n2w2 s1.1
  let ts : Rat := (d.loopUs k : Rat) / 1000000
  let aff := 1 - Config.exp (-(2 * Config.pi * (d.get (O.ffCorner k) : Rat) * ts))
  let vlp := f.vlp + aff * (f.vbus - f.vlp)
  let raw := s2.1 + q1616 (d.get (O.ffGain k)) * (vlp - f.vbus + f.sag)
  (d.modFeed k fun f =>
    { f with vset := vset, err := e, integ := i, q1 := q1, q2 := q2, n1w1 := s1.2.1, n1w2 := s1.2.2
             n2w1 := s2.2.1, n2w2 := s2.2.2, vlp := vlp, u := clampQ (uv 28) (uv 32) raw
             clamped := if uv 32 < raw then 1 else if raw < uv 28 then -1 else 0
             pre := if f.preLeft = 0 then f.pre else if f.preLeft = 1 then 0 else f.pre - f.preStep
             preLeft := f.preLeft - 1
             checkpoints := f.checkpoints + 1 }).set (O.pacerPosition k) (quant (vset * 1000000))

/-- The preload that is being released falls over the sample's period, whether the feed switches or not (10 R274, R284). -/
def Device.sagFalls (d : Device) (k : Nat) : Device :=
  d.modFeed k fun f =>
    let sag := max 0 (f.sag - f.sagStep * (d.loopUs k : Rat))
    { f with sag := sag, sagStep := if sag = 0 then 0 else f.sagStep }

/-- The forced diode emulation of a start ends at the sample at which V_set has reached V_tgt (04 R112). -/
def Device.endForcedDe (d : Device) (k : Nat) : Device :=
  d.when (decide ((d.feed k).vset = (d.feed k).vtgt)) fun d => d.endForced k

/-- A cell that an early start has put into the rotation is ACTIVE in the committed view too: its trim and on-time show
(04 R104, R107).
DEDUCED 201 (notes/assumptions). -/
def Device.commitSpec (d : Device) (n : Nat) : Device :=
  let c := d.cell n
  let d := ((d.set (O.cellState n) 3).set (O.balanceTrim n) (quant (c.trim * 32768))).modCell n fun c => { c with drained := 0 }
  match c.pulse with
  | some p => d.set (O.lastOnTime n) p.on
  | none => d

/-- A clean ruling of a step early start: its cells are ACTIVE, diode emulation has ended, P passes into I, and
one record carries both stamps (04 R107). -/
def Device.stepClean (d : Device) (k : Nat) : Device :=
  match (d.feed k).es with
  | none => d
  | some es =>
    let d := d.forAll (es.parked ++ es.draining.toList) fun n d => d.commitSpec n
    let d := d.modFeed k fun f =>
      { f with es := none, esStamp := some d.now, draining := none, drainBack := [], integ := f.integ + f.pre, pre := 0, preLeft := 0 }
    let d := ((d.setFlag (O.deActive k) false).recount k).bump (O.stepCleanStarts k)
    d.raiseTwo k 0 0x010C es.stamp d.now []

/-- Whether this sample rules a step early start clean (04 R106).
DEDUCED 40 (notes/assumptions). -/
def Device.stepRuled (d : Device) (k : Nat) : Bool :=
  match (d.feed k).es with
  | none => false
  | some es =>
    decide (d.now ≤ es.windowEnd) &&
      decide ((d.get (O.stepThreshold k) : Rat) ≤ ((d.feed k).iHist.headD 0 - es.base) * 10)

/-- A cell that a shed or a false start has taken out enters ACTIVE; one that an unruled early start has put into the
rotation goes on as it is (04 R103, R108). -/
def Device.commitActive (d : Device) (k n : Nat) : Device :=
  match (d.feed k).es with
  | some es =>
    if es.parked.contains n || es.draining == some n then d.commitSpec n
    else if d.cellSt n = 4 then d.cellReturns n else d.cellActive n
  | none => if d.cellSt n = 4 then d.cellReturns n else d.cellActive n

/-- An abort (04 R103, R108): every cell switches, diode emulation ends, and it counts if it found a cell
DRAINING or PARKED. An unruled early start keeps only what is still speculative. -/
def Device.shedAbort (d : Device) (k : Nat) : Device :=
  let out := (d.feedCells k).filter fun n => d.cellSt n == 4 || d.cellSt n == 5
  let d := d.forAll out fun n d => d.commitActive k n
  let d := d.modFeed k fun f =>
    { f with draining := none, drainBack := [], resumeDe := false
             es := f.es.map fun e => { e with parked := [], draining := none, wasDe := false } }
  let d := (d.setFlag (O.deActive k) false).recount k
  d.when (!out.isEmpty) fun d => d.bump (O.shedAborts k)

/-- Whether this sample aborts (04 R103): an undershoot, or a rise of I_F over RiseSpan.
DEDUCED 40 (notes/assumptions). -/
def Device.abortDue (d : Device) (k : Nat) : Bool :=
  let f := d.feed k
  let span := d.getN (O.riseSpan k) / d.loopUs k
  let low := decide (f.vfb ≤ f.vset - (d.get (O.undershootWindow k) : Rat) / 1000)
  let rise := match f.iHist[span]? with
    | some i => decide ((d.get (O.riseThreshold k) : Rat) ≤ (f.iHist.headD 0 - i) * 10)
    | none => false
  d.feedSt k == 4 && (low || rise)

/-- Runs of samples that the faults of R114 and the settle time of R96 need. -/
def Device.countRuns (d : Device) (k : Nat) : Device :=
  let sw := d.switches k
  let on := d.feedSt k != 0
  let ovf := q15 (d.get (O.ovFrac k))
  let uvf := q15 (d.get (O.uvFrac k))
  d.modFeed k fun f =>
    { f with ovRun := if sw && decide (max f.vtgt f.vset * (1 + ovf) < f.vfb) then f.ovRun + 1 else 0
             uvRun := sw && decide (f.vfb < min f.vtgt f.vset * (1 - uvf))
             senseRun := if on && (decide (15 < f.vfb) || (decide (f.vfb < 1 / 5) && decide (1 / 2 ≤ f.vset))) then f.senseRun + 1
               else 0
             busRun := if f.vbus < 32 ∨ 60 < f.vbus then f.busRun + 1 else 0
             settling := sw && decide (f.vset = f.vtgt) && decide (|f.vfb - f.vtgt| ≤ f.vtgt / 100) }

/-- The sum check's run of samples beyond SumTolerance, the first 16 of a run until they are judged (03 R79). Cells that
an early start has put into the rotation carry their share of the current, and a diode emulation that only an early start
has ended is still in force (04 R104). -/
def Device.countSum (d : Device) (k : Nat) : Device :=
  let cs := d.pulsing k
  let sum := (cs.map fun n => (d.cell n).imon.headD 0).sum
  let x := sum - (d.feed k).iHist.headD 0
  let inRange := (d.feedCells k).all fun n => (d.cell n).rangeRun == 0
  let is := cs.map fun n => (n, (d.cell n).imon.headD 0)
  let on := !(d.feed k).sumSuspended && !(d.flag (O.deActive k)) && !(d.feed k).forcedDe && inRange &&
    decide ((d.get (O.sumTolerance k) : Rat) < |x| * 10)
  d.modFeed k fun f =>
    { f with sums := if f.sums.length = 16 then f.sums else if on then f.sums ++ [(x, is)] else [] }

/-- The Query items 1 to 8 from the committed view (05 R142). -/
def Device.itemsNow (d : Device) (k : Nat) : List Int :=
  let f := d.feed k
  [quant (mean f.vHist * 1000), quant (mean (f.iHist.take 16) * 10),
    d.get (O.targetInForce k) + 65536 * b2i (d.flag (O.reached k)), d.get (O.feedState k) + 256 * d.get (O.ocState k),
    d.ledger.grants.getD k 0, (d.feedCap k).getD 0xFFFFFFFF, d.get (O.capacity k),
    ofLe ((d.tb.lastSplit.drop (96 + 16 * k)).take 4)]

/-- One loop sample: a new target takes force, the law runs while the feed switches, then the ruling of an early start,
the abort, the runs of the fault criteria, and the Query items as the sample leaves them.
DEDUCED 40 (notes/assumptions). -/
def Device.loopSample (d : Device) (k : Nat) : Device :=
  let d := d.takeOrder k
  let d := (d.when (d.switches k) fun d => (d.law k).endForcedDe k).sagFalls k
  let d := d.when (d.stepRuled k) fun d => d.stepClean k
  let d := d.when (d.abortDue k) fun d => d.shedAbort k
  let d := d.countRuns k
  let d := d.when (d.switches k) fun d => d.countSum k
  d.modFeed k fun f => { f with items := d.itemsNow k }

/-- LOOP_SAMPLE: `dt` eu after the feed's previous event. -/
def execLoopSample (k : Fin 16) (dt : Nat) (vfb : List (Int × Int)) (iF : List Int) (vbus : Int) (imon : List (List Int)) (s : State) :
    Host.Outcome State Fault Refusal :=
  s.next fun d => d.when d.sys.coreRunning fun d =>
    let d := (d.ripple k dt).takeSamples k vfb iF vbus imon
    d.when (d.leRuns k) fun d => d.loopSample k

/-- REACHED (04 R96, R111, 03 R82): the settle time is met. A start enters RUNNING, cells that wait are
tested, and a tray-owned target is reported. -/
def execReached (k : Fin 16) (s : State) : Host.Outcome State Fault Refusal :=
  s.next fun d =>
    d.when (d.leRuns k && (d.feedSt k == 3 || d.feedSt k == 4) && (d.feed k).settling && !(d.flag (O.reached k)))
      fun d =>
        let start := d.feedSt k == 3
        let now := d.now
        let d := (d.setFlag (O.reached k) true).set (O.feedState k) 4
        let d := d.when start fun d => d.modFeed k fun f => { f with runFrom := now }
        let d := d.when start fun d => d.forAll (d.feedCells k) fun n d =>
          d.when (d.cell n).waiting fun d =>
            (d.set (O.cellState n) 2).modCell n fun c => { c with waiting := false }
        d.reachedNotice k

/-- A full ShedDwell has passed since an event (04 R100). -/
def Device.dwellSince (d : Device) (k : Nat) (t : Option Nat) : Bool :=
  match t with
  | some t => decide (t + d.usToAu (1000 * d.getN (O.shedDwell k)) ≤ d.now)
  | none => true

/-- SHED_START (04 R100): the ACTIVE listed cell with the highest map position enters DRAINING. No capped round and no step
early start lies within the dwell. -/
def execShedStart (k : Fin 16) (s : State) : Host.Outcome State Fault Refusal :=
  s.next fun d =>
    d.when (d.leRuns k && d.flag (O.shedEnable k) && d.feedSt k == 4 && d.get (O.ocState k) == 0 &&
        decide (d.get (O.minPhases k) < d.get (O.activePhases k)) && (d.feed k).es.isNone &&
        (d.feed k).draining.isNone && (d.feed k).drainBack.isEmpty &&
        d.dwellSince k (d.feed k).cappedStamp && d.dwellSince k (d.feed k).esStamp &&
        decide (d.perActive k * 10 < (d.get (O.shedLevel k) : Rat))) fun d =>
      match ((d.listed k).filter fun n => d.cellSt n == 3).getLast? with
      | some n =>
        ((d.set (O.cellState n) 4).modCell n fun c => { c with drained := 0 }).modFeed k fun f =>
          { f with draining := some n }
      | none => d

/-- DRAIN_COMPLETE (04 R101, R107): the D-th drain pulse has ended. -/
def execDrainComplete (k : Fin 16) (s : State) : Host.Outcome State Fault Refusal :=
  s.next fun d => d.when (d.leRuns k && (d.feed k).es.isNone) fun d =>
    let f := d.feed k
    match f.drainBack, f.draining with
    | n :: r, _ =>
      d.when (decide (d.get (O.drainCycles k) ≤ ((d.cell n).drained : Int)) && !(d.cell n).busy) fun d =>
        (d.parkCell k n).modFeed k fun f => { f with drainBack := r }
    | [], some n =>
      d.when (decide (d.get (O.drainCycles k) ≤ ((d.cell n).drained : Int)) && !(d.cell n).busy) fun d =>
        let d := (d.parkCell k n).set (O.cellState n) 5
        ((d.modFeed k fun f => { f with draining := none }).recount k).bump (O.shedCount k)
    | [], none => d

/-- PHASE_ADD (04 R102): the PARKED cell with the lowest map position enters ACTIVE. -/
def execPhaseAdd (k : Fin 16) (s : State) : Host.Outcome State Fault Refusal :=
  s.next fun d =>
    d.when (d.leRuns k && d.feedSt k == 4 && decide ((d.get (O.addLevel k) : Rat) < d.perActive k * 10)) fun d =>
      match (d.feedCells k).find? fun n => d.cellSt n == 5 with
      | some n =>
        ((d.commitActive k n).modFeed k fun f =>
          { f with drainBack := f.drainBack.filter fun b => b != n
                   es := f.es.map fun e => { e with parked := e.parked.filter fun b => b != n } }).recount k
      | none => d

/-- STEP_ES_WINDOW_CLOSE (04 R106): an unruled early start whose window has closed is a false start. -/
def execStepEsWindowClose (k : Fin 16) (s : State) : Host.Outcome State Fault Refusal :=
  s.next fun d => d.when (d.leRuns k && (match (d.feed k).es with
    | some es => decide (es.windowEnd ≤ d.now)
    | none => false)) fun d => d.stepFalse k

/-- STOP_COMPLETE (04 R113): V_set has reached StopFloor. -/
def execStopComplete (k : Fin 16) (s : State) : Host.Outcome State Fault Refusal :=
  s.run fun d => d.when (d.leRuns k && d.feedSt k == 5 && (d.feed k).order.isNone && decide ((d.feed k).vset = (d.feed k).vtgt)) fun d =>
    ((d.feedSafe k).setDrven k false).set (O.feedState k) 0

/-- A host write of TargetVoltage in force (04 R95). -/
def Device.targetNow (d : Device) (k : Nat) (mv : Int) : Device :=
  if d.feedSt k = 4 then d.orderTarget k mv (d.getN (O.hostSlewClass k)) none
  else if d.feedSt k = 3 then d.orderTarget k mv (d.feed k).slew none
  else d

/-- START_TIMEOUT (04 R112). -/
def execStartTimeout (k : Fin 16) (s : State) : Host.Outcome State Fault Refusal :=
  s.run fun d => d.when (d.leRuns k && (d.feedSt k == 2 || d.feedSt k == 3)) fun d => d.latchB k 5 0x0109

/-- OUTPUT_OV (04 R114): two samples in a row above the threshold. -/
def execOutputOv (k : Fin 16) (s : State) : Host.Outcome State Fault Refusal :=
  s.run fun d => d.when (d.switches k && decide (2 ≤ (d.feed k).ovRun)) fun d => d.latchB k 0 0x0101

/-- No capped round within the last lap (04 R114). -/
def Device.notCapped (d : Device) (k : Nat) : Bool :=
  match (d.feed k).cappedStamp with
  | some t => decide (t + 65536 < d.now)
  | none => true

/-- OUTPUT_UV (04 R114): below the threshold at every sample for UvTime. -/
def execOutputUv (k : Fin 16) (s : State) : Host.Outcome State Fault Refusal :=
  s.run fun d =>
    d.when (d.leRuns k && (d.feed k).uvRun && d.feedSt k == 4 && d.get (O.ocState k) == 0 && d.notCapped k) fun d =>
      d.latchB k 1 0x0102

/-- SENSE_OPEN (04 R114): three implausible samples in a row while not DISABLED. -/
def execSenseOpen (k : Fin 16) (s : State) : Host.Outcome State Fault Refusal :=
  s.run fun d =>
    d.when (d.leRuns k && d.feedSt k != 0 && d.feedSt k != 7 && d.feedSt k != 8 && decide (3 ≤ (d.feed k).senseRun))
      fun d => d.latchB k 2 0x0103

/-- BUS_OUT_OF_RANGE (04 R114): four samples in a row outside 32–60 V. A feed that is being stopped has no
enable to wait with and is DISABLED.
DEDUCED 39 (notes/assumptions). -/
def execBusOutOfRange (k : Fin 16) (s : State) : Host.Outcome State Fault Refusal :=
  s.run fun d =>
    d.when (d.leRuns k && decide (2 ≤ d.feedSt k) && decide (d.feedSt k ≤ 6) && decide (4 ≤ (d.feed k).busRun)) fun d =>
      let d := (((d.feedSafe k).endHiccup k).setBitOf (O.faultCause k) 6)
      let d := if d.flag (O.feedEnable k) then d.set (O.feedState k) 1 else (d.setDrven k false).set (O.feedState k) 0
      (d.setFlag (O.reached k) false).raiseD k 0 0x010A []

/-- BUS_RESTART (04 R114): V_bus has stayed within BusRestart–60 V for 10 ms.
DEDUCED 39 (notes/assumptions). -/
def execBusRestart (k : Fin 16) (s : State) : Host.Outcome State Fault Refusal :=
  s.next fun d =>
    d.when (d.leRuns k && d.feedSt k == 1 && decide ((d.get (O.busRestart k) : Rat) ≤ (d.feed k).vbus * 1000) &&
        decide ((d.feed k).vbus ≤ 60)) fun d => d.enterPretest k false

end Sys2Proof.Machine
end

