-- ==== Sys2Proof/Machine/Links.lean ====
section
/-! DEFINITION. Commands of the Zyneus Feed Link (05 R119–R154). -/

namespace Sys2Proof.Machine

/-- A Refuse: counted, shown in LastRefusal, sent (05 R139, R144). -/
def Device.refuse (d : Device) (k seq type reason : Nat) (detail : Int) : Device :=
  ((d.bump (O.refusals k)).set (O.lastRefusal k) (reason * 256 + type : Nat)).sendZfl k 0x02 seq
    (leBytes 1 type ++ leBytes 1 reason ++ leBytes 2 detail)

/-- A valid tray frame: counted, and its turn is not missed (05 R129). -/
def Device.rxFrame (d : Device) (k : Nat) : Device :=
  (d.bump (O.linkRxFrames k)).modLink k fun l => { l with missRun := 0 }

/-- An answer with its duplicate mark (05 R134). -/
def markDuplicate (kind : Nat) (payload : List Byte) : List Byte :=
  modAt payload 1 fun b => if kind = 0x02 then b ||| 0x80#8 else b ||| 0x01#8

/-- The answer of a new command is sent and cached, and its SEQ becomes LAST (05 R134). -/
def Device.answerNew (d : Device) (k seq type : Nat) (payload : List Byte) (kind : Nat) (ans : List Byte) : Device :=
  ((d.modLink k fun l => { l with last := some (seq, type, payload), answer := (kind, ans) }).set
    (O.lastSeq k) seq).sendZfl k kind seq ans

/-- A new command is refused: the Refuse is its answer. -/
def Device.refuseNew (d : Device) (k seq type : Nat) (payload : List Byte) (reason : Nat) (detail : Int) : Device :=
  let ans := leBytes 1 type ++ leBytes 1 reason ++ leBytes 2 detail
  ((d.bump (O.refusals k)).set (O.lastRefusal k) (reason * 256 + type : Nat)).answerNew k seq type payload 0x02 ans

/-- Offset in the frame of the first thing wrong with a payload: its LEN, or a reserved field, given as
payload positions with the bits that must be zero (05 R126).
DEDUCED 43 (notes/assumptions). -/
def badOffset (len : Nat) (reserved : List (Nat × Nat)) (payload : List Byte) : Option Nat :=
  if payload.length ≠ len then some 3
  else (reserved.find? fun r => (payload.getD r.1 0).toNat &&& r.2 != 0).map fun r => r.1 + 4

/-- A turn of the sweep has ended, with or without an Idle reply that passed: the next Grant follows, until each of the 16
taps has had four (05 R147). -/
def Device.sweepTurn (d : Device) (k : Nat) (ok : Bool) : Device :=
  d.when (d.get (O.linkState k) == 1 && decide ((d.link k).sweep.length < 64)) fun d =>
    let d := d.modLink k fun l => { l with sweep := l.sweep ++ [ok] }
    d.when (decide ((d.link k).sweep.length < 64)) fun d => d.sendGrant k

/-- A tray command through the three stages of R139: frame, sequence, content.
DEDUCED 43 (notes/assumptions). -/
def Device.command (d : Device) (k type : Nat) (seq : Byte) (payload : List Byte) (len : Nat)
    (reserved : List (Nat × Nat)) (content : Device → Device) : Device :=
  if d.get (O.linkState k) = 2 ∧ d.live = true then
    let d := d.rxFrame k
    let l := d.link k
    match badOffset len reserved payload, l.last with
    | some o, _ => d.refuse k seq.toNat type 0x07 o
    | none, some (s, t, p) =>
      if s = seq.toNat then
        if t = type ∧ p = payload then
          (d.bump (O.linkDuplicates k)).sendZfl k l.answer.1 s (markDuplicate l.answer.1 l.answer.2)
        else d.refuse k seq.toNat type 0x09 t
      else content d
    | none, none => content d
  else d.when d.live fun d => d.sweepTurn k false

/-- Checks of a SetVoltage's content: reason and DETAIL of the first row that applies (05 R139). -/
def Device.voltageRefusal (d : Device) (k : Nat) (mv cls : Nat) : Option (Nat × Int) :=
  if d.get (O.setpointOwner k) = 0 then some (0x01, 0)
  else if mv < 10800 then some (0x02, 10800)
  else if 13200 < mv then some (0x02, 13200)
  else if d.feedSt k ≠ 4 then some (0x03, d.get (O.feedState k))
  else if cls = 0 then some (0x04, 0)
  else match d.feedCap k with
    | some c => if (d.feed k).vtgt * 1000 < (mv : Rat) then some (0x06, c) else none
    | none => none

/-- ZFL_SET_VOLTAGE (05 R138, R139). -/
def execZflSetVoltage (k : Fin 16) (seq : Byte) (payload : List Byte) (s : State) :
    Host.Outcome State Fault Refusal :=
  s.next fun d => d.command k 0x10 seq payload 4 [(2, 0xFC), (3, 0xFF)] fun d =>
    let mv := ofLe (payload.take 2)
    let cls := (payload.getD 2 0).toNat % 4
    match d.voltageRefusal k mv cls with
    | some (r, x) => d.refuseNew k seq.toNat 0x10 payload r x
    | none => (d.answerNew k seq.toNat 0x10 payload 0x01 [0x10, 0]).orderTarget k mv cls (some seq.toNat)

/-- Conditions of a step early start (04 R105). -/
def Device.stepMay (d : Device) (k : Nat) : Bool :=
  d.leRuns k && d.flag (O.stepEsEnable k) && d.feedSt k == 4 && d.get (O.ocState k) == 0 && (d.feedCap k).isNone &&
    (d.feed k).es.isNone

/-- A step early start begins (04 R105): PARKED and DRAINING cells switch as ACTIVE, diode emulation is left,
and the pre-bias is added; all of it speculative. `step` in 0.1 A. -/
def Device.stepStart (d : Device) (k : Nat) (us step : Nat) : Device :=
  let parked := (d.feedCells k).filter fun n => d.cellSt n == 5
  let d := d.forAll parked fun n d => d.modCell n fun c =>
    { c with x := 0, trim := 0, pulses := 0, drained := 0, rearmed := c.rearmed || c.pulse.isNone }
  let d := d.forAll (d.feed k).draining.toList fun n d => d.modCell n fun c => { c with x := 0, pulses := 0 }
  let gr : Rat := (d.get (O.rippleGain k) : Rat) / 1000000
  let p := min (q15 (d.get (O.preBiasFrac k)) * gr * (step : Rat) / 10) ((d.get (O.preBiasMax k) : Rat) / 1000)
  let e : StepEs :=
    { stamp := d.now, windowEnd := d.now + d.usToAu us, base := (d.feed k).iHist.headD 0
      wasDe := d.flag (O.deActive k), parked := parked, draining := (d.feed k).draining }
  d.modFeed k fun f => { f with es := some e, pre := p, preStep := 0, preLeft := 0 }

/-- ZFL_HINT (05 R140, 04 R105). The DETAIL of a Hint out of range is not stated: a free value.
DESIGN CHOICE 44 (notes/assumptions). -/
def execZflHint (k : Fin 16) (seq : Byte) (payload : List Byte) (s : State) : Host.Outcome State Fault Refusal :=
  s.next fun d => d.command k 0x11 seq payload 4 [(1, 0xFF)] fun d =>
    let us := (payload.getD 0 0).toNat
    let step := ofLe ((payload.drop 2).take 2)
    if us < 2 ∨ 200 < us ∨ step < 1 ∨ 60000 < step then
      (d.refuseNew k seq.toNat 0x11 payload 0x02 d.freeVal).used
    else
      let d := d.answerNew k seq.toNat 0x11 payload 0x01 [0x11, 0]
      if d.stepMay k then d.stepStart k us step else d.bump (O.ignoredHints k)

/-- The value of a Query item as of the last loop sample (05 R142).
DESIGN CHOICE 178 (notes/assumptions). -/
def Device.queryItem (d : Device) (k item : Nat) : Option Int :=
  if 1 ≤ item ∧ item ≤ 8 then some ((d.feed k).items.getD (item - 1) 0) else none

/-- ZFL_QUERY (05 R141): a Report of one committed item. -/
def execZflQuery (k : Fin 16) (seq : Byte) (payload : List Byte) (s : State) : Host.Outcome State Fault Refusal :=
  s.next fun d => d.command k 0x12 seq payload 2 [(1, 0xFF)] fun d =>
    let item := (payload.getD 0 0).toNat
    let ans := match d.queryItem k item with
      | some v => leBytes 1 item ++ [0] ++ leBytes 4 v
      | none => leBytes 1 item ++ [2] ++ leBytes 4 0
    d.answerNew k seq.toNat 0x12 payload 0x05 ans

/-- ZFL_IDLE (05 R143): a turn filled; never answered when it is well formed. -/
def execZflIdle (k : Fin 16) (seq : Byte) (payload : List Byte) (s : State) : Host.Outcome State Fault Refusal :=
  s.next fun d =>
    if d.get (O.linkState k) = 0 ∨ d.live = false then d
    else if payload.isEmpty then (d.rxFrame k).sweepTurn k true
    else if d.get (O.linkState k) = 2 then (d.rxFrame k).refuse k seq.toNat 0x13 0x07 3
    else d.sweepTurn k false

/-- ZFL_TRAY_ACK (05 R136): the notice of that SEQ and TYPE is answered, and the next one may follow. -/
def execZflTrayAck (k : Fin 16) (seq : Byte) (payload : List Byte) (s : State) :
    Host.Outcome State Fault Refusal :=
  s.next fun d =>
    if d.get (O.linkState k) = 2 ∧ d.live = true then
      let d := d.rxFrame k
      match badOffset 2 [(1, 0xFE)] payload, (d.link k).outstanding with
      | some o, _ => d.refuse k seq.toNat 0x01 0x07 o
      | none, some n =>
        if n.seq = seq.toNat ∧ n.kind = (payload.getD 0 0).toNat then
          (d.modLink k fun l => { l with outstanding := none }).pumpNotices k
        else d
      | none, none => d
    else d.when d.live fun d => d.sweepTurn k false

/-- A turn without a valid frame (05 R129, R148). -/
def Device.missTurn (d : Device) (k : Nat) : Device :=
  let d := d.bump (O.missedTurns k)
  if d.get (O.linkState k) = 2 then
    let d := d.modLink k fun l => { l with missRun := l.missRun + 1 }
    if d.get (O.missLimit k) ≤ ((d.link k).missRun : Int) then d.linkLoss k else d
  else d.sweepTurn k false

/-- ZFL_CORRUPT_FRAME (05 R126, R129).
DESIGN CHOICE 45 (notes/assumptions). -/
def execZflCorruptFrame (k : Fin 16) (s : State) : Host.Outcome State Fault Refusal :=
  s.run fun d => d.when (d.live && d.get (O.linkState k) != 0) fun d => (d.bump (O.crcErrors k)).missTurn k

/-- ZFL_ALERT (05 R131): the tray has a frame to send and gets a Grant. -/
def execZflAlert (k : Fin 16) (s : State) : Host.Outcome State Fault Refusal :=
  s.next fun d => d.when (d.live && d.get (O.linkState k) == 2) fun d => d.sendGrant k

/-- ZFL_BEAT (05 R131): the heartbeat Grant. -/
def execZflBeat (k : Fin 16) (s : State) : Host.Outcome State Fault Refusal :=
  s.next fun d => d.when (d.live && d.get (O.linkState k) == 2) fun d => d.sendGrant k

/-- ZFL_TURN_MISSED (05 R129). -/
def execZflTurnMissed (k : Fin 16) (s : State) : Host.Outcome State Fault Refusal :=
  s.run fun d => d.when (d.live && d.get (O.linkState k) != 0) fun d => d.missTurn k

/-- ZFL_NOTICE_TIMEOUT (05 R136): the notice is sent again, or the link is lost after the last retry. -/
def execZflNoticeTimeout (k : Fin 16) (s : State) : Host.Outcome State Fault Refusal :=
  s.run fun d => d.when (d.live && d.get (O.linkState k) == 2) fun d =>
    match (d.link k).outstanding with
    | none => d
    | some n =>
      if (n.tries : Int) < d.get (O.noticeRetries k) then
        ((d.modLink k fun l => { l with outstanding := some { n with tries := n.tries + 1 } }).sendZfl k n.kind n.seq
          n.payload).sendGrant k
      else d.linkLoss k

/-- The link enters UP at a tap (05 R147, R150): LAST and the notices are cleared, the notice SEQ is 0, and the
present state is told. -/
def Device.linkUp (d : Device) (k tap : Nat) : Device :=
  let d := d.modLink k fun l =>
    { l with last := none, noticeSeq := 0, outstanding := none, capPending := none, reachedPending := none, missRun := 0 }
  let d := ((d.set (O.linkState k) 2).set (O.samplePhase k) tap).raiseD k 0x0300 0x0202 []
  let d := d.when ((d.feedCap k).isSome || d.get (O.enforceState k) != 0) fun d => d.capNotice k
  d.when (d.flag (O.reached k)) fun d => d.reachedNotice k

/-- A sweep begins with the first Grant of tap 0 (05 R147). -/
def Device.sweepStart (d : Device) (k : Nat) : Device := (d.modLink k fun l => { l with sweep := [] }).sendGrant k

/-- ZFL_TRAINING_START (05 R146): TGk has been CLOSED for 10 ms, or 1 ms has passed since a loss. -/
def execZflTrainingStart (k : Fin 16) (s : State) : Host.Outcome State Fault Refusal :=
  s.next fun d =>
    d.when (d.live && d.flag (O.linkEnable k) && d.tgSt k == 5 && d.get (O.linkState k) == 0) fun d =>
      let d := (d.set (O.linkState k) 1).modPins fun p => { p with zclkRun := modAt p.zclkRun k fun _ => true }
      if d.get (O.samplePhaseOverride k) = 0xFF then d.sweepStart k
      else d.linkUp k (d.getN (O.samplePhaseOverride k))

/-- The taps of a sweep at which all four Idle replies passed (05 R147). -/
def goodTaps (sweep : List Bool) : List Bool :=
  (List.range 16).map fun t => (sweep.drop (4 * t)).take 4 == [true, true, true, true]

/-- Length of the run of good taps that starts at a tap. -/
def tapRun (taps : List Bool) (t : Nat) : Nat := ((taps.drop t).takeWhile id).length

/-- The tap that a sweep chooses: the middle one of the longest run, the lower of two, in the run that starts
at the lower tap of two runs; none below five taps (05 R147). -/
def chooseTap (taps : List Bool) : Option Nat :=
  let best := (List.range 16).foldl (fun b t => if tapRun taps b < tapRun taps t then t else b) 0
  if 5 ≤ tapRun taps best then some (best + (tapRun taps best - 1) / 2) else none

/-- Every turn of the sweep in progress has ended (05 R147). -/
def Device.sweepDone (d : Device) (k : Nat) : Bool := d.live && d.get (O.linkState k) == 1 && (d.link k).sweep.length == 64

/-- ZFL_TRAINING_COMPLETE (05 R147): the sweep has ended; with a run of five taps the link enters UP. `tap`: the tap that
the sweep gives. -/
def execZflTrainingComplete (k : Fin 16) (tap : Fin 16) (s : State) : Host.Outcome State Fault Refusal :=
  s.next fun d => d.when (d.sweepDone k && chooseTap (goodTaps (d.link k).sweep) == some tap.val) fun d => d.linkUp k tap

/-- ZFL_TRAINING_RETRY (05 R147): 1 ms after a sweep without such a run, it is repeated. -/
def execZflTrainingRetry (k : Fin 16) (s : State) : Host.Outcome State Fault Refusal :=
  s.next fun d => d.when (d.sweepDone k && (chooseTap (goodTaps (d.link k).sweep)).isNone) fun d => d.sweepStart k

/-- A write of LinkEnable (05 R146): 0 holds the link DOWN. -/
def Device.linkEnableNow (d : Device) (k : Nat) (on : Bool) : Device := d.when (!on) fun d => d.linkDown k

/-- ZFL_UNKNOWN_TYPE (05 R126): a TYPE that a tray does not send. -/
def execZflUnknownType (k : Fin 16) (type seq : Byte) (payload : List Byte) (s : State) :
    Host.Outcome State Fault Refusal :=
  s.next fun d =>
    if [0x01#8, 0x10#8, 0x11#8, 0x12#8, 0x13#8].contains type then d
    else if d.live && d.get (O.linkState k) == 2 then (d.rxFrame k).refuse k seq.toNat type.toNat 0x08 type.toNat
    else d.when d.live fun d => d.sweepTurn k false

end Sys2Proof.Machine
end

