-- ==== Sys2Proof/Machine/TrayGates.lean ====
section
/-! DEFINITION. Commands of the tray gates (06 R155–R164, R173, R174). -/

namespace Sys2Proof.Machine

/-- The presence process of an enabled gate: ABSENT, or INSERTING where presence is qualified (06 R156, R157). -/
def Device.presenceAnew (d : Device) (k : Nat) : Device :=
  (d.set (O.tgState k) (if d.flag (O.presence k) then 2 else 1)).modGate k fun g => { g with delayMet := false }

/-- PRESENCE_QUALIFIED (06 R157): TGPk_N has been low for PresenceDeglitch; the insertion delay of a gate that waits for
presence runs. -/
def execPresenceQualified (k : Fin 16) (s : State) : Host.Outcome State Fault Refusal :=
  s.next fun d => d.when d.live fun d =>
    (d.setFlag (O.presence k) true).when (d.tgSt k == 1) fun d => d.presenceAnew k

/-- PRESENCE_LOSS (06 R157, R160–R164): the retries are cleared and the gate opens to ABSENT; a LATCHED or DISABLED gate
stays so. -/
def execPresenceLoss (k : Fin 16) (s : State) : Host.Outcome State Fault Refusal :=
  s.run fun d => d.when d.sys.coreRunning fun d =>
    let d := (((d.setFlag (O.presence k) false).setFlag (O.tgRetrying k) false).set (O.tgRetryCount k) 0).edge (96 + k)
    d.when (d.tgSt k != 7 && d.tgSt k != 0) fun d => (d.tgOpen k 1).modGate k fun g => { g with delayMet := false }

/-- INSERT_DELAY_MET (06 R157): the gate waits for the feed conditions. -/
def execInsertDelayMet (k : Fin 16) (s : State) : Host.Outcome State Fault Refusal :=
  s.next fun d => d.when (d.live && d.tgSt k == 2) fun d =>
    (d.set (O.tgState k) 3).modGate k fun g => { g with delayMet := true }

/-- INRUSH_START (06 R157): the closing conditions hold at a loop sample. -/
def execInrushStart (k : Fin 16) (s : State) : Host.Outcome State Fault Refusal :=
  s.next fun d => d.when (d.live && d.tgSt k == 3 && d.tgMayClose k) fun d => d.tgInrush k

/-- A code of the gate monitor in V: 12 bits over 16.384 V (06 R155). -/
def monitorVolts (c : BitVec 12) : Rat := (c.toNat : Rat) / 250

/-- The samples of a fit: I_TG, V_TS and the slope over ten samples, in A, V and V/s, where V_TS lies from 10%
to 90% of V_DS + V_TS (06 R173). -/
def fitSamples (l : List (Int × BitVec 12 × BitVec 12)) : List (Rat × Rat × Rat) :=
  ((l.drop 10).zip l).filterMap fun (p : (Int × BitVec 12 × BitVec 12) × (Int × BitVec 12 × BitVec 12)) =>
    let v := monitorVolts p.1.2.1
    let t := v + monitorVolts p.1.2.2
    if t ≤ 10 * v ∧ 10 * v ≤ 9 * t then
      some ((p.1.1 : Rat) / 1000, v, (v - monitorVolts p.2.2.1) * 100000)
    else none

/-- The accumulators of a fit: samples, Σv̇², Σv̇·V, ΣV², ΣI·v̇, ΣI·V, ΣI² (06 R173, R176). -/
def fitSums (l : List (Rat × Rat × Rat)) : List Rat :=
  let s := fun (f : Rat × Rat × Rat → Rat) => (l.map f).sum
  [l.length, s fun p => p.2.2 * p.2.2, s fun p => p.2.2 * p.2.1, s fun p => p.2.1 * p.2.1, s fun p => p.1 * p.2.2,
    s fun p => p.1 * p.2.1, s fun p => p.1 * p.1]

/-- The least-squares fit I = C·v̇ + G·V: C in F and G in S, where it is valid: at least 64 samples and a
residual RMS of at most 5% of the mean of I_TG (06 R173). -/
def trayFit (l : List (Rat × Rat × Rat)) : Option (Rat × Rat) :=
  let x := fitSums l
  let ss := x.getD 1 0
  let sv := x.getD 2 0
  let vv := x.getD 3 0
  let is := x.getD 4 0
  let iv := x.getD 5 0
  let s := fun (f : Rat × Rat × Rat → Rat) => (l.map f).sum
  let det := ss * vv - sv * sv
  if l.length < 64 ∨ det = 0 then none
  else
    let c := (is * vv - iv * sv) / det
    let g := (iv * ss - is * sv) / det
    let n : Rat := l.length
    let res := (s fun p => (p.1 - c * p.2.2 - g * p.2.1) * (p.1 - c * p.2.2 - g * p.2.1)) / n
    let m := (s fun p => p.1) / n
    if res ≤ m * m / 400 ∧ 0 ≤ m then some (c, g) else none

/-- The energy in the FET bank over an inrush, from its monitor samples at 1 MS/s, in mJ (06 R158). -/
def inrushEnergyOf (samples : List (Int × BitVec 12 × BitVec 12)) : Int :=
  satU 32 (quant ((samples.map fun p => (p.1 : Rat) * monitorVolts p.2.2).sum / 1000000))

/-- INRUSH_DONE (06 R158, R173, R176): CLOSED; energy, capacitance and leakage from the monitor samples of
the inrush: I_TG in mA, and the codes of V_TS and V_DS. -/
def execInrushDone (k : Fin 16) (samples : List (Int × BitVec 12 × BitVec 12)) (s : State) :
    Host.Outcome State Fault Refusal :=
  s.next fun d => d.when (d.live && d.tgSt k == 4) fun d =>
    let l := fitSamples samples
    let fit := trayFit l
    let cap : Int := match fit with
      | some (c, _) => satU 32 (quant (c * 1000000))
      | none => 0xFFFFFFFF
    let leak : Int := match fit with
      | some (_, g) => satU 16 (quant (g * 12 * 1000))
      | none => 0xFFFF
    let e := inrushEnergyOf samples
    let d := (((d.set (O.tgState k) 5).set (O.inrushEnergy k) e).set (O.trayCapacitance k) cap).set
      (O.trayLeakage k) leak
    let d := ((d.stampAt (O.lastCloseStamp k)).setFlag (O.tgRetrying k) false).modGate k fun g =>
      { g with foldback := false, closedLap := false, cable := none, onRes := none, fit := fitSums l }
    let d := (d.set (O.cableResistance k) 0xFFFF).set (O.gateOnResistance k) 0xFFFF
    d.raiseD (16 + k) 0 0x0303 (leBytes 4 e ++ leBytes 4 cap ++ leBytes 2 leak)

/-- INRUSH_TIMEOUT (06 R158): the energy of the inrush is reported, and the gate trips. -/
def execInrushTimeout (m : Inrush) (s : State) : Host.Outcome State Fault Refusal :=
  s.run fun d => d.when (d.live && d.tgSt m.k == 4) fun d =>
    (d.set (O.inrushEnergy m.k) (inrushEnergyOf m.samples)).tgTrip m.k 2

/-- TG_SHORT (06 R158, R159): the short comparator, in INRUSH and CLOSED. -/
def execTgShort (k : Fin 16) (s : State) : Host.Outcome State Fault Refusal :=
  s.run fun d => d.when (d.live && (d.tgSt k == 4 || d.tgSt k == 5)) fun d => d.tgTrip k 0

/-- FOLDBACK_ENTRY (06 R159): constant-power regulation is back in force and the timer runs. -/
def execFoldbackEntry (k : Fin 16) (s : State) : Host.Outcome State Fault Refusal :=
  s.next fun d => d.when (d.live && d.tgSt k == 5) fun d => d.modGate k fun g => { g with foldback := true }

/-- FOLDBACK_TIMEOUT (06 R159). -/
def execFoldbackTimeout (k : Fin 16) (s : State) : Host.Outcome State Fault Refusal :=
  s.run fun d => d.when (d.live && d.tgSt k == 5 && (d.gate k).foldback) fun d => d.tgTrip k 1

/-- FOLDBACK_RECOVERY (06 R159): the gate stays CLOSED and the timer clears. -/
def execFoldbackRecovery (k : Fin 16) (s : State) : Host.Outcome State Fault Refusal :=
  s.next fun d => d.when (d.live && d.tgSt k == 5) fun d => d.modGate k fun g => { g with foldback := false }

/-- The feed's output has left the gate window: above TgOvLevel at the last two loop samples, or below TgUvLevel, at the
last one, as it has been for TgUvTime (06 R160). -/
def Device.tgWindowLost (d : Device) (k : Nat) : Bool :=
  let vs := (d.feed k).vHist.map fun v => v * 1000
  (decide (2 ≤ vs.length) && (vs.take 2).all fun v => decide ((d.get (O.tgOvLevel k) : Rat) < v)) ||
    ((vs.take 1).any fun v => decide (v < (d.get (O.tgUvLevel k) : Rat)))

/-- The feed has left the states in which its gate may be closed; an inrush ends with RUNNING (06 R160, R164). -/
def Device.tgFeedLost (d : Device) (k : Nat) : Bool :=
  let st := d.feedSt k
  st == 0 || st == 1 || st == 7 || st == 8 || (d.tgSt k == 4 && st != 4)

/-- TG_OPEN_NO_TRIP (06 R160, R164): V_fb has left the window, or the feed its running states. -/
def execTgOpenNoTrip (k : Fin 16) (window : Bool) (s : State) : Host.Outcome State Fault Refusal :=
  s.next fun d => d.when (if window then d.tgWindowLost k else d.tgFeedLost k) fun d => d.tgDriveOff k

/-- COOLDOWN_END (06 R161, R162): INRUSH at once if the closing conditions hold, else WAIT_FEED with the retry
count kept. -/
def execCooldownEnd (k : Fin 16) (s : State) : Host.Outcome State Fault Refusal :=
  s.next fun d => d.when (d.live && d.tgSt k == 6) fun d =>
    if d.tgMayClose k then d.tgInrush k else (d.set (O.tgState k) 3).setFlag (O.tgRetrying k) false

/-- TG_RETRY_RESET (06 R161): CLOSED for RetryReset. -/
def execTgRetryReset (k : Fin 16) (s : State) : Host.Outcome State Fault Refusal :=
  s.next fun d => d.when (d.live && d.tgSt k == 5) fun d => d.set (O.tgRetryCount k) 0

/-- An acknowledgement of a LATCHED gate (06 R163): the presence process anew, or DISABLED while TgEnable is 0.
DEDUCED 183 (notes/assumptions). -/
def Device.tgAckNow (d : Device) (k : Nat) : Device :=
  let d := d.set (O.tgRetryCount k) 0
  if d.flag (O.tgEnable k) then d.presenceAnew k else (d.set (O.tgState k) 0).modGate k fun g => { g with delayMet := false }

/-- A write of TgEnable 1 (06 R157): the presence process.
DEDUCED 183 (notes/assumptions). -/
def Device.tgEnableNow (d : Device) (k : Nat) : Device := d.when (d.tgSt k == 0) fun d => d.presenceAnew k

/-- A write of TgEnable 0 (06 R160–R163): DISABLED with its retries cleared; a LATCHED gate stays. -/
def Device.tgDisableNow (d : Device) (k : Nat) : Device :=
  let d := (d.set (O.tgRetryCount k) 0).setFlag (O.tgRetrying k) false
  d.when (d.tgSt k != 7) fun d => (d.tgOpen k 0).modGate k fun g => { g with delayMet := false }

/-- The cable and gate resistances of a lap that the gate was CLOSED throughout (06 R174): lap means of V_TS,
V_fb and V_DS in µV and of I_TG in mA. -/
def Device.trayLap (d : Device) (k : Nat) (vts vfb vds itg : Int) : Device :=
  let g := d.gate k
  let d := if d.tgSt k = 5 ∧ g.closedLap = true ∧ d.get (O.cableMinCurrent k) * 100 ≤ itg then
      let rc : Rat := ((vts - vfb : Int) : Rat) * 1000 / (itg : Rat)
      let rg : Rat := (vds : Rat) * 1000 / (itg : Rat)
      let upd := fun (o : Option Rat) (r : Rat) => match o with
        | some x => x + (r - x) / 16
        | none => r
      let c := upd g.cable rc
      let o := upd g.onRes rg
      ((d.set (O.cableResistance k) (satU 16 (quant c))).set (O.gateOnResistance k) (satU 16 (quant o))).modGate k
        fun g => { g with cable := some c, onRes := some o }
    else d
  d.modGate k fun g => { g with closedLap := d.tgSt k == 5 }

end Sys2Proof.Machine
end

