-- ==== Sys2Proof/Machine/DiodeGates.lean ====
section
/-! DEFINITION. Commands of the ideal-diode gates and of the bus bar (06 R165–R175). -/

namespace Sys2Proof.Machine

/-- Commands of the gates act while VDDA feeds their drive (06 R170). -/
def Device.gatePowered (d : Device) : Bool := d.sys.coreRunning && d.vddaOk

/-- PRECHARGE_DONE (06 R167): V_AK has fallen below 500 mV; DIODE, with the diode bank off until V_AK reaches
OnThreshold. -/
def execPrechargeDone (g : Fin 6) (s : State) : Host.Outcome State Fault Refusal :=
  s.next fun d => d.when (d.gatePowered && d.get (O.gateMode g) == 1) fun d =>
    d.enterDiode g

/-- PRECHARGE_TIMEOUT (06 R167, R171). -/
def execPrechargeTimeout (g : Fin 6) (s : State) : Host.Outcome State Fault Refusal :=
  s.run fun d => d.when (d.gatePowered && d.get (O.gateMode g) == 1) fun d => d.gateFaultB g 2

/-- REVERSE_TURN_OFF (06 R166, R172): V_AK has fallen below −RevThreshold; the diode bank turns off, the gate is
held off for 1 µs above OnThreshold, or at its pre-bias in an early start. -/
def execReverseTurnOff (g : Fin 6) (s : State) : Host.Outcome State Fault Refusal :=
  s.run fun d => d.when (d.gatePowered && d.get (O.gateMode g) == 2 && d.flag (O.conducting g)) fun d =>
    let d := (d.setFlag (O.conducting g) false).bump (O.reverseOffs g)
    (d.setDrive g (if d.gatePreBiased g then .preBias else .reverseHold)).edge (112 + g)

/-- DIODE_TURN_ON (06 R166, R172): V_AK has reached OnThreshold; the diode bank is enhanced, and then regulates
but in an early start. -/
def execDiodeTurnOn (g : Fin 6) (s : State) : Host.Outcome State Fault Refusal :=
  s.next fun d => d.when (d.gatePowered && d.get (O.gateMode g) == 2 && (!(d.flag (O.conducting g)) || d.drive g == .preBias)) fun d =>
    (d.setFlag (O.conducting g) true).setDrive g (if d.gatePreBiased g then .full else .regulating)

/-- DROP_FAULT (06 R171): in DIODE with the bank driven, V_AK above DropFault for DropFaultTime. -/
def execDropFault (g : Fin 6) (s : State) : Host.Outcome State Fault Refusal :=
  s.run fun d => d.when (d.gatePowered && d.get (O.gateMode g) == 2 && d.flag (O.conducting g)) fun d =>
    d.gateFaultB g 0

/-- BANK_SHORTED (06 R171): reverse current for RevFaultTime while the diode bank is off. -/
def execBankShorted (g : Fin 6) (s : State) : Host.Outcome State Fault Refusal :=
  s.run fun d => d.when (d.gatePowered && !(d.flag (O.conducting g)) && d.get (O.gateMode g) != 1) fun d =>
    d.gateFaultB g 1

/-- A write of GateRequest DIODE with the drop at that instant, in mV (06 R165, R167).
DESIGN CHOICE 50 (notes/assumptions). -/
def Device.requestDiode (d : Device) (g : Nat) : Device := d.gateStart g

/-- A write of GateRequest OFF (06 R165): both banks off. -/
def Device.requestOff (d : Device) (g : Nat) : Device := d.gateOff g

/-- An acknowledgement of a faulted gate (06 R169, R171): its fault and the OFF that the fault or a safe-state route
forced are released.
DEDUCED 49 (notes/assumptions). -/
def Device.gateAckNow (d : Device) (g : Nat) : Device :=
  ((d.set (O.gateFault g) 0).clearBitOf (O.forceOffCause g) 0).gateRelease g 1

/-- BUS_BAR_MEASURE (06 R175): `step` is the change of I_R from one window of 64 µs to the next, in mA; `m` the
changes from the window before the step to the one that begins 100 µs after it. The
resistance before the first step is not stated: a free value.
DESIGN CHOICE 12, 47 (notes/assumptions). -/
def execBusBarMeasure (step : Int) (m : BarStep) (s : State) : Host.Outcome State Fault Refusal :=
  s.next fun d => d.when (d.live && decide (d.get O.bbStepMin * 100 ≤ |step|)) fun d =>
    let first := d.get O.bbSteps = 0
    let r0 := if first then Config.freeRat d.free else d.bar.resistance
    let d := d.when (decide first) Device.used
    let r : Rat := quot ((m.dv : Rat) * 1000) (m.di : Rat)
    let r1 := r0 + (r - r0) / 8
    let d := { d with bar := ⟨r1⟩ }.bump O.bbSteps
    d.when (decide (4 ≤ d.get O.bbSteps)) fun d => d.set O.busBarResistance (satU 16 (quant r1))

end Sys2Proof.Machine
end

