-- ==== Sys2Proof/Machine/Views.lean ====
section
/-! DEFINITION. Objects whose value is assembled from the block's state when they are read (00 R5, 02 R51, R52, 03 R86, 04
R109, 06 R179, 10 R286, 11 R314, 14 R375, 16 R429, 18 R472, 19 R496). -/

namespace Sys2Proof.Machine

/-- The Retrying flag of a block (14 R364). -/
def Device.retryingNow (d : Device) (b : Nat) : Bool :=
  if b < 16 then d.get (O.ocState b) == 1 || d.get (O.ocState b) == 2
  else if b < 32 then d.flag (O.tgRetrying (b - 16))
  else if 42 ≤ b ∧ b < 74 then d.flag (O.rectRetrying (b - 42))
  else if b = 78 then d.flag O.seqRetrying
  else false

/-- Bytes of a list of bits, bit 0 first. -/
def bitBytes (n : Nat) (l : List Bool) : List Byte :=
  (List.range n).map fun i => BitVec.ofNat 8 (((List.range 8).map fun j => if l.getD (8 * i + j) false then 2 ^ j else 0).sum)

/-- The sixteen sources of a B entry (14 R357, R375). -/
def FaultBlock.sourceBytes (f : FaultBlock) : List Byte :=
  ((f.bSources.map fun (s : Nat × Nat × Nat) => leBytes 2 s.1).flatten ++ List.replicate 32 0xFF).take 32

/-- Bytes of the fault status of a block, by sub of 0x6100 + b (14 R375). -/
def Device.faultView (d : Device) (b sub : Nat) : List Byte :=
  let f := d.fault b
  match sub with
  | 1 => leBytes 1 (b2i f.cOpen + 2 * b2i (!f.bSources.isEmpty) + 4 * b2i f.aHeld)
  | 2 => f.sourceBytes
  | 3 => leBytes 8 f.bFirstStamp
  | 4 => leBytes 2 f.bFirstCode
  | 5 => fit 36 f.bParams
  | 6 => leBytes 8 f.cFirstStamp
  | 7 => leBytes 2 f.cFirstCode
  | 8 => leBytes 2 f.cMerge
  | 9 => leBytes 8 f.cLastStamp
  | 10 => fit 36 f.cParams
  | 11 => leBytes 8 f.aStamp
  | 12 => leBytes 2 f.aSource
  | 13 => leBytes 2 f.aCode
  | 16 => leBytes 1 (b2i (d.retryingNow b))
  | 17 => leBytes 4 f.countD
  | 18 => leBytes 4 f.countC
  | _ => leBytes 4 f.countB

/-- Map position of a cell: of a reserve cell the position after the listed ones (03 R58). -/
def Device.positionOf (d : Device) (n : Nat) : Option Nat :=
  match d.feedOf n with
  | some k => (d.feedCells k).findIdx? (· == n)
  | none => none

/-- Positions that switch as ACTIVE, with what an unruled step early start has unshed (04 R109). -/
def Device.activeMask (d : Device) (k : Nat) : Nat :=
  let now := d.pulsing k
  ((d.feedCells k).zipIdx.map fun x => if now.contains x.1 && !d.drains k x.1 then 2 ^ x.2 else 0).sum

/-- Bytes of the records of the transfer table, and of the floors (11 R304, R314). -/
def Device.tableBytes (d : Device) : List Byte := fit 2048 ((d.mram.transfers.map Transfer.bytes).flatten)
/-- See `Device.tableBytes`. -/
def Device.floorBytes (d : Device) : List Byte :=
  fit 192 ((d.mram.floors.map fun f => leBytes 2 f.giver ++ [0, 0] ++ leBytes 8 f.floor).flatten)

/-- The eight bytes of StoredEnables (16 R429): `on` says what counts as stored.
DESIGN CHOICE 115 (notes/assumptions). -/
def Device.storedEnablesNow (d : Device) : List Byte :=
  let on := fun o : Obj => d.stored o == 1
  bitBytes 8 (((List.range 16).map fun k => on (O.feedEnable k)) ++ ((List.range 16).map fun k => on (O.tgEnable k)) ++
    [on O.lineTrackEnable, on O.holdupEnable, on O.rectEnable, on O.chargeEnable, on O.seqEnable, on O.seqFltEnable,
      on O.creditEnable, on O.routerEnable] ++
    ((List.range 4).map fun n => on (O.stringEnable n)) ++ List.replicate 4 false ++
    ((List.range 6).map fun g => on (O.gateRequest g)) ++ [false, false] ++ d.mram.portStored)

/-- The claimed item of a lane as it reads (18 R465). -/
def Item.bytes (i : Item) : List Byte := leBytes 4 i.seq ++ leBytes 4 i.words ++ leBytes 8 i.stamp ++ i.data

/-- The split of the selected lap (18 R457). -/
def Device.historySplitNow (d : Device) : Option (List Byte) :=
  (d.mem.history.find? fun h => h.1 == d.getN O.historySelect).map (·.2)

/-- Bytes that PfData returns (19 R492). -/
def Device.pfDataNow (d : Device) : List Byte :=
  let sel := d.get O.pfSelect
  (((d.pfSlot (field sel 0 1)).bytes).drop (field sel 4 4)).take 1024

/-- ASCII bytes of a text. -/
def asciiBytes (s : String) : List Byte := s.toList.map fun c => BitVec.ofNat 8 c.toNat

/-- Bytes of one unsigned number. -/
def one (n : Nat) (v : Int) : Option (List Byte) := some (leBytes n v)

/-- Objects of chapters 02 to 10 that are assembled at the read. -/
def Device.viewLow (d : Device) (o : Obj) (k : Nat) : Option (List Byte) :=
  match o.id with
  | 0x203000 => some d.tb.lastSplit
  | 0x204000 => one 8 (d.slotRead k)
  | 0x204800 => one 8 (d.slotRead k)
  | 0x208008 => one 8 d.now
  | 0x250002 => one 1 ((d.feedOf k).getD 0xFF)
  | 0x250003 => one 1 ((d.positionOf k).getD 0xFF)
  | 0x802001 => one 1 (b2i (d.feed k).es.isSome)
  | 0x802002 => one 8 (((d.feed k).es.map StepEs.stamp).getD 0)
  | 0x802003 => one 8 (((d.feed k).es.map StepEs.windowEnd).getD 0)
  | 0x802004 => one 2 (if (d.feed k).es.isSome then d.activeMask k else 0)
  | 0x802005 => one 4 (if (d.feed k).es.isSome then satS 32 (quant ((d.feed k).pre * 1000000)) else 0)
  | 0x803001 => one 1 (b2i (d.gatePreBiased (o.sub + 1)))
  | 0x803101 => one 1 (b2i (d.chargePaused (o.sub - 1)))
  | 0x420002 => one 1 (d.pairOf k)
  | 0x48c001 => some ((d.learnedSlot k 0).bytes)
  | 0x48c002 => some ((d.learnedSlot k 1).bytes)
  | 0x48c003 => one 1 ((d.newest k).getD 0xFF)
  | 0x800001 => one 1 (b2i d.hold.es.isSome)
  | 0x800002 => one 2 (((List.range 16).map fun k => if (d.feed k).es.isSome then 2 ^ k else 0).sum : Nat)
  | 0x801001 => one 8 ((d.hold.es.map HoldEs.stamp).getD 0)
  | 0x801002 => one 8 ((d.hold.es.map HoldEs.dev).getD 0)
  | 0x801003 => one 8 ((d.hold.es.map HoldEs.confirm).getD 0)
  | 0x801004 => one 4 ((d.hold.es.map HoldEs.budget).getD 0)
  | 0x801005 => one 4 (match d.hold.es with
    | some e => satU 32 (quant e.sag)
    | none => 0)
  | 0x801006 => one 2 (match d.hold.es with
    | some e => satU 16 (quant (e.preload * 1000))
    | none => 0)
  | _ => none

/-- Objects of chapters 11 to 14 that are assembled at the read. -/
def Device.viewMid (d : Device) (o : Obj) (k : Nat) : Option (List Byte) :=
  match o.id with
  | 0x500101 => one 4 d.ledger.allot
  | 0x500102 => one 4 d.ledger.pool
  | 0x500103 => one 4 d.ledger.rc
  | 0x500104 => one 4 d.ledger.rh
  | 0x500105 => one 4 d.ledger.eout
  | 0x500106 => one 4 d.ledger.ein
  | 0x500107 => one 1 (b2i d.ledger.frozen)
  | 0x500108 => one 8 d.mram.ledgerRec.stamp
  | 0x500207 => one 8 d.mram.adjusted
  | 0x501002 => one 4 (d.ledger.grant k)
  | 0x501007 => one 2 ((d.feedCap k).getD 0xFFFF)
  | 0x503000 => some d.tableBytes
  | 0x503100 => some d.floorBytes
  | 0x504001 => some d.mram.ledA.bytes
  | 0x504002 => some d.mram.ledB.bytes
  | 0x584008 => one 1 (b2i (d.srcRetrying k))
  | 0x600101 => some (bitBytes 12 (d.faults.map fun f => !f.bSources.isEmpty))
  | 0x600102 => some (bitBytes 12 (d.faults.map FaultBlock.cOpen))
  | 0x600103 => some (bitBytes 12 (d.faults.map FaultBlock.aHeld))
  | _ => if o.index / 256 = 0x61 ∧ o.id ≠ 0x61000f then some (d.faultView k o.sub) else none

/-- Objects of chapters 15 to 20 that are assembled at the read. The wall clock has moved by crystal time that no
command brings: a free value (15 R401). -/
def Device.viewHigh (d : Device) (o : Obj) (k : Nat) : Option (List Byte) :=
  match o.id with
  | 0x103002 => some d.net.syncPair
  | 0x103003 => one 8 (if ofLe d.net.syncPair = 0 then 0 else d.freeVal)
  | 0x100001 => some (asciiBytes "Kambifa Microsystems")
  | 0x100002 => some (asciiBytes "Streltum SX96")
  | 0x100003 => some (asciiBytes "SX96-FB1369-E")
  | 0x220200 => some d.storedEnablesNow
  | 0x701001 => one 4 (d.poolTotal k)
  | 0x701002 => one 4 (d.poolFree k)
  | 0x701003 => one 4 (d.poolAllocated k)
  | 0x701004 => one 4 (d.poolInFlight k)
  | 0x701005 => one 4 (d.quotaSum k)
  | 0x702003 => d.historySplitNow
  | 0x702004 => one 8 ((d.mem.history.getLast?.map (·.1)).getD 0)
  | 0x702005 => one 8 ((d.mem.history.head?.map (·.1)).getD 0)
  | 0x710007 => some (match (d.lane k).claim with
    | some c => c.1.bytes
    | none => [])
  | 0x720001 => one 4 (d.lane k).items.length
  | 0x720002 => one 4 (d.lane k).cells
  | 0x72000c => one 1 (((d.lane k).claim.map (·.2)).getD 0xFF)
  | 0x780004 => some ((d.recordBlock.map Record.bytes).flatten)
  | 0x780005 => some (match d.mram.log.head? with
    | some r => r.bytes
    | none => List.replicate 64 0)
  | 0x780101 => one 4 d.mram.held
  | 0x780104 => one 4 d.mram.frozen
  | 0x780105 => one 4 d.mram.refused
  | 0x780106 => one 8 d.mram.repeats
  | 0x780107 => one 8 d.mram.raised
  | 0x78010a => one 4 d.mram.clears
  | 0x780202 => some (d.recorder.challenge.getD (List.replicate 16 0))
  | 0x781202 => one 1 ((d.pf.filter fun x => x.state == 3 || x.state == 4).length)
  | 0x781302 => some d.pfDataNow
  | _ => none

/-- Bytes of an object that no path has for itself and that no capture holds. -/
def Device.viewBytes (d : Device) (o : Obj) (k : Nat) : List Byte :=
  ((d.viewLow o k).orElse fun _ => (d.viewMid o k).orElse fun _ => d.viewHigh o k).getD (o.ty.encode (d.get o))

end Sys2Proof.Machine
end

