-- ==== Sys2Proof/Machine/Mirror.lean ====
section
/-! DEFINITION. The state mirror: the bytes of every mirror object, and a capture (16 R427, R428). Elapsed and remaining
times, and what a mirror shows of the inside of an engine that no rule gives the value of, are free values
(notes/assumptions/3.md). -/

namespace Sys2Proof.Machine

/-- Field `j` of a mirror object that the model holds no value for: a free value.
DESIGN CHOICE 3 (notes/assumptions). -/
def Device.unk (d : Device) (o : Obj) (j n : Nat) : List Byte := leBytes n (Config.freeInt (d.free + o.key * 64 + j))

/-- A quantity in a two's complement field of 4 bytes, in the unit that `scale` gives. -/
def q4 (q : Rat) (scale : Nat) : List Byte := leBytes 4 (satS 32 (quant (q * scale)))
/-- The same in a field of 8 bytes. -/
def q8 (q : Rat) (scale : Nat) : List Byte := leBytes 8 (satS 64 (quant (q * scale)))
/-- One byte. -/
def u1 (v : Int) : List Byte := leBytes 1 v
/-- Reserved bytes. -/
def zeros (n : Nat) : List Byte := List.replicate n 0

/-- Role and pair of an engine (16 R428). -/
def Device.roleOf (d : Device) (e : Nat) : Nat × Nat :=
  let st := d.get (O.engineState e)
  if e < 2 then ((if d.getN O.activeShelfCore = e then 1 else if st = 2 then 2 else 0), 0xFF)
  else if e < 10 then
    if d.getN (O.controlEngine (2 * (e - 2))) = e - 2 then (4, e - 2) else ((if st = 2 then 2 else 0), 0xFF)
  else if e = 10 then if d.get O.le8Pair = 0xFF then ((if st = 2 then 3 else 0), 0xFF) else (4, d.getN O.le8Pair)
  else (0, 0xFF)

/-- EngineMirror.
DESIGN CHOICE 16 (notes/assumptions). -/
def Device.engineMirror (d : Device) (e : Nat) : List Byte :=
  let r := d.roleOf e
  u1 (d.get (O.engineState e)) ++ u1 r.1 ++ u1 r.2 ++ [0] ++ d.unk (O.engineMirror e) 0 4 ++ d.unk (O.engineMirror e) 1 8

/-- TimebaseMirror. The upper 16 bits of the accumulator are the angle, what lies below one au is free; the slew still
pending is the error that RELOCK slews from (02 R35, R36, R52).
DEDUCED 179 (notes/assumptions). -/
def Device.timebaseMirror (d : Device) : List Byte :=
  leBytes 4 (toQ1616 d.tb.freq) ++ d.unk O.timebaseMirror 0 2 ++ leBytes 2 d.angle ++
    leBytes 4 (if d.get O.timebaseState = 2 then d.get O.phaseError else 0) ++ u1 (d.get O.timebaseState) ++
    u1 (d.get O.sourceClass) ++ u1 (d.get O.rotation) ++ u1 (d.get O.templateValid) ++ d.tb.slots.flatMap fun s => u1 s.fires

/-- HoldupMirror. -/
def Device.holdupMirror (d : Device) : List Byte :=
  u1 (d.get O.holdupState) ++ u1 (d.get O.busArmed) ++ d.unk O.holdupMirror 0 1 ++ d.unk O.holdupMirror 1 1 ++
    leBytes 4 (d.get O.lapsSinceChange) ++ leBytes 4 (if d.get O.holdupState = 2 then (d.lap : Int) - d.hold.returnLap else 0) ++
    zeros 4

/-- CellMirror. -/
def Device.cellMirror (d : Device) (n : Nat) : List Byte :=
  let c := d.cell n
  u1 (d.get (O.cellState n)) ++ u1 (match d.feedOf n with
    | some k => (d.feed k).rot
    | none => 0) ++ u1 (b2i c.rearmed) ++ [0] ++ q4 c.x 1000 ++ leBytes 2 (satS 16 (quant (c.trim * 32768))) ++ zeros 2 ++
    leBytes 4 c.pulses

/-- FeedCheckpoint.
DESIGN CHOICE 16 (notes/assumptions). -/
def Device.feedCheckpoint (d : Device) (k : Nat) : List Byte :=
  let f := d.feed k
  let o := O.feedCheckpoint k
  let uv := fun q : Rat => q4 q 1000000
  uv f.integ ++ uv f.err ++ uv f.q1 ++ uv f.q2 ++ uv f.n1w1 ++ uv f.n1w2 ++ uv f.n2w1 ++ uv f.n2w2 ++ uv f.vlp ++ uv f.vset ++
    uv f.vtgt ++ u1 f.slew ++ u1 (d.get (O.deActive k)) ++ d.unk o 0 1 ++
    u1 (match f.draining with
      | some n => (d.cell n).drained
      | none => 0) ++ uv f.pre ++ u1 (b2i f.es.isSome) ++ zeros 3 ++ leBytes 8 ((f.es.map StepEs.stamp).getD 0) ++
    leBytes 8 ((f.es.map StepEs.windowEnd).getD 0) ++ leBytes 2 (d.activeMask k) ++ zeros 2 ++ d.unk o 1 4 ++ d.unk o 2 4 ++
    d.unk o 3 4 ++ d.unk o 4 4 ++ u1 f.ovRun ++ u1 f.limitedRun ++ u1 (d.get (O.ocState k)) ++ [0] ++ d.unk o 5 4 ++ d.unk o 6 4 ++
    zeros 8

/-- LinkMirror. -/
def Device.linkMirror (d : Device) (k : Nat) : List Byte :=
  let l := d.link k
  let last := l.last.getD (0, 0, [])
  u1 last.1 ++ u1 (b2i l.last.isSome) ++ u1 l.noticeSeq ++ u1 ((l.outstanding.map Notice.kind).getD 0) ++
    u1 ((l.outstanding.map Notice.tries).getD 0) ++ zeros 3 ++
    (if l.last.isSome then fit 14 (zflFrame l.answer.1 last.1 l.answer.2) else zeros 14) ++ fit 8 (l.capPending.getD []) ++
    fit 4 (l.reachedPending.getD []) ++ zeros 6

/-- TrayGateMirror. The accumulators of an inrush in progress are free values: its samples come with its end (06 R176). -/
def Device.trayGateMirror (d : Device) (k : Nat) : List Byte :=
  let o := O.trayGateMirror k
  u1 (d.get (O.tgState k)) ++ u1 (d.get (O.tgRetryCount k)) ++ zeros 2 ++
    ((List.range 4).map fun j => d.unk o j 4).flatten ++
    (if d.tgSt k = 4 then d.unk o 4 4 ++ ((List.range 6).map fun j => d.unk o (5 + j) 8).flatten
     else leBytes 4 (quant ((d.gate k).fit.headD 0)) ++ ((d.gate k).fit.drop 1).flatMap fun x => q8 x 1000000)

/-- Code of a drive (16 R428). -/
def Drive.code : Drive → Nat
  | .off => 0
  | .precharge => 1
  | .regulating => 2
  | .full => 3
  | .reverseHold => 4
  | .preBias => 5

/-- DiodeGateMirror. -/
def Device.diodeGateMirror (d : Device) (g : Nat) : List Byte :=
  u1 (d.drive g).code ++ u1 (d.get (O.gateMode g)) ++ zeros 2 ++ d.unk (O.diodeGateMirror g) 0 4

/-- BusMirror. -/
def Device.busMirror (d : Device) : List Byte :=
  let b := d.bus
  let place := fun (n : Nat) (l : List (Nat × Nat)) =>
    leBytes 2 (bits (d.slotWordNow n) 48 16) ++ u1 ((l.head?.map (·.1)).getD 0xFF) ++ u1 (b2i (!l.isEmpty))
  q4 b.vb 1000000 ++ q4 b.integ 1000000 ++ q4 b.u 1000000 ++ place 4 b.place4 ++ place 5 b.place5 ++ zeros 4

/-- SlotMirror. -/
def Device.slotMirror (d : Device) (r : Nat) : List Byte :=
  let x := d.slot r
  let left := if d.rectSt r = 8 then x.since + d.getN O.rectRetryDelay - d.lap else 0
  q4 x.share 1000000 ++ leBytes 2 (min 65535 (d.lap - x.since)) ++ leBytes 2 (min 65535 left) ++
    u1 (if d.rectSt r = 6 then min 255 (d.lap - x.since) else 0) ++ zeros 7

/-- PmbusMirror. -/
def Device.pmbusMirror (d : Device) (p : Nat) : List Byte :=
  let x := d.port p
  u1 x.rot ++ u1 (d.get (O.pbPortState p)) ++ u1 ((x.busy.map Job.tries).getD 0) ++ [0] ++ d.unk (O.pmbusMirror p) 0 4

/-- ChargerMirror: the slope window oldest first. -/
def Device.chargerMirror (d : Device) (n : Nat) : List Byte :=
  let x := d.str n
  q4 x.ir 1000 ++ q4 x.delta 1000 ++ leBytes 2 (match x.vPk with
    | some v => satU 16 (quant (v * 1000))
    | none => 0) ++ zeros 2 ++ fit 120 (x.temps.reverse.flatMap fun t => leBytes 2 (satS 16 (quant (t.2 * 10)))) ++
    leBytes 4 (max 0 (d.get (O.detectHoldoff n) - x.sinceReset)) ++ leBytes 4 (max 0 (d.elapsedNow n / 1000000000)) ++ u1 x.fails ++ zeros 3

/-- GaugeMirror. -/
def Device.gaugeMirror (d : Device) (n : Nat) : List Byte :=
  let x := d.str n
  let w := x.watch.win
  let side := fun (l : List GaugeCell) => q4 (mean (l.map (·.i))) 1000 ++ q4 (mean (l.map (·.v))) 1000
  let span := x.span.getD (0, 0, 0)
  q4 x.soc 2147483648 ++ q4 x.vp 1000000 ++ q8 x.p11 1000000000000 ++ q8 x.p12 1000000000 ++ q8 x.p22 1000000000000 ++
    leBytes 4 (min (2 ^ 32 - 1) (x.watch.rest / 4)) ++ side (w.drop 12) ++ side (w.take 8) ++ q8 span.2.1 1000000 ++ q8 span.2.2 1000000 ++
    leBytes 8 x.acc ++ zeros 4

/-- LedgerMirror: bytes 16–119 of a record of the present entries. -/
def Device.ledgerMirror (d : Device) : List Byte :=
  let r := d.mram.ledgerRec
  ((LedgerRec.bytes { r with seq := 1, book := d.ledger, damaged := false }).drop 16).take 104

/-- EnforceMirror. -/
def Device.enforceMirror (d : Device) (k : Nat) : List Byte :=
  let e := d.enforce k
  u1 (d.get (O.enforceState k)) ++ u1 (d.get (O.graceLeft k)) ++ u1 e.clear ++ u1 e.fault ++ leBytes 4 (d.get (O.grantRequest k)) ++
    leBytes 2 ((d.feed k).creditCap.getD 0xFFFF) ++ zeros 2 ++ leBytes 4 (d.get (O.lapPower k))

/-- RailMirror. -/
def Device.railMirror (d : Device) (r : Nat) : List Byte :=
  let o := O.railMirror r
  u1 (d.get (O.railState r)) ++ u1 (d.get (O.chatterCount r)) ++ u1 (d.get (O.subtreeRetryCount r)) ++ [0] ++
    ((List.range 4).map fun j => d.unk o j 4).flatten ++ d.unk o 4 2 ++ u1 (b2i (d.srcRetrying r)) ++ [0]

/-- SequencerMirror. -/
def Device.sequencerMirror (d : Device) : List Byte :=
  u1 (d.get O.seqState) ++ u1 (d.get O.sequenceRetryCount) ++ zeros 2 ++
    ((List.range 3).map fun j => d.unk O.sequencerMirror j 4).flatten

/-- ResetMirror. -/
def Device.resetMirror (d : Device) : List Byte := ((List.range 8).map fun j => d.unk O.resetMirror j 2).flatten

/-- UnitMirror. -/
def Device.unitMirror (d : Device) (u : Nat) : List Byte :=
  u1 (d.get (O.output u)) ++ u1 (d.router.counts.getD u 0) ++ u1 (d.get (O.edgeFlags u)) ++ u1 (d.get (O.routeHold u))

/-- TimerMirror.
DESIGN CHOICE 16 (notes/assumptions). -/
def Device.timerMirror (d : Device) (j : Nat) : List Byte :=
  if d.flag (O.timerRunning j) then d.unk (O.timerMirror j) 0 4 else zeros 4

/-- FaultMirror. -/
def Device.faultMirror (d : Device) (b : Nat) : List Byte :=
  ((List.range 13).map fun j => d.faultView b (j + 1)).flatten ++ u1 (b2i (d.retryingNow b)) ++ d.unk (O.faultMirror b) 0 4 ++
    zeros 8

/-- ThermalMirror: samples and means newest first; a mean whose 1000 samples are not there yet is free.
DESIGN CHOICE 16 (notes/assumptions). -/
def Device.thermalMirror (d : Device) : List Byte :=
  let l := d.therm.samples
  let deci := fun t : Rat => leBytes 2 (satS 16 (quant (t * 10)))
  (if d.faultPulse then d.unk O.thermalMirror 0 4 else zeros 4) ++ fit 32 ((l.take 16).flatMap deci) ++
    ((List.range 11).map fun j =>
      let w := (l.drop (100 * j)).take 1000
      if w.length = 1000 then deci (mean w) else d.unk O.thermalMirror (1 + j) 2).flatten ++ zeros 6

/-- SessionMirror. -/
def Device.sessionMirror (d : Device) (s : Nat) : List Byte :=
  let x := d.session s
  let waits := (x.requests.flatMap Req.ops).filter fun o => o.op.isWait && o.started && o.result.isNone
  leBytes 4 (d.get (O.rxSeqHigh s)) ++ leBytes 8 (d.get (O.replayMask s)) ++ fit 32 (x.requests.flatMap fun r => leBytes 4 r.seq) ++
    u1 waits.length ++ u1 x.unacked.length ++ u1 x.queued.length ++ [0] ++ leBytes 4 (d.get (O.txSeq s)) ++
    d.unk (O.sessionMirror s) 0 4 ++ zeros 8

/-- CachedResponse of a window entry: entry j is the request with number H − j. -/
def Device.cachedBytes (d : Device) (s j : Nat) : List Byte :=
  match (d.session s).cache.find? fun c => c.1 + j == d.getN (O.rxSeqHigh s) with
  | some c => c.2.2
  | none => []

/-- PlcaMirror. -/
def Device.plcaMirror (d : Device) (p : Nat) : List Byte :=
  u1 (d.get (O.netPortState p)) ++ u1 (d.netPort p).id ++ d.unk (O.plcaMirror p) 0 1 ++ [0] ++ d.unk (O.plcaMirror p) 1 4

/-- A pending write in DictMirror. -/
def pendingBytes (kind : Nat) (p : Pending) : List Byte :=
  let n : Nat := match locate (p.key / 256) (p.key % 256) with
    | .obj o _ => o.ty.size.getD 0
    | _ => 0
  leBytes 2 (p.key / 256) ++ u1 (p.key % 256) ++ u1 kind ++ leBytes 2 (Int.ofNat n) ++ u1 p.path ++ [0] ++ pad4 (leBytes n p.value)

/-- DictMirror. -/
def Device.dictMirror (d : Device) : List Byte :=
  let staged := (d.dict.staged.map (·.2)).getD []
  leBytes 2 d.dict.queue.length ++ leBytes 2 staged.length ++ u1 (d.get O.stagingOwner) ++ zeros 3 ++
    d.dict.queue.flatMap (pendingBytes 0) ++ staged.flatMap (pendingBytes 1)

/-- LaneMirror. -/
def Device.laneMirror (d : Device) (q : Nat) : List Byte :=
  let l := d.lane q
  let o := O.laneMirror q
  d.unk o 0 4 ++ d.unk o 1 4 ++ leBytes 4 l.items.length ++ leBytes 4 l.cells ++ leBytes 4 (d.get (O.lostItems q)) ++ d.unk o 2 4 ++
    leBytes 4 ((l.packet.map Packet.cells).getD 0) ++ u1 (d.poolOf q) ++ zeros 3

/-- PoolMirror.
DESIGN CHOICE 16 (notes/assumptions). -/
def Device.poolMirror (d : Device) : List Byte :=
  [0, 1].flatMap fun p => leBytes 4 (d.poolFree p) ++ leBytes 4 (d.poolAllocated p) ++ leBytes 4 (d.poolInFlight p) ++
    leBytes 4 (d.poolTotal p)

/-- RecorderMirror. -/
def Device.recorderMirror (d : Device) : List Byte :=
  leBytes 4 d.mram.held ++ leBytes 4 (d.get O.recordWrites) ++ u1 (d.get O.frozen) ++ u1 (d.get O.full) ++ zeros 2 ++
    leBytes 4 d.mram.frozen ++ leBytes 4 d.mram.refused ++
    u1 ((d.pf.filter fun x => x.state == 3 || x.state == 4).length) ++ u1 (b2i (d.get O.pfState == 1)) ++ zeros 2 ++
    d.unk O.recorderMirror 0 4 ++ zeros 4

/-- Every mirror object but the copy of the speculative view, with its bytes (16 R428).
DESIGN CHOICE 16 (notes/assumptions). -/
def Device.mirrorNow (d : Device) : List (Nat × List Byte) :=
  let each := fun (n : Nat) (o : Nat → Obj) (f : Nat → List Byte) => (List.range n).map fun i => ((o i).key, f i)
  each 16 O.engineMirror d.engineMirror ++ [(O.timebaseMirror.key, d.timebaseMirror), (O.holdupMirror.key, d.holdupMirror)] ++
    each 96 O.cellMirror d.cellMirror ++ each 16 O.feedCheckpoint d.feedCheckpoint ++
    each 16 O.phaseMapMirror (fun k => leBytes 16 (d.get (O.phaseMap k))) ++ each 16 O.linkMirror d.linkMirror ++
    each 16 O.trayGateMirror d.trayGateMirror ++ each 6 O.diodeGateMirror d.diodeGateMirror ++ [(O.busMirror.key, d.busMirror)] ++
    each 32 O.slotMirror d.slotMirror ++ each 4 O.pmbusMirror d.pmbusMirror ++ each 4 O.chargerMirror d.chargerMirror ++
    each 4 O.gaugeMirror d.gaugeMirror ++
    [(O.ledgerMirror.key, d.ledgerMirror), (O.transferMirror.key, d.tableBytes), (O.floorMirror.key, d.floorBytes)] ++
    each 16 O.enforceMirror d.enforceMirror ++ each 24 O.railMirror d.railMirror ++
    [(O.sequencerMirror.key, d.sequencerMirror), (O.resetMirror.key, d.resetMirror)] ++ each 64 O.unitMirror d.unitMirror ++
    each 4 O.timerMirror d.timerMirror ++ each 88 O.faultMirror d.faultMirror ++ [(O.thermalMirror.key, d.thermalMirror)] ++
    each 16 O.sessionMirror d.sessionMirror ++
    ((List.range 16).map fun s => each 64 (O.cachedResponse s) (d.cachedBytes s)).flatten ++ each 2 O.plcaMirror d.plcaMirror ++
    [(O.dictMirror.key, d.dictMirror)] ++ each 128 O.laneMirror d.laneMirror ++
    [(O.poolMirror.key, d.poolMirror), (O.recorderMirror.key, d.recorderMirror)]

/-- The copy of the speculative view, under the addresses of its source (16 R428). -/
def Device.specNow (d : Device) : List (Nat × List Byte) :=
  let objs := (famTable.filter fun f => decide (0x8000 ≤ f.base) && decide (f.base ≤ 0x80FF)).flatMap fun f =>
    (List.range f.count).flatMap fun i => (f.objs (f.first + i)).map fun o => (o, f.first + i)
  objs.map fun x => (x.1.key, d.viewBytes x.1 x.2)

/-- A capture of the mirror by a path (16 R427).
DESIGN CHOICE 16 (notes/assumptions). -/
def Device.capture (d : Device) (path : Nat) : Device :=
  let m := d.mirrorNow ++ d.specNow
  let g : Nat := (d.getN O.generation + 1) % 2 ^ 32
  let d := { d with dict := { d.dict with mirror := m }, free := d.free + 2 ^ 30 }
  ((d.set O.generation g).stampAt O.captureStamp).set O.capturedBy path

end Sys2Proof.Machine
end

