-- ==== Sys2Proof/Machine/Rectifiers.lean ====
section
/-! DEFINITION. Commands of the PMBus ports and the rectifier slots (07 R184–R205). -/

namespace Sys2Proof.Machine

/-- PMBUS_TRANSACTION_DONE (07 R184, R185, R188): with the check of SDA before the transaction. A port that the check
finds STUCK has not carried it out.
DESIGN CHOICE 160 (notes/assumptions). -/
def execPmbusTransactionDone (p : Fin 4) (sda : Sda) (reply : Reply) (s : State) : Host.Outcome State Fault Refusal :=
  s.run fun d => match (d.port p).busy with
    | none => d
    | some j => d.when d.sys.coreRunning fun d =>
      if sda = .stuck then d.pbStuck p
      else
        let d := (d.when (sda == .freed) fun d => d.pbRecovered p).emit (.pmbus p (d.getN (O.address j.slot)) j.code j.data)
        match reply with
        | .nack a => d.pbError p j a
        | .pec => d.pbError p j false
        | .ok bs => ((d.pbEnd p).pbResult j (some bs)).pbNext p

/-- PMBUS_CLOCK_TIMEOUT (07 R186): a transaction error; with SCL still low the port is STUCK.
DESIGN CHOICE 57 (notes/assumptions). -/
def execPmbusClockTimeout (p : Fin 4) (sclLow : Bool) (s : State) : Host.Outcome State Fault Refusal :=
  s.run fun d => match (d.port p).busy with
    | none => d
    | some j => d.when d.sys.coreRunning fun d =>
      let d := (d.bump (O.clockTimeouts p)).raiseD (74 + p) 0 0x0403 []
      let d := (d.emit (.pmbus p (d.getN (O.address j.slot)) j.code j.data)).pbError p j false
      d.when sclLow fun d => d.pbStuck p

/-- PMBUS_STUCK_RETRY (07 R185): the recovery is repeated; a freed port reads the identity of each of its slots
before anything else. -/
def execPmbusStuckRetry (p : Fin 4) (sda : Sda) (s : State) : Host.Outcome State Fault Refusal :=
  s.run fun d => d.when (d.sys.coreRunning && d.stuck p && sda != .stuck) fun d =>
    let d := (d.when (sda == .freed) fun d => d.pbRecovered p).set (O.pbPortState p) 0
    d.when (d.flag O.rectEnable) fun d =>
      (((slotsOf p).filter fun r => d.rectSt r != 11).foldl Device.pbIdentify d).pbNext p

/-- RECT_PROBE (07 R189): an EMPTY slot is probed; an UNSUPPORTED one too, to see whether it has been re-seated.
DESIGN CHOICE 53 (notes/assumptions). -/
def execRectProbe (r : Fin 32) (s : State) : Host.Outcome State Fault Refusal :=
  s.next fun d => d.when (d.portMay (portOf r) && d.flag (O.slotEnable r) && (d.rectSt r == 0 || d.rectSt r == 2))
    fun d => d.pbPut r 0x98 false [] .probe

/-- RECT_ADD_TIMEOUT (07 R202 step 4); a slot whose port is STUCK stays as it is (R209). -/
def execRectAddTimeout (r : Fin 32) (s : State) : Host.Outcome State Fault Refusal :=
  s.run fun d => d.when (d.scActive && d.flag O.rectEnable && d.rectSt r == 4 &&
    !(d.stuck (portOf r)) && decide ((d.slot r).since + d.getN O.addSettleLaps ≤ d.lap)) fun d => d.rectFault r .addTimeout

/-- RECT_SHED_RAMP_END (07 R203 step 2): the OPERATION 0x40 is placed by slot 5. -/
def execRectShedRampEnd (r : Fin 32) (s : State) : Host.Outcome State Fault Refusal :=
  s.next fun d => d.when (d.scActive && d.flag O.rectEnable && d.rectSt r == 6 && !(d.slot r).rampDone &&
    !(d.stuck (portOf r)) && decide ((d.slot r).since + d.getN O.shedRampLaps ≤ d.lap)) fun d =>
    let d := d.modSlot r fun x => { x with rampDone := true }
    if d.bus.place5 = [] then d.place true r (d.get O.shedOffset) else d

/-- RECT_RETRY_DELAY_END (07 R205): CLEAR_FAULTS, then STANDBY with the retry counted. -/
def execRectRetryDelayEnd (r : Fin 32) (s : State) : Host.Outcome State Fault Refusal :=
  s.next fun d => d.when (d.scActive && d.flag O.rectEnable && d.rectSt r == 8 &&
    decide ((d.slot r).since + d.getN O.rectRetryDelay ≤ d.lap)) fun d =>
    ((d.pbOrder r 0x03 []).setRect r 3).set (O.retryCount r) (d.get (O.retryCount r) + 1)

/-- RectEnable 1 (07 R192): every enabled slot that is not latched is discovered; the pacer starts from V̄, where none has
been measured yet from the first (R195).
DESIGN CHOICE 187 (notes/assumptions). -/
def Device.rectEnableNow (d : Device) : Device :=
  let d := { d with bus := { BusReg.reset with
    vbar := d.bus.vbar, w1 := d.bus.w1, w2 := d.bus.w2, powers := d.bus.powers, rms := d.bus.rms
    vb := d.bus.vbar.getD 0, started := d.bus.vbar.isSome } }
  let d := d.forAll [0, 1, 2, 3] fun p d => d.modPort p fun x => { x with queue := [] }
  let d := (d.set O.integralTrim 0).set O.commonTrim 0
  let d := d.forAll ((List.range 32).filter fun r => d.flag (O.slotEnable r) && d.rectSt r != 9) fun r d => d.discoverStart r
  d.forAll [0, 1, 2, 3] fun p d => d.pbNext p

/-- RectEnable 0 (07 R192): the ports send nothing more; no rectifier is turned off. -/
def Device.rectDisableNow (d : Device) : Device :=
  let d := d.forAll [0, 1, 2, 3] fun p d => d.modPort p fun x => { x with queue := [] }
  { d with bus := { d.bus with place4 := [], place5 := [] } }

/-- SlotEnable 1 (07 R189). -/
def Device.slotEnableNow (d : Device) (r : Nat) : Device :=
  let st := d.rectSt r
  if st = 11 ∨ st = 0 ∨ st = 2 then
    let d := d.setRect r 0
    d.when (d.flag O.rectEnable) fun d => d.discoverStart r
  else d

/-- SlotEnable 0 (07 R192): OPERATION 0x40 to a running rectifier at once, then no traffic; a port that may not send
sends none. The off time of R204 goes on.
DEDUCED 200 (notes/assumptions). -/
def Device.slotDisableNow (d : Device) (r : Nat) : Device :=
  let runs := [4, 5, 6].contains (d.rectSt r)
  let d := (d.actionEnds r).modPort (portOf r) fun x => { x with queue := x.queue.filter fun j => j.slot != r }
  let d := { d with bus := { d.bus with place4 := d.bus.place4.filter fun x => x.1 != r
                                        place5 := d.bus.place5.filter fun x => x.1 != r } }
  let d := d.when (runs && d.portMay (portOf r)) fun d => d.pbOrder r 0x01 [0x40]
  (d.modSlot r fun x => { RectSlot.reset with offLap := x.offLap }).setRect r 11

/-- GroupEnable of a group 1 (07 R208): the forced OFF of its gate is lifted. -/
def Device.groupEnableNow (d : Device) (b : Bool) : Device := d.gateRelease (if b then 1 else 0) 2

/-- RectAck of a LATCHED slot (07 R205). -/
def Device.rectAckNow (d : Device) (r : Nat) : Device := (d.setRect r 3).set (O.retryCount r) 0

end Sys2Proof.Machine
end

