-- ==== Sys2Proof/Machine/Thermal.lean ====
section
/-! DEFINITION. Commands of fault management and thermal protection (14 R361–R373). -/

namespace Sys2Proof.Machine

/-- An acknowledgement of a block's open B and C entries, with what waits for it (14 R361–R363, 03 R79, 04 R111).
DEDUCED 92 (notes/assumptions). -/
def Device.ackBlock (d : Device) (b : Nat) : Device :=
  let d := d.modFault b fun f =>
    { f with bSources := [], bFirstStamp := 0, bFirstCode := 0, bParams := [], cOpen := false, cFirstStamp := 0
             cFirstCode := 0, cMerge := 0, cLastStamp := 0, cParams := [], seen := [] }
  let d := d.when (decide (b < 16)) fun d =>
    let d := d.modFeed b fun f => { f with sumSuspended := false }
    (d.when (d.feedSt b == 7 && d.get (O.feedEnable b) == 0) fun d => d.set (O.feedState b) 0).enforceAck b
  (((d.emit (.irq b 1)).alert 7).notify 1 (notifyBody 1 b 0 1 d.now 0 [])).updateFaultN

/-- A release object acknowledges the open B entry of its block as well (14 R362).
DEDUCED 92 (notes/assumptions). -/
def Device.releaseAck (d : Device) (b : Nat) : Device :=
  let d := d.modFault b fun f => { f with bSources := [], bFirstStamp := 0, bFirstCode := 0, bParams := [], seen := [] }
  (((d.emit (.irq b 1)).alert 7).notify 1 (notifyBody 1 b 0 1 d.now 0 [])).updateFaultN

/-- FAULT_N_PULSE_END (14 R368): GD holds or releases the line by the hold mask. -/
def execFaultNPulseEnd (s : State) : Host.Outcome State Fault Refusal :=
  s.next fun d => { d with faultPulse := false }.updateFaultN

/-- The band of a temperature by range (14 R372). -/
def bandByRange (t : Rat) : Nat := if t < 0 then 0 else if t < 85 then 1 else if t < 105 then 2 else 3

/-- The band after a Tj: upwards at its entry threshold, downwards 2 °C inside the boundary (14 R372). -/
def bandNext (old : Nat) (t : Rat) : Nat :=
  if old < bandByRange t then bandByRange t else min old (bandByRange (t + 2))

/-- The band in force changes (14 R372). -/
def Device.setBand (d : Device) (b : Nat) : Device :=
  if d.getN O.band = b then d
  else ((d.set O.band b).bump O.bandChanges).raiseD 84 0 0x0903 (leBytes 1 b)

/-- A new Tj (14 R370, R372). -/
def Device.takeTj (d : Device) : Device :=
  let t := mean (d.therm.samples.take 16)
  let d := d.set O.tj (satS 16 (quant (t * 10)))
  let d := d.when (decide (d.get O.tjMax < d.get O.tj) || !d.therm.formed) fun d => d.set O.tjMax (d.get O.tj)
  let d := d.setBand (if d.therm.chosen then bandNext (d.getN O.band) t else bandByRange t)
  let d := { d with therm := { d.therm with chosen := true, formed := true } }
  if 125 < t then d.when (!(d.flag O.aboveRange)) fun d => (d.setFlag O.aboveRange true).raiseD 84 0 0x0906 []
  else d.setFlag O.aboveRange false

/-- THERMAL_SAMPLE (14 R370–R373): a sample in m°C, `none` for an invalid one.
DESIGN CHOICE 150 (notes/assumptions). -/
def execThermalSample (sample : Option Int) (s : State) : Host.Outcome State Fault Refusal :=
  s.run fun d => d.when (d.sys.coreRunning && d.runs engGD) fun d =>
    let v : Option Rat := match sample with
      | some x => if x < -60000 ∨ 160000 < x then none else some ((x : Rat) / 1000)
      | none => none
    match v with
    | none =>
      let d := { d with therm := { d.therm with badRun := d.therm.badRun + 1, goodRun := 0 } }
      if d.therm.badRun = 16 ∧ d.flag O.sensorFault = false then
        (({ d with therm := { d.therm with samples := [] } }.setFlag O.sensorFault true).setBand 3).raiseB 84 0 0x0905 []
      else d
    | some t =>
      let d := { d with therm := { d.therm with
        samples := (t :: d.therm.samples).take 2000, badRun := 0, goodRun := d.therm.goodRun + 1 } }
      if d.flag O.sensorFault then
        if 1000 ≤ d.therm.goodRun then
          ({ d with therm := { d.therm with chosen := false } }.setFlag O.sensorFault false).takeTj
        else d
      else d.when (decide (16 ≤ d.therm.samples.length)) Device.takeTj

/-- RISE_RATE_EVALUATION (14 R371): from 2 s of samples on, suspended by a sensor fault; a rate that stays above
RiseShutdown is one event (14 R359).
DESIGN CHOICE 150 (notes/assumptions). -/
def execRiseRateEvaluation (s : State) : Host.Outcome State Fault Refusal :=
  s.run fun d => d.when (d.sys.coreRunning && d.runs engGD && !(d.flag O.sensorFault) &&
      d.therm.samples.length == 2000) fun d =>
    let r := mean (d.therm.samples.take 1000) - mean (d.therm.samples.drop 1000)
    let w : Rat := d.get O.riseWarn
    let d := d.set O.riseRate (satS 16 (quant (r * 10)))
    let d := if w < r ∧ d.therm.armed = true then
        ({ d with therm := { d.therm with armed := false } }.bump O.riseWarnings).raiseD 84 0 0x0904 []
      else if r < w / 2 then { d with therm := { d.therm with armed := true } }
      else d
    let hot := decide ((d.get O.riseShutdown : Rat) < r)
    let said := d.therm.rising
    let d := { d with therm := { d.therm with rising := hot } }
    d.when (hot && !said) fun d => d.raiseA 84 0 0x0902 []

/-- THERMAL_SHUTDOWN (14 R370, R371): the comparator has tripped.
DESIGN CHOICE 150 (notes/assumptions). -/
def execThermalShutdown (s : State) : Host.Outcome State Fault Refusal :=
  s.run fun d => d.when d.sys.vdd fun d => d.raiseA 84 1 0x0902 []

/-- THERMAL_CORE_STOP (14 R366): after a thermal cause CORE stops; the controller stays in standby on VAON. -/
def execThermalCoreStop (s : State) : Host.Outcome State Fault Refusal :=
  s.next fun d => d.when (d.sys.coreRunning && d.flag O.controllerClassA && d.get O.classABlock == 84 &&
      d.get O.classACode == 0x0902) fun d =>
    { d with sys := { d.sys with coreRunning := false, standby := 2 } }

end Sys2Proof.Machine
end

