-- ==== Sys2Proof/Machine/Windows.lean ====
section
/-! DEFINITION. Commands of the window units and the event router (13 R341–R351). -/

namespace Sys2Proof.Machine

/-- Condition of a unit at a sampled voltage in µV (13 R341, R342): code c stands for c · 1.171875 mV. -/
def Device.windowTrue (d : Device) (u : Nat) (uv : Int) : Bool :=
  let v := uv * 1000
  let lo := d.get (O.threshLo u) * 1171875
  let hi := d.get (O.threshHi u) * 1171875
  match d.getN (O.mode u) with
  | 0 => decide (v < lo) || decide (hi < v)
  | 1 => decide (hi < v)
  | 2 => decide (v < lo)
  | _ => decide (lo ≤ v) && decide (v ≤ hi)

/-- The output of a unit with everything that follows it. -/
def Device.setOutput (d : Device) (u : Nat) (b : Bool) : Device :=
  let d := d.setFlag (O.output u) b
  d.set O.outputMask (if b then setBit (d.get O.outputMask) u else clearBit (d.get O.outputMask) u)

/-- One decision of an enabled unit (13 R344, R345). -/
def Device.windowDecide (d : Device) (u : Nat) (uv : Int) : Device :=
  let n := if d.windowTrue u uv then min 15 (d.router.counts.getD u 0 + 1) else 0
  let old := d.flag (O.output u)
  let new := decide (d.get (O.persist u) ≤ n)
  let d := ({ d with router := { d.router with counts := modAt d.router.counts u fun _ => n } }).setOutput u new
  if old = new then d
  else
    let d := d.when (decide (u < 8)) fun d => d.setBitOf (O.edgeFlags u) (if new then 0 else 1)
    if new then
      let d := (d.bump (O.trips u)).stampAt (O.lastTripStamp u)
      d.when (!(d.flag (O.routeHold u))) fun d => d.edge u
    else d

/-- WINDOW_DECISION (13 R343, R344): a tick of one source; `codes` are the sampled voltages of the units in µV. Units
on SCH0–SCH15 decide at the tick of their line.
DESIGN CHOICE 151 (notes/assumptions). -/
def execWindowDecision (tick : Fin 22) (codes : List Int) (s : State) : Host.Outcome State Fault Refusal :=
  s.run fun d => d.when d.sys.coreRunning fun d =>
    d.forAll ((List.range 64).filter fun u => d.flag (O.unitEnable u) && d.get (O.tickSource u) == (tick : Nat) &&
      d.get (O.input u) != 0xFF) fun u d => d.windowDecide u (codes.getD u 0)

/-- ROUTER_TIMER_EXPIRY (13 R348). -/
def execRouterTimerExpiry (j : Fin 4) (s : State) : Host.Outcome State Fault Refusal :=
  s.run fun d => d.when (d.sys.coreRunning && d.flag (O.timerRunning j)) fun d =>
    (d.setFlag (O.timerRunning j) false).edge (124 + j)

/-- EVO_PULSE_END (13 R349). -/
def execEvoPulseEnd (j : Fin 4) (s : State) : Host.Outcome State Fault Refusal :=
  s.next fun d => d.modPins fun p => { p with evo := modAt p.evo j fun _ => false }

/-- A clear of a unit (13 R344): output and count 0, no flag. -/
def Device.windowClear (d : Device) (u : Nat) : Device :=
  ({ d with router := { d.router with counts := modAt d.router.counts u fun _ => 0 } }).setOutput u false

/-- LatchClearMask (13 R344). -/
def Device.latchClear (d : Device) (mask : Int) : Device :=
  d.forAll ((List.range 64).filter fun u => bit mask u) fun u d => d.windowClear u

/-- EdgeClear of a privileged unit (13 R345). -/
def Device.edgeClearNow (d : Device) (u : Nat) (flags : Int) : Device :=
  d.forAll [0, 1] fun i d => d.when (bit flags i) fun d => d.clearBitOf (O.edgeFlags u) i

/-- RouteHold has been written; `was` is its value before. A release with the output 1 raises an edge (13 R347). -/
def Device.routeHoldNow (d : Device) (u : Nat) (was : Bool) : Device :=
  d.when (was && !(d.flag (O.routeHold u)) && d.flag (O.output u)) fun d => d.edge u

end Sys2Proof.Machine
end

