-- ==== Sys2Proof/Machine/Hooks.lean ====
section
/-! DEFINITION. What a write that takes effect makes its block do, object by object (16 R409, R414–R416 and the rule that
each arm names). -/

namespace Sys2Proof.Machine

/-- A write of one of the four port objects applies all four of its port: those that have not been written since
power-on at their stored values (16 R422, 15 R380).
DEDUCED 106 (notes/assumptions). -/
def Device.portConfigured (d : Device) (p sub : Nat) : Device :=
  let d := d.when (!(d.dict.portApplied.getD p false)) fun d =>
    ((portConfig p).filter fun o => o.sub != sub).foldl (fun d o => d.set o (d.stored o)) d
  d.portApply p

/-- A key slot of MRAM changed, with the sessions of the slot closed (15 R386). -/
def Device.keyNow (d : Device) (slot : Nat) (key : Option (List Byte)) : Device :=
  ((d.modMram fun m => { m with keys := modAt m.keys slot fun _ => key }).setFlag (O.keyValid slot) key.isSome).closeSlot slot

/-- SegmentMeasure 1 (15 R382): one test pulse.
DESIGN CHOICE 104 (notes/assumptions). -/
def Device.segmentStart (d : Device) (p : Nat) : Device :=
  (d.modNetPort p fun x => { x with measuring := true, repeated := false }).emit (.medium p 382)

/-- The objects of the sequencer's retries and delays and of the graph have changed (12 R330, R331). -/
def Device.seqChanged (d : Device) : Device := (d.set O.worstRecovery d.worstNow).updateRst

/-- The effect of a write of objects up to 0x4FFF. `old` is the block before the write, `d` holds the value of an object
that keeps one.
DESIGN CHOICE 19 (notes/assumptions). -/
def Device.effectLow (d old : Device) (o : Obj) (k : Nat) (v : Int) : Device :=
  let changed := old.get o != v
  match o.id with
  | 0x102001 => d.portUpdate k
  | 0x102002 => d.portConfigured k 2
  | 0x102003 => d.portConfigured k 3
  | 0x102004 => d.portConfigured k 4
  | 0x102005 => d.portConfigured k 5
  | 0x102008 => d.when (v == 1) fun d => d.segmentStart k
  | 0x103001 => { d with net := { d.net with syncPair := leBytes 16 v } }
  | 0x140001 => d.keyNow k (some (leBytes 32 v))
  | 0x140002 => d.closeSlot k
  | 0x140004 => d.when (v == 1) fun d => d.keyNow k none
  | 0x200100 => d.when changed fun d => if v = 1 then d.trackOn else d.trackOff
  | 0x201001 => d.when changed Device.templateReset
  | 0x201002 => d.when changed Device.templateReset
  | 0x201305 => d.when (v == 1) Device.templateReset
  | 0x210001 => d.when (v == 0) fun d => d.when d.hold.restarts fun d => d.dropPlaces.modHold fun h => { h with restarts := false }
  | 0x220001 => d.when (v == 0) fun d => d.autostartFail 3
  | 0x241000 => d.mapApplied k (old.feedCells k)
  | 0x250008 => d.when (v == 1) fun d => d.readmitNow k
  | 0x300001 => if v = 1 then d.feedStart k else d.feedStop k
  | 0x300101 => d.targetNow k v
  | 0x300a01 => d.linkEnableNow k (v == 1)
  | 0x302014 => d.when (v == 0 && !(d.feed k).forcedDe) fun d =>
    (d.setFlag (O.deActive k) false).modFeed k fun f =>
      { f with resumeDe := false, es := f.es.map fun e => { e with wasDe := false } }
  | 0x300c01 => d.when changed fun d => if v = 1 then d.tgEnableNow k else d.tgDisableNow k
  | 0x300c12 => d.when (v == 1) fun d => (d.tgAckNow k).releaseAck (16 + k)
  | 0x400001 => d.when changed fun d => if v = 1 then d.rectEnableNow else d.rectDisableNow
  | 0x400002 => d.when (v == 1) fun d => d.groupEnableNow false
  | 0x400003 => d.when (v == 1) fun d => d.groupEnableNow true
  | 0x400303 => d.when (changed && d.flag O.rectEnable) Device.droopNow
  | 0x410001 => if v = 1 then d.slotEnableNow k else d.when changed fun d => d.slotDisableNow k
  | 0x410004 => d.when (v == 1) fun d => (d.rectAckNow k).releaseAck (42 + k)
  | 0x470101 => d.when changed fun d => if v = 1 then d.requestDiode k else d.requestOff k
  | 0x470108 => d.when (v == 1) fun d => (d.gateAckNow k).releaseAck (32 + k)
  | 0x480001 => d.when (v == 0) Device.chargeDisableNow
  | 0x481001 => d.when changed fun d => if v = 1 then d.stringEnableNow k else d.stringDisableNow k
  | 0x481016 => d.when (v == 1) fun d => (d.stringAckNow k).releaseAck (38 + k)
  | 0x489005 => d.when (v == 1) fun d => d.forgetNow k
  | _ => d

/-- The effect of a write of objects from 0x5000 on, and of the dictionary's own; see `Device.effectLow`.
DESIGN CHOICE 19 (notes/assumptions). -/
def Device.effectHigh (d old : Device) (path : Nat) (o : Obj) (k : Nat) (v : Int) (bs : List Byte) : Device :=
  match o.id with
  | 0x1f1201 => { d with dict := { d.dict with segSelect := modAt d.dict.segSelect path fun _ => v } }
  | 0x1f2001 => d.modSession path fun x => { x with notifyMask := v }
  | 0x900000 => d.capture path
  | 0x500300 => d.offerNow v
  | 0x500500 => d.withdrawNow v.toNat
  | 0x500600 => d.resolveNow (field v 0 8) (field v 8 1)
  | 0x500700 => d.adjustNow v
  | 0x500800 => d.when (v == 1) Device.ledgerAckNow
  | 0x580001 => if v = 1 then d.seqUpNow else d.seqDownNow
  | 0x580002 => d.seqChanged
  | 0x580003 => d.seqChanged
  | 0x580004 => d.seqChanged
  | 0x580005 => d.seqChanged
  | 0x580007 => d.when (v == 1) fun d => d.seqAckNow.releaseAck 78
  | 0x580201 => d.updateSeqFlt
  | 0x580202 => d.updateSeqFlt
  | 0x581001 => (d.railKindNow k).seqChanged
  | 0x581003 => d.seqChanged
  | 0x581007 => d.seqChanged
  | 0x581008 => d.seqChanged
  | 0x581009 => d.seqChanged
  | 0x58100a => d.seqChanged
  | 0x588001 => d.updateRst
  | 0x600002 => d.updateFaultN
  | 0x600003 => d.updateFaultN
  | 0x61000e => d.when (v == 1) fun d => d.ackBlock k
  | 0x681001 => d.when (v == 0) fun d => d.windowClear k
  | 0x681008 => d.routeHoldNow k (old.flag o)
  | 0x68100a => d.when (v == 1) fun d => d.windowClear k
  | 0x68100e => d.edgeClearNow k v
  | 0x686002 => d.latchClear v
  | 0x700001 => d.ddrEnabled
  | 0x710001 => d.when (v == 0) fun d => d.laneFlush k
  | 0x710006 => d.when (v == 1) fun d => d.claimNow k path
  | 0x710008 => d.releaseNow k
  | 0x710009 => d.segmentNow k path bs
  | 0x780001 => if v = 1 then d.freezeNow else d.unfreeze
  | 0x780201 => d.when (v == 1) Device.clearRequestNow
  | 0x780203 => d.clearNow path
  | 0x780204 => d.clearKeyNow bs
  | 0x781001 => d.when (old.get o != v) fun d => if v = 1 then d.pfEnabled else d.pfDisabled
  | 0x781008 => d.when (v == 1) Device.pfTriggerNow
  | 0x781303 => d.pfReleaseNow v.toNat
  | 0xa01001 => d.pieceNow bs
  | 0xa01003 => d.when (v == 1) fun d => d.verifyNow path
  | 0xa01009 => d.when (v == 1) fun d => d.installNow path
  | 0xa0100a => d.when (v == 1) fun d => d.setPackage []
  | 0xa03001 => d.updateNow path k v.toNat
  | 0xa03003 => d.when (v == 1) fun d => d.retireNow k
  | 0xa04001 => d.pairMoveNow v
  | 0xa04004 => d.swapNow v
  | 0xa05001 => d.when (v == 1) Device.standbyNow
  | _ => d

/-- The effect of a write; see `Device.effectLow`. -/
def Device.effect (d old : Device) (path : Nat) (o : Obj) (k : Nat) (v : Int) (bs : List Byte) : Device :=
  if o.index < 0x5000 ∧ o.index / 256 ≠ 0x1F then d.effectLow old o k v else d.effectHigh old path o k v bs

/-- The value of an object that keeps one: of a write-only object, and of one that each path has for itself, nothing is
kept in the register file (16 R409, R429). -/
def Device.putValue (d : Device) (o : Obj) (v : Int) : Device :=
  d.when (o.access != .wo && o.id != 0x1f1201 && o.id != 0x1f2001) fun d => d.set o v

/-- A write takes effect: the value, and what follows it.
DESIGN CHOICE 19 (notes/assumptions). -/
def Device.takeEffect (d : Device) (path : Nat) (o : Obj) (k : Nat) (v : Int) (bs : List Byte) : Device :=
  (d.putValue o v).effect d path o k v bs

end Sys2Proof.Machine
end

