-- ==== Sys2Proof/Machine/WriteOps.lean ====
section
/-! DEFINITION. Writes of the dictionary: the checks in their order, the apply queue, the staging set, the stored
configuration and the factory restore (15 R386, 16 R411–R424, 18 R459). -/

namespace Sys2Proof.Machine

/-- The object of an address, with the number of its repetition. -/
def keyObj (key : Nat) : Option (Obj × Nat) :=
  match locate (key / 256) (key % 256) with
  | .obj o k => some (o, k)
  | _ => none

/-- Size in bytes of the value at an address. -/
def keySize (key : Nat) : Nat := ((keyObj key).map fun x => x.1.ty.size.getD 0).getD 0

/-- Bytes after which the active half of the journal is compacted: 90% of 960 KiB (18 R459).
DESIGN CHOICE 111 (notes/assumptions). -/
def journalLimit : Nat := 884736

/-- A compaction copies the newest entry of every stored object, and a switch entry (18 R459).
DESIGN CHOICE 111 (notes/assumptions). -/
def Device.compact (d : Device) : Device :=
  let n := (d.mram.store.map fun e => Config.journalEntry (keySize e.1)).sum + Config.journalEntry 0
  ((d.modMram fun m => { m with journal := n }).bump O.compactions).bumpBy O.mramWrites (cellsOf n)

/-- One journal entry with the values of one write, commit or firing (16 R421, 18 R459).
DESIGN CHOICE 111, 115 (notes/assumptions). -/
def Device.storeEntry (d : Device) (es : List (Nat × Int)) : Device :=
  let n := Config.journalEntry (es.map fun e => keySize e.1).sum
  let put := fun (r : RegFile) (e : Nat × Int) => RegFile.put e.1 e.2 (((keyObj e.1).map fun x => x.1.dflt).getD 0) r
  let ports := [0, 1].map fun p => es.any fun e => (portConfig p).any fun o => o.key == e.1
  let d := d.modMram fun m =>
    { m with store := es.foldl put m.store, journal := m.journal + n, portStored := List.zipWith (· || ·) m.portStored ports }
  let d := d.bumpBy O.mramWrites (cellsOf n)
  (d.when (decide (journalLimit ≤ d.mram.journal)) Device.compact).set O.journalUse d.mram.journal

/-- The value is in force; it is stored and the write answered, the store verified or not (`stored`). Under a brown-out
warning store and answer wait (01 R24, 16 R421).
DEDUCED 110 (notes/assumptions). -/
def Device.storeAnswer (d : Device) (es : List (Nat × Int)) (who : Option (Nat × Nat × Nat)) (stored : Bool) : Device :=
  let reply := fun (st : Nat) (d : Device) => match who with
    | some (path, index, sub) => d.answer path index sub st 0 []
    | none => d
  if d.sys.brownOut then d.deferWrite (.store es who)
  else if stored then reply 0 (d.storeEntry es)
  else reply 0x0818 ((d.bump O.storeFailures).raiseC 82 0 0x0B04 [])

/-- The store of a factory restore: no port configuration is stored any more (16 R424).
DEDUCED 110, 113 (notes/assumptions). -/
def Device.restoreAnswer (d : Device) (es : List (Nat × Int)) (who : Option (Nat × Nat × Nat)) (stored : Bool) : Device :=
  if d.sys.brownOut then d.deferWrite (.restore es who)
  else
    let d := d.storeAnswer es who stored
    d.when stored fun d => d.modMram fun m => { m with portStored := [false, false] }

/-- Values put into force together. -/
def Device.putAll (d : Device) (l : List Pending) : Device :=
  l.foldl (fun d p => match keyObj p.key with
    | some (o, _) => d.putValue o p.value
    | none => d) d

/-- Values that take effect at one edge: all are in force before any block uses one of them (16 R416, R418). -/
def Device.effectAll (d : Device) (l : List Pending) : Device :=
  l.foldl (fun e p => match keyObj p.key with
    | some (o, k) => e.effect d p.path o k p.value []
    | none => e) (d.putAll l)

/-- A host has written a held object (16 R422, 20 R503). -/
def Device.markHost (d : Device) (key : Nat) : Device :=
  d.when (heldKeys.contains key) fun d => { d with dict := { d.dict with hostWritten := key :: d.dict.hostWritten } }

/-- The checks of 16 R411 from the second on, in their order; 0 where all pass. -/
def Device.writeBad (d : Device) (path : Nat) (o : Obj) (k : Nat) (bs : List Byte) : Nat :=
  let v := o.kept (o.ty.decode bs)
  let base := d.putAll d.dict.queue
  let queued := d.dict.queue.any fun p => p.key == o.key
  if o.access = .ro ∨ o.access = .const then 0x0601
  else if !o.ty.lengthOk bs.length then 0x0604
  else if d.flag O.controllerClassA && o.id != 0x780001 && o.id != 0x780003 then 0x0814
  else if o.apply = .Q && !d.quiescent o k then 0x0813
  else if o.ownBad k v || Device.ordersBad ((if o.apply = .A then base else d).putValue o v) d o k then 0x0809
  else if d.stateBad path o k v bs ≠ 0 then d.stateBad path o k v bs
  else if o.apply = .A && !queued && decide (64 ≤ d.dict.queue.length) then 0x0817
  else 0

/-- A list of pending writes with one write more: an address that is there already keeps its place (16 R416, R417). -/
def putPending (l : List Pending) (p : Pending) : List Pending :=
  if l.any fun q => q.key == p.key then l.map fun q => if q.key = p.key then p else q else l ++ [p]

/-- A write of class A enters the apply queue (16 R416). -/
def Device.enqueue (d : Device) (p : Pending) : Device :=
  let d := { d with dict := { d.dict with queue := putPending d.dict.queue p } }
  d.set O.queuedCount d.dict.queue.length

/-- The staging set that a path holds. -/
def Device.stagedOf (d : Device) (path : Nat) : Option (List Pending) :=
  match d.dict.staged with
  | some (p, l) => if p = path then some l else none
  | none => none

/-- The staging set changed, with the objects that show it (16 R417, R429). -/
def Device.setStaged (d : Device) (s : Option (Nat × List Pending)) : Device :=
  let d := { d with dict := { d.dict with staged := s } }
  match s with
  | some (p, l) => (d.set O.stagingOwner p).set O.stagedCount l.length
  | none => (d.set O.stagingOwner 0xFF).set O.stagedCount 0

/-- A write of a path that holds the set to an RWS object of class L (16 R417).
DESIGN CHOICE 116 (notes/assumptions). -/
def Device.stageWrite (d : Device) (path : Nat) (o : Obj) (k : Nat) (bs : List Byte) (l : List Pending) : Device :=
  let v := o.kept (o.ty.decode bs)
  let l' := putPending l ⟨path, o.key, v⟩
  let fail := fun (st : Nat) => d.answer path o.index o.sub st 0 []
  if !o.ty.lengthOk bs.length then fail 0x0604
  else if d.flag O.controllerClassA then fail 0x0814
  else if o.ownBad k v then fail 0x0809
  else if 256 < l'.length ∨ 16384 < (l'.map fun p => keySize p.key).sum then fail 0x0816
  else (d.setStaged (some (path, l'))).answer path o.index o.sub 0 2 []

/-- The first check that a commit fails, with the address concerned (16 R418): the orders, then the state conditions, on
the values in force combined with the staged ones. A condition on the written object itself sees its value in force.
DESIGN CHOICE 25 (notes/assumptions). -/
def Device.commitBad (d : Device) (l : List Pending) : Option (Nat × Nat) :=
  let c := d.putAll l
  l.findSome? fun p => match keyObj p.key with
    | some (o, k) =>
      let code := (c.set o (d.get o)).stateBad p.path o k p.value []
      if c.ordersBad d o k then some (0x0809, p.key) else if code ≠ 0 then some (code, p.key) else none
    | none => none

/-- Commit 2 of a path that holds the set (16 R418). -/
def Device.commitNow (d : Device) (path : Nat) (l : List Pending) (stored : Bool) : Device :=
  match d.commitBad l with
  | some (code, key) =>
    let shown : Nat := key / 256 + (key % 256) * 65536
    ((d.bump O.commitsRefused).set O.commitFailObject shown).answer path 0x1F10 0 code 0 []
  | none =>
    let d := (((d.effectAll l).setStaged none).bump O.commits).stampAt O.stagingLastCommitStamp
    let d := l.foldl (fun d p => d.markHost p.key) d
    d.storeAnswer (l.map fun p => (p.key, p.value)) (some (path, 0x1F10, 0)) stored

/-- Commit 3 (16 R417). -/
def Device.discardNow (d : Device) : Device := (d.setStaged none).bump O.stagingDiscarded

/-- A write of Commit (16 R417, R418). -/
def Device.commitWrite (d : Device) (path : Nat) (v : Int) (stored : Bool) : Device :=
  let say := fun (st : Nat) (d : Device) => d.answer path 0x1F10 0 st 0 []
  if v = 1 then (if d.dict.staged.isSome then say 0x0816 d else say 0 (d.setStaged (some (path, []))))
  else match d.stagedOf path with
    | none => say 0x0816 d
    | some l => if v = 2 then d.commitNow path l stored else say 0 d.discardNow

/-- The addresses that a factory restore leaves alone: the key slots (16 R424).
DEDUCED 113 (notes/assumptions). -/
def restoreSpares (key : Nat) : Bool := decide (0x1400 ≤ key / 256) && decide (key / 256 ≤ 0x1407)

/-- FactoryRestore is refused (16 R424). -/
def Device.restoreRefused (d : Device) : Bool := !d.heldZero || d.dict.staged.isSome

/-- An accepted FactoryRestore (16 R424): the apply queue goes, every RWS object takes its default in force and in
store, one record.
DEDUCED 113 (notes/assumptions). -/
def Device.restoreNow (d : Device) (path : Nat) (stored : Bool) : Device :=
  let d := (({ d with dict := { d.dict with queue := [] } }.bumpBy O.queueDiscarded d.dict.queue.length)).set O.queuedCount 0
  let back := fun (l : RegFile) => l.filterMap fun e => match keyObj e.1 with
    | some (o, _) => if o.access = .rws ∧ restoreSpares e.1 = false then some (⟨path, e.1, o.dflt⟩ : Pending) else none
    | none => none
  let d := (d.effectAll (back d.regs)).raiseD 83 0 0x0007 []
  d.restoreAnswer ((back d.mram.store).map fun p => (p.key, p.value)) (some (path, 0x1F30, 1)) stored

/-- A write that has passed its checks and is neither queued nor staged: it takes effect, is stored where it is to be,
and answered. A verification, an installation and a load of an engine answer when they end; NE answers before its
load takes it away, and a standby is answered before it begins (16 R419, R421, 20 R500, R505–R509).
DESIGN CHOICE 112 (notes/assumptions). -/
def Device.writeNow (d : Device) (path : Nat) (o : Obj) (k : Nat) (bs : List Byte) (stored : Bool) : Device :=
  let v := o.kept (o.ty.decode bs)
  let reply := fun (d : Device) => d.answer path o.index o.sub 0 0 []
  match o.id with
  | 0x1f1000 => d.commitWrite path v stored
  | 0x1f3001 => if d.restoreRefused then d.answer path o.index o.sub 0x0814 0 [] else d.restoreNow path stored
  | 0xa01003 => if v = 1 then d.takeEffect path o k v bs else reply d
  | 0xa01009 => if v = 1 then d.takeEffect path o k v bs else reply d
  | 0xa03001 =>
    if k = 13 then ((reply d).takeEffect path o k v bs).netDown
    else if k = 15 then reply (d.takeEffect path o k v bs)
    else d.takeEffect path o k v bs
  | 0xa05001 => (reply d).takeEffect path o k v bs
  | _ =>
    let d := d.takeEffect path o k v bs
    if o.access = .rws then (d.markHost o.key).storeAnswer [(o.key, v)] (some (path, o.index, o.sub)) stored else reply d

/-- A write whose effect is a write of MRAM of its own: keys, the clear of the recorder and its key, the package buffer
and banks, GD's pending bank (01 R24, 15 R386, 18 R458, 19 R485–R487, 20 R505, R506, R509). -/
def mramWrite (o : Obj) (k : Nat) (v : Int) : Bool :=
  match o.id with
  | 0x140001 => true
  | 0x140004 => v == 1
  | 0x780203 => true
  | 0x780204 => true
  | 0xa01001 => true
  | 0xa01003 => v == 1
  | 0xa01009 => v == 1
  | 0xa0100a => v == 1
  | 0xa03001 => k == 15
  | _ => false

/-- A write that has passed its checks; under a brown-out warning one that is a write of MRAM waits, with its answer (01
R24, 16 R421).
DEDUCED 110 (notes/assumptions). -/
def Device.writeOrDefer (d : Device) (path : Nat) (o : Obj) (k : Nat) (bs : List Byte) (stored : Bool) : Device :=
  if d.sys.brownOut && mramWrite o k (o.kept (o.ty.decode bs)) then d.deferWrite (.write path o.key bs)
  else d.writeNow path o k bs stored

/-- A write of a path (16 R411–R421). `stored`: its journal entry passes its verification. -/
def Device.writeObject (d : Device) (path index sub : Nat) (bs : List Byte) (stored : Bool) : Device :=
  let fail := fun (st : Nat) (d : Device) => d.answer path index sub st 0 []
  match locate index sub with
  | .error c => fail c d
  | .count _ => fail 0x0601 d
  | .obj o k =>
    match (if o.access = .rws ∧ o.apply = .L then d.stagedOf path else none) with
    | some l => d.stageWrite path o k bs l
    | none =>
      let code := d.writeBad path o k bs
      if code ≠ 0 then
        fail code (d.when (o.id == 0x780203 && code == 0x0814) Device.clearResponseFails)
      else if o.apply = .A then
        (d.enqueue ⟨path, o.key, o.kept (o.ty.decode bs)⟩).answer path index sub 0 1 []
      else d.writeOrDefer path o k bs stored

/-- The rights that a write needs (15 R386, R399, 19 R485), as bits of Rights. -/
def writeRights (index sub : Nat) : Nat :=
  2 + (if 0x5000 ≤ index ∧ index ≤ 0x57FF then 4 else 0) + (if 0xA000 ≤ index ∧ index ≤ 0xA0FF then 8 else 0) +
    (if (0x1400 ≤ index ∧ index ≤ 0x1407) ∨ (0x1500 ≤ index ∧ index ≤ 0x150F) ∨ (index = 0x7802 ∧ sub = 4) then 16 else 0) +
    (if index = 0x1F20 then 64 else 0)

/-- The rights of a path: the management port has every right (16 R420). -/
def Device.pathRights (d : Device) (path : Nat) : Nat :=
  if path = 16 then 127 else d.getN (O.rights (d.getN (O.sessionKeySlot path)))

/-- Every bit of a mask is set. -/
def hasBits (v mask : Nat) : Bool := v &&& mask == mask

/-- A path reaches the dictionary: NE runs, and the session is an open host session (15 R387, R400, 16 R430).
DESIGN CHOICE 20 (notes/assumptions). -/
def Device.pathOpen (d : Device) (path : Nat) : Bool :=
  d.sys.coreRunning && d.runs engNE &&
    (path == 16 || (decide (d.get (O.sessionState path) = 2) && (d.session path).peer.isNone))

/-- A path may write an object.
DESIGN CHOICE 20 (notes/assumptions). -/
def Device.mayWrite (d : Device) (path index sub : Nat) : Bool :=
  d.pathOpen path && hasBits (d.pathRights path) (writeRights index sub)

/-- A host's write through a path.
DESIGN CHOICE 20 (notes/assumptions). -/
def Device.hostWrite (d : Device) (path index sub : Nat) (bs : List Byte) (stored : Bool) : Device :=
  d.when (d.mayWrite path index sub) fun d => d.writeObject path index sub bs stored

/-- The writes queued for slot 6 take effect together at its firing, and are stored as one entry (16 R416, R421).
DESIGN CHOICE 112 (notes/assumptions). -/
def Device.applyQueue (d : Device) : Device :=
  let l := d.dict.queue
  d.when (!l.isEmpty) fun d =>
    let d := (({ d with dict := { d.dict with queue := [] } }).set O.queuedCount 0).effectAll l
    d.storeAnswer (l.map fun p => (p.key, p.value)) none true

end Sys2Proof.Machine
end

