-- ==== Sys2Proof/Machine/Autostart.lean ====
section
/-! DEFINITION. The autostart profile (14 R364, 16 R422, R423, 20 R501–R503). -/

namespace Sys2Proof.Machine

/-- A held object takes its stored value as a class-L write of the management path, unless a host has written it or a
check of the write fails (16 R411, R422, 20 R501, R503).
DEDUCED 139 (notes/assumptions). -/
def Device.applyHeld (d : Device) (o : Obj) : Device :=
  match keyObj o.key with
  | some (o, k) =>
    let v := d.stored o
    let listed := d.mram.store.any fun e => e.1 == o.key
    d.when (listed && !d.dict.hostWritten.contains o.key && d.writeBad 16 o k (o.ty.encode v) == 0) fun d => d.takeEffect 16 o k v []
  | none => d

/-- The port configuration of a port, where one is stored (20 R501 step 1). -/
def Device.applyPort (d : Device) (p : Nat) : Device :=
  d.when (d.mram.portStored.getD p false && !d.dict.portApplied.getD p false) fun d =>
    ((portConfig p).foldl (fun d o => d.set o (d.stored o)) d).portApply p

/-- The feeds that step 9 enables: no rail in use names them. -/
def Device.freeFeeds (d : Device) : List Nat :=
  (List.range 16).filter fun k => !d.railsInUse.any fun r => d.railFeed r == some k

/-- The objects of a step, in their order (20 R501). -/
def Device.stepObjects (d : Device) (step : Int) : List Obj :=
  match step with
  | 2 => [O.routerEnable]
  | 3 => [O.lineTrackEnable]
  | 4 => [O.gateRequest 0, O.gateRequest 1, O.rectEnable]
  | 5 => (List.range 4).map O.stringEnable ++ (List.range 4).map (fun n => O.gateRequest (n + 2)) ++ [O.chargeEnable]
  | 6 => [O.holdupEnable]
  | 7 => [O.creditEnable]
  | 8 => [O.seqFltEnable, O.seqEnable]
  | 9 => d.freeFeeds.map O.feedEnable ++ (List.range 16).map O.tgEnable
  | _ => []

/-- The objects of the step in progress are applied.
DEDUCED 139 (notes/assumptions). -/
def Device.applyStep (d : Device) : Device :=
  let step := d.get O.autostartStep
  let d := if step = 1 then (d.applyPort 0).applyPort 1 else (d.stepObjects step).foldl Device.applyHeld d
  let feeds := if step = 9 then d.freeFeeds.filter fun k => d.get (O.feedEnable k) == 1 else []
  d.modEng fun e => { e with applied := true, enabledFeeds := feeds, waitFromLap := d.lap }

/-- The line is locked, or there is none to lock on (20 R501 step 3). -/
def Device.lineReady (d : Device) : Bool := d.get O.timebaseState == 3 || d.get O.sourceClass == 3

/-- The wait condition of the step in progress (20 R501).
DEDUCED 139 (notes/assumptions). -/
def Device.stepEnds (d : Device) : Bool :=
  match d.get O.autostartStep with
  | 3 => d.lineReady
  | 4 => d.eng.lockExpired || (!(d.rectIn [5]).isEmpty && d.bus.vbar.any fun v => decide (d.volts O.regFloor ≤ v))
  | 5 => (List.range 6).all fun g =>
      d.stored (O.gateRequest g) != 1 || d.get (O.gateMode g) == 2 || d.get (O.forceOffCause g) != 0
  | 8 => d.get O.seqState == 2
  | 9 => d.eng.enabledFeeds.all fun k => d.feedSt k == 4 || d.feedSt k == 7 || d.feedSt k == 8
  | _ => true

/-- The next step is in progress; the profile is complete after step 9 (20 R501). -/
def Device.nextStep (d : Device) : Device :=
  if d.get O.autostartStep = 9 then (d.set O.autostartState 2).stampAt O.autostartStamp
  else (d.set O.autostartStep (d.get O.autostartStep + 1)).modEng fun e => { e with applied := false }

/-- The profile runs: a shelf core carries it out.
DEDUCED 139 (notes/assumptions). -/
def Device.autostarting (d : Device) : Bool := d.scActive && d.get O.autostartState == 1

/-- AutostartEnable has been written 0 in a step whose objects are still to be applied: the step completes (20 R502). -/
def Device.lastStep (d : Device) : Bool :=
  d.scActive && d.get O.autostartState == 3 && d.get O.autostartFailCause == 3

/-- AUTOSTART_STEP (20 R501, R502): the objects of the step in progress, if they have not been applied; then the next
step, if the wait condition holds. -/
def execAutostartStep (s : State) : Host.Outcome State Fault Refusal :=
  s.run fun d => d.when (d.autostarting || d.lastStep) fun d =>
    let d := if d.eng.applied then d else d.applyStep
    d.when (d.autostarting && d.stepEnds) Device.nextStep

/-- AUTOSTART_LOCK_WAIT_EXPIRY (20 R501): LockWaitLaps have passed in step 3 without lock. No rule states the code of
the notice: a free value.
DESIGN CHOICE 138 (notes/assumptions). -/
def execAutostartLockWaitExpiry (s : State) : Host.Outcome State Fault Refusal :=
  s.run fun d =>
    d.when (d.autostarting && d.get O.autostartStep == 3 && d.eng.applied && !d.lineReady &&
        decide ((d.eng.waitFromLap : Int) + d.get O.lockWaitLaps ≤ d.lap)) fun d =>
      let d := d.used.raiseD 80 0 (d.freeVal % 65536).toNat []
      (d.modEng fun e => { e with lockExpired := true }).nextStep

/-- BRINGUP_TIMEOUT (14 R364, 20 R502): the timer does not run while the sequencer publishes "retrying". -/
def execBringupTimeout (s : State) : Host.Outcome State Fault Refusal :=
  s.run fun d => d.when (d.sys.coreRunning && !d.flag O.seqRetrying) fun d => d.autostartFail 1

end Sys2Proof.Machine
end

