-- ==== Sys2Proof/Machine/ReadOps.lean ====
section
/-! DEFINITION. Reads of the dictionary (16 R406–R409, R427, 19 R483). -/

namespace Sys2Proof.Machine

/-- Index of the mirror's objects (16 R427). -/
def mirrorIndex (index : Nat) : Bool := decide (0x9010 ≤ index) && decide (index ≤ 0x9FFF)

/-- Bytes of an object for a path.
DESIGN CHOICE 17, 123 (notes/assumptions). -/
def Device.objectBytes (d : Device) (path index : Nat) (o : Obj) (k : Nat) : List Byte :=
  if mirrorIndex index then
    match d.dict.mirror.find? fun m => m.1 == o.key with
    | some m => m.2
    | none => zeros (o.ty.size.getD 0)
  else
    match o.id with
    | 0x1f1201 => leBytes 8 (d.dict.segSelect.getD path 0)
    | 0x1f2001 => leBytes 2 (d.session path).notifyMask
    | _ => d.viewBytes o k

/-- Bytes from a path's segment (16 R408): index, sub and offset as selected; an object that is not read gives
none.
DESIGN CHOICE 123 (notes/assumptions). -/
def Device.segmentBytes (d : Device) (path : Nat) : List Byte :=
  let v := d.dict.segSelect.getD path 0
  let index := field v 0 2
  match locate index (field v 2 1) with
  | .obj o k =>
    if o.access = .wo ∨ o.id = 0x1f1202 then [] else ((d.objectBytes path index o k).drop (field v 4 4)).take 1024
  | _ => []

/-- Records that a read returns damaged are counted (19 R483). -/
def Device.readCounts (d : Device) (o : Obj) : Device :=
  match o.id with
  | 0x780004 => d.countDamaged d.recordBlock
  | 0x780005 => d.countDamaged (d.mram.log.take 1)
  | 0x103003 => d.used
  | _ => d

/-- What a read gives: status, value, and the block after it (16 R406–R409). -/
def Device.readObject (d : Device) (path index sub : Nat) : Nat × List Byte × Device :=
  match locate index sub with
  | .error c => (c, [], d)
  | .count n => (0, leBytes 1 n, d)
  | .obj o k =>
    if o.access = .wo then (0x0601, [], d)
    else if o.id = 0x1f2001 ∧ path = 16 then (0x0814, [], d)
    else if o.id = 0x702003 ∧ d.historySplitNow = none then (0x0814, [], d)
    else if o.id = 0x1f1202 then (0, d.segmentBytes path, d)
    else (0, (d.objectBytes path index o k).take 1024, d.readCounts o)

end Sys2Proof.Machine
end

