-- ==== Sys2Proof/Machine/Frames.lean ====
section
/-! DEFINITION. Frames of the field network: the port binding and the replay window, the opening of sessions, the
format and the order of requests, and waits (15 R381–R397, R400). -/

namespace Sys2Proof.Machine

/-- A frame of a session, verified under the session's key, from a MAC on a port: the port hears it, and it is foreign
unless it comes from the MAC bound there. A dual-port session binds the first MAC of a port (15 R379, R381, R388).
DEDUCED 99 (notes/assumptions). -/
def Device.sessionFrame (d : Device) (s p mac : Nat) (f : Device → Device) : Device :=
  d.when (d.portHears p && d.get (O.sessionState s) != 0) fun d =>
    let d := d.portHeard p
    match (d.session s).macs.find? fun m => m.1 == p with
    | some m => if m.2 = mac then f (d.bump (O.netRxFrames p)) else d.bump (O.foreignFrames p)
    | none =>
      if d.sessionDual s then f ((d.modSession s fun x => { x with macs := x.macs ++ [(p, mac)] }).bump (O.netRxFrames p))
      else d.bump (O.foreignFrames p)

/-- A number of a session under the replay window (15 R389, R390): `f` for an accepted frame, `again` for a duplicate.
DESIGN CHOICE 107 (notes/assumptions). -/
def Device.replay (d : Device) (s seq : Nat) (again f : Device → Device) : Device :=
  match d.seenSeq s seq with
  | .old => d.bump (O.tooOld s)
  | .duplicate => again (d.bump (O.sessionDuplicates s))
  | .fresh => (f (d.takeSeq s seq)).exhausted s

/-- A frame of an open session other than a REQUEST with RETRY: a duplicate is counted and discarded (15 R390). -/
def Device.openFrame (d : Device) (s p mac seq : Nat) (f : Device → Device) : Device :=
  d.when (d.get (O.sessionState s) == 2) fun d =>
    d.sessionFrame s p mac fun d => d.replay s seq (fun d => d.bump (O.portDuplicates p)) f

/-- The long-term key in a key slot (15 R386). -/
def Device.slotKey (d : Device) (slot : Nat) : Option (List Byte) := if slot < 8 then d.mram.keys.getD slot none else none

/-- MAC of a peer entry on a port (15 R400). -/
def Device.peerMac (d : Device) (i p : Nat) : Nat :=
  (if p = 0 then d.getN (O.peerMacNA i) else d.getN (O.peerMacNB i)) % 2 ^ 48

/-- A peer entry is set, and peer sessions are kept (15 R400). -/
def Device.peerSet (d : Device) (i : Nat) : Bool :=
  d.flag O.creditEnable && d.get (O.peerShelfId i) != 0 && decide (d.get (O.peerKeySlot i) < 8)

/-- The peer entry whose OPEN has arrived: its key slot, with the PEER right, its MAC, and this controller has the higher
ShelfId (15 R400).
DEDUCED 97 (notes/assumptions). -/
def Device.peerOfOpen (d : Device) (p mac slot : Nat) : Option Nat :=
  if bit (d.get (O.rights slot)) 5 then
    (List.range 16).find? fun i =>
      d.peerSet i && d.get (O.peerKeySlot i) == slot && d.peerMac i p == mac &&
        decide (d.get (O.peerShelfId i) < d.get O.shelfId)
  else none

/-- A session entry that is free. -/
def Device.freeEntry (d : Device) : Option Nat := (List.range 16).find? fun s => d.get (O.sessionState s) == 0

/-- The session key (15 R387). -/
def sessionKey (key nh nc : List Byte) (id : Nat) : List Byte :=
  Config.hmacSha256 key ([0x49, 0x4F, 0x50, 0x53] ++ nh ++ nc ++ leBytes 4 id)

/-- Body of an OPEN_ACK (15 R387).
DESIGN CHOICE 96 (notes/assumptions). -/
def openAckBody (id result mode rights : Nat) (nc nh : List Byte) : List Byte :=
  leBytes 4 id ++ leBytes 1 result ++ leBytes 1 mode ++ leBytes 2 rights ++ nc ++ nh

/-- An entry of the session table taken by an OPEN (15 R387, R388, R400).
DEDUCED 97 (notes/assumptions). -/
def Device.enterSession (d : Device) (s id slot mode : Nat) (x : Session) : Device :=
  let d := d.modSession s fun _ => x
  ((((d.set (O.sessionState s) 1).set (O.sessionId s) id).set (O.sessionKeySlot s) slot).set (O.sessionMode s) mode)

/-- A verified OPEN that is no duplicate (15 R387): OPEN_ACK with RESULT 0, or 1 where the table is full.
DESIGN CHOICE 96; DEDUCED 94 (notes/assumptions). -/
def Device.openSession (d : Device) (p mac slot : Nat) (mode : Byte) (key nh : List Byte) : Device :=
  let nc := fit 16 (Config.randomBytes d.free 16)
  let id := max 1 (ofLe (fit 4 (Config.randomBytes (d.free + 1) 4)))
  let d := d.used.used
  let peer := d.peerOfOpen p mac slot
  let d := match peer with
    | some i => if d.get (O.peerSession i) = 0xFF then d else d.closeSession (d.getN (O.peerSession i)) 1
    | none => d
  match d.freeEntry with
  | none => (d.bump O.sessionsRefused).sendFrame p mac key 2 0 0 0 (openAckBody 0 1 0 0 nc nh)
  | some s =>
    let dual : Nat := if mode.getLsbD 1 && d.flag (O.portEnable 0) && d.flag (O.portEnable 1) then 2 else 0
    let granted : Nat := (if mode.getLsbD 0 then 1 else 0) + dual
    let macs := match peer with
      | some i => [(0, d.peerMac i 0), (1, d.peerMac i 1)]
      | none => [(p, mac)]
    let d := d.enterSession s id slot (granted + (if peer.isSome then 4 else 0))
      { Session.reset with peer := peer, port := p, macs := macs, nonce := nh, key := sessionKey key nh nc id }
    d.sendFrame p mac key 2 0 0 0 (openAckBody id 0 granted (d.getN (O.rights slot)) nc nh)

/-- An OPEN with the nonce of a session that is being opened is a copy (15 R403).
DEDUCED 95 (notes/assumptions). -/
def Device.openCopy (d : Device) (slot : Nat) (nh : List Byte) : Bool :=
  (List.range 16).any fun s =>
    d.get (O.sessionState s) == 1 && d.get (O.sessionKeySlot s) == slot && !(d.session s).opener && (d.session s).nonce == nh

/-- A session is open (15 R387, R400).
DEDUCED 98 (notes/assumptions). -/
def Device.sessionOpens (d : Device) (s : Nat) : Device :=
  let d := d.set (O.sessionState s) 2
  match (d.session s).peer with
  | some i => d.set (O.peerSession i) s
  | none => d

/-- One operation of a REQUEST body, with the rest of the body (15 R391). -/
def parseOp (bs : List Byte) : Option (Op × List Byte) :=
  let n := ofLe (bs.extract 4 6)
  let v := (bs.drop 8).take n
  let rest := bs.drop (8 + (n + 3) / 4 * 4)
  let index := BitVec.ofNat 16 (ofLe (bs.extract 2 4))
  let sub := bs.getD 1 0
  if bs.length < 8 + (n + 3) / 4 * 4 then none
  else match (bs.getD 0 0).toNat with
    | 1 => if n = 0 then some (.read index sub, rest) else none
    | 2 => some (.write index sub v, rest)
    | 3 => if n = 0 then some (.nop, rest) else none
    | 4 =>
      let w := fun i : Nat => BitVec.ofNat 32 (ofLe (v.extract (4 * i) (4 * i + 4)))
      if n = 12 then some (.wait index sub (w 0) (w 1) (w 2), rest) else none
    | _ => none

/-- So many operations, and nothing behind them. -/
def parseOps : Nat → List Byte → Option (List Op)
  | 0, bs => if bs.isEmpty then some [] else none
  | n + 1, bs => match parseOp bs with
    | some (o, rest) => (parseOps n rest).map fun l => o :: l
    | none => none

/-- The operations of a REQUEST body, none if it is malformed (15 R391). -/
def parseRequest (body : List Byte) : Option (List Op) :=
  let n := (body.getD 0 0).toNat
  if body.length < 4 ∨ 1476 < body.length ∨ n = 0 ∨ 16 < n then none
  else parseOps n (body.drop 4)

/-- The rights that an operation needs (15 R386).
DEDUCED 100 (notes/assumptions). -/
def opRights : Op → Nat
  | .read _ _ => 1
  | .wait _ _ _ _ _ => 1
  | .write i s _ => writeRights i.toNat s.toNat
  | .nop => 0

/-- RSTATUS of an accepted request with its operations (15 R391, R393, R400).
DEDUCED 100 (notes/assumptions). -/
def Device.requestStatus (d : Device) (s : Nat) (ops : Option (List Op)) : Nat :=
  if (d.session s).peer.isSome then 3
  else if 8 ≤ (d.session s).requests.length then 1
  else match ops with
    | none => 2
    | some l => if l.all fun o => hasBits (d.pathRights s) (opRights o) then 0 else 3

/-- A REQUEST is accepted: it is outstanding, or answered without being executed (15 R391, R393). -/
def Device.acceptRequest (d : Device) (s seq : Nat) (fence : Bool) (body : List Byte) : Device :=
  let ops := parseRequest body
  match d.requestStatus s ops with
  | 0 =>
    let r : Req := ⟨seq, d.net.accepted, fence, (ops.getD []).map fun o => ⟨o, false, none⟩⟩
    let d := d.modSession s fun x => { x with requests := x.requests ++ [r] }
    { d with net := { d.net with accepted := d.net.accepted + 1 } }
  | st => d.respond s seq st []

/-- A duplicate REQUEST with RETRY (15 R390): its cached RESPONSE is sent again with CACHED set, unless it has been
within 5 ms (`soon`) or the request is still executing. -/
def Device.retryRequest (d : Device) (s seq : Nat) (soon : Bool) : Device :=
  match (d.session s).cache.find? fun c => c.1 == seq with
  | some c => if soon then d else d.sendIop s 0x11 4 c.2.1 c.2.2
  | none => d

/-- An operation of an outstanding request. -/
def Device.opAt (d : Device) (s seq i : Nat) : Option (Req × OpSlot) :=
  match (d.session s).requests.find? fun r => r.seq == seq with
  | some r => (r.ops[i]?).map fun o => (r, o)
  | none => none

/-- An operation is a fence: 0x1F00, Commit and SnapshotFence (15 R395, 16 R427).
DEDUCED 101 (notes/assumptions). -/
def opFence : Op → Bool
  | .write i _ _ => i == 0x1F00 || i == 0x1F10 || i == 0x9000
  | _ => false

/-- An operation that has not taken effect holds back another of the same request (15 R394, R395). -/
def holdsSame (a b : OpSlot) : Bool :=
  a.result.isNone && (opFence a.op || opFence b.op || (a.op.address.isSome && a.op.address == b.op.address))

/-- The order that holds back an operation of a session: session order in a strict session, fences and the order of
accesses to one object in a relaxed one, and between sessions the order of the writes of one object (15 R394–R396).
DEDUCED 101 (notes/assumptions). -/
def Device.held (d : Device) (s : Nat) (r : Req) (i : Nat) (o : OpSlot) : Bool :=
  let strict := d.sessionStrict s
  let mine := (d.session s).requests.any fun q =>
    if q.turn < r.turn then
      q.ops.any fun a => a.result.isNone && (strict || q.fence || r.fence || holdsSame a o)
    else if q.turn = r.turn then (q.ops.take i).any fun a => a.result.isNone && (strict || holdsSame a o)
    else false
  let others := (List.range 16).any fun t => t != s && (d.session t).requests.any fun q =>
    decide (q.turn < r.turn) && q.ops.any fun a =>
      a.result.isNone && (match a.op, o.op with
        | .write x y _, .write x' y' _ => x == x' && y == y'
        | _, _ => false)
  mine || others

/-- An operation that may start now: `f` gets it (15 R392–R396). -/
def Device.startOp (d : Device) (s seq i : Nat) (f : Op → Device → Device) : Device :=
  d.when (d.pathOpen s) fun d =>
    match d.opAt s seq i with
    | some (r, o) => d.when (!o.started && o.result.isNone && !d.held s r i o) fun d => f o.op d
    | none => d

/-- The block of faults that owns an object, where it has a Retrying flag (14 R355, R364, 16 R425). -/
def ownerBlock (index : Nat) : Option Nat :=
  let k := index / 256 % 16
  if index / 0x1000 = 3 then some (if index % 256 = 0x0C ∨ index % 256 = 0x0D then 16 + k else k)
  else if 0x2410 ≤ index ∧ index ≤ 0x241F then some (index - 0x2410)
  else if 0x4100 ≤ index ∧ index ≤ 0x411F then some (42 + (index - 0x4100))
  else if 0x4200 ≤ index ∧ index ≤ 0x421F then some (42 + (index - 0x4200))
  else if 0x4300 ≤ index ∧ index ≤ 0x431F then some (42 + (index - 0x4300))
  else if 0x5800 ≤ index ∧ index ≤ 0x5FFF then some 78
  else if 0x6100 ≤ index ∧ index ≤ 0x615F then some (index - 0x6100)
  else none

/-- The TIMEOUT of a WAIT in ms, 0 selecting WaitTimeout (15 R397). -/
def Device.waitTime (d : Device) (timeout : BitVec 32) : Int := if timeout = 0 then d.get O.waitTimeout else timeout.toNat

/-- The error with which a WAIT is refused, 0 for none (15 R392, R397, R403). -/
def Device.waitBad (d : Device) (index sub : Nat) (timeout : BitVec 32) : Nat :=
  match locate index sub with
  | .error c => c
  | .count _ => if d.flag O.controllerClassA then 0x0814 else 0
  | .obj o k =>
    if o.access = .wo then 0x0601
    else if 4 < o.ty.size.getD 5 then 0x0809
    else if o.id = 0x300d01 ∧ d.waitTime timeout < d.tgWorst k then 0x0809
    else if d.flag O.controllerClassA then 0x0814
    else 0

/-- The value read satisfies a WAIT (15 R397). -/
def waitMet (value : List Byte) (compare mask : BitVec 32) : Bool := BitVec.ofNat 32 (ofLe value) &&& mask == compare

/-- A WAIT that has started and has no result: `f` gets its operands and what a read of its object gives. -/
def Device.pendingWait (d : Device) (s seq i : Nat)
    (f : Nat → BitVec 32 → BitVec 32 → Nat × List Byte × Device → Device) : Device :=
  d.when (d.pathOpen s) fun d =>
    match d.opAt s seq i with
    | some (_, ⟨.wait ix sb c m _, true, none⟩) => f ix.toNat c m (d.readObject s ix.toNat sb.toNat)
    | _ => d

/-- A WAIT whose object meets its condition completes with the value (15 R397).
DEDUCED 102 (notes/assumptions). -/
def Device.waitEnds (d : Device) (s seq i : Nat) : Device :=
  d.pendingWait s seq i fun _ c m r =>
    if r.1 = 0 ∧ waitMet r.2.1 c m = true then r.2.2.opDone s seq i 0 r.2.1 else d

/-- First tag error of a 1 s interval of the crystal (15 R383, R384).
DESIGN CHOICE 109 (notes/assumptions). -/
def Device.tagError (d : Device) (p second : Nat) : Device :=
  let d := d.bump (O.tagErrors p)
  d.when (d.net.tagSecond != some second) fun d =>
    { d with net := { d.net with tagSecond := some second } }.raiseC 81 0 0x0A02 []

end Sys2Proof.Machine
end

