-- ==== Sys2Proof/Machine/CreditFrames.lean ====
section
/-! DEFINITION. The commands of the CREDIT frames of peers (11 R298–R301, 15 R385, R389, R400). -/

namespace Sys2Proof.Machine

/-- A CREDIT frame of a session (15 R389, R400): the port hears it and the replay window accepts it before the credit
layer sees its message. -/
def Device.creditFrame (d : Device) (fr : FrameIn) (f : Device → Device) : Device :=
  d.openFrame fr.session fr.port fr.mac.toNat fr.seq.toNat fun d => d.when (d.creditHeard fr.session) f

/-- CREDIT_OFFER (11 R298–R301).
DESIGN CHOICE 69, 108 (notes/assumptions). -/
def execCreditOffer (fr : FrameIn) (sender receiver : BitVec 16) (id : BitVec 64) (amount : BitVec 32) (s : State) :
    Host.Outcome State Fault Refusal :=
  s.run fun d => d.creditFrame fr fun d =>
    if d.fromGiver sender.toNat id.toNat then
      let d := d.when (receiver.toNat != d.getN O.shelfId) fun d => d.bump O.badMessages
      match d.transfer id.toNat with
      | some t => d.answerDup fr.session (if t.st = 7 then 3 else 2) t
      | none =>
        match d.offerReason sender.toNat receiver.toNat id.toNat amount.toNat with
        | 0 => d.creditTake fr.session id.toNat sender.toNat amount.toNat
        | r => d.creditRefuse fr.session id.toNat sender.toNat r amount.toNat
    else d.bump O.badMessages

/-- CREDIT_WITHDRAW (11 R299–R301). -/
def execCreditWithdraw (fr : FrameIn) (sender receiver : BitVec 16) (id : BitVec 64) (amount : BitVec 32) (s : State) :
    Host.Outcome State Fault Refusal :=
  s.run fun d => d.creditFrame fr fun d =>
    d.message (d.fromGiver sender.toNat id.toNat) receiver fun d =>
      match d.transfer id.toNat with
      | some t => d.answerDup fr.session (if t.st = 7 then 3 else 2) t
      | none => d.creditRefuse fr.session id.toNat sender.toNat 6 amount.toNat

/-- CREDIT_SETTLE (11 R299, R301). -/
def execCreditSettle (fr : FrameIn) (sender receiver : BitVec 16) (id : BitVec 64) (s : State) :
    Host.Outcome State Fault Refusal :=
  s.run fun d => d.creditFrame fr fun d =>
    d.message (d.fromGiver sender.toNat id.toNat) receiver fun d =>
      match d.transfer id.toNat with
      | some t =>
        if t.st = 5 then d.releaseCommit fr.session t
        else if t.st = 6 then d.answerDup fr.session 5 t
        else d.raiseC 79 0 0x0705 (leBytes 8 t.id)
      | none => d.raiseC 79 0 0x0705 (leBytes 8 id.toNat)

/-- CREDIT_ACCEPT (11 R299, R301). -/
def execCreditAccept (fr : FrameIn) (sender receiver : BitVec 16) (id : BitVec 64) (s : State) :
    Host.Outcome State Fault Refusal :=
  s.run fun d => d.creditFrame fr fun d =>
    d.message (d.fromTaker sender.toNat id.toNat) receiver fun d =>
      match d.transfer id.toNat with
      | some t =>
        if t.inOut then d.settleCommit fr.session t
        else if t.st = 3 ∨ t.st = 4 then d.answerDup fr.session 4 t
        else d
      | none => d

/-- CREDIT_REFUSE (11 R299). -/
def execCreditRefuse (fr : FrameIn) (sender receiver : BitVec 16) (id : BitVec 64) (reason : BitVec 16) (s : State) :
    Host.Outcome State Fault Refusal :=
  s.run fun d => d.creditFrame fr fun d =>
    d.message (d.fromTaker sender.toNat id.toNat) receiver fun d =>
      match d.transfer id.toNat with
      | some t => if t.inOut then d.returnCredits t reason.toNat else d
      | none => d

/-- CREDIT_CLOSE (11 R299): the record is written, the ledger is unchanged. -/
def execCreditClose (fr : FrameIn) (sender receiver : BitVec 16) (id : BitVec 64) (s : State) :
    Host.Outcome State Fault Refusal :=
  s.run fun d => d.creditFrame fr fun d =>
    d.message (d.fromTaker sender.toNat id.toNat) receiver fun d =>
      match d.transfer id.toNat with
      | some t =>
        let now := d.now
        d.when (t.giver && t.st == 3 && d.canCommit) fun d => d.modTransfer t.id fun x => { x with st := 4, stamp := now }
      | none => d

end Sys2Proof.Machine
end

