-- ==== Sys2Proof/Machine/Holdup.lean ====
section
/-! DEFINITION. Commands of hold-up (10 R268–R283). -/

namespace Sys2Proof.Machine

/-- CONFIRM_ANGLE_EXPIRY (10 R268 b0): the confirmation stamp is the first sample's plus ConfirmAngle; it lies in the
present lap. -/
def execConfirmAngleExpiry (s : State) : Host.Outcome State Fault Refusal :=
  s.run fun d => match d.tb.dev with
    | none => d
    | some x =>
      let t := x.1 + d.getN O.confirmAngle
      d.when ((d.holdActs || d.coreWaits) && decide (t / 65536 ≤ d.lap)) fun d =>
        (d.toStamp (max d.now t)).dropout 0 t

/-- HoldupSamples bus samples in a row lie below HoldupThreshold (10 R268 b2). -/
def Device.busBelow (d : Device) : Bool := d.hold.lowRuns.any fun n => decide (d.getN O.holdupSamples ≤ n)

/-- BUS_DROPOUT (10 R268 b2): armed, and HoldupSamples consecutive samples below HoldupThreshold. -/
def execBusDropout (s : State) : Host.Outcome State Fault Refusal :=
  s.run fun d => d.when (d.flag O.busArmed && d.busBelow) fun d => d.dropout 2 d.now

/-- RETURN_COMMIT (10 R278, R279). -/
def execReturnCommit (s : State) : Host.Outcome State Fault Refusal :=
  s.run fun d => d.when d.returnMay Device.returnCommit

/-- RETURN_TIMEOUT (10 R283): ReturnLaps of the commit have passed, laps of a retrying slot not counted (14 R364). -/
def execReturnTimeout (s : State) : Host.Outcome State Fault Refusal :=
  s.run fun d => d.when (d.holdActs && d.get O.holdupState == 2 &&
    decide (d.hold.returnLap + d.getN O.returnLaps + d.hold.returnPaused ≤ d.lap)) fun d =>
      d.returnEnds O.returnsTimedOut 0x0607

end Sys2Proof.Machine
end

