-- ==== Sys2Proof/Machine/SplitOps.lean ====
section
/-! DEFINITION. The split: its 512 bytes and its capture (02 R51, 09 R264, 11 R292, 18 R457). -/

namespace Sys2Proof.Machine

/-- A measurement in a finer unit, shown unsigned in 2 bytes of `unit` of it.
DESIGN CHOICE 4 (notes/assumptions). -/
def shown16 (unit : Nat) (v : Int) : List Byte := leBytes 2 (satU 16 (quant ((v : Rat) / unit)))
/-- The same with a sign.
DESIGN CHOICE 4 (notes/assumptions). -/
def shownS16 (unit : Nat) (v : Int) : List Byte := leBytes 2 (satS 16 (quant ((v : Rat) / unit)))

/-- The 16 bytes of a feed. -/
def Device.splitFeed (d : Device) (k : Nat) (m : FeedSplit) : List Byte :=
  let flags := b2i (d.flag (O.reached k)) + 2 * b2i (d.flag (O.deActive k)) + 4 * b2i (d.feedCap k).isSome +
    8 * b2i (d.get (O.ocState k) != 0) + 16 * b2i (d.tgSt k == 5) + 32 * b2i (d.get (O.controlEngine k) == 8)
  leBytes 4 (satU 32 m.power) ++ shown16 1 m.v ++ shown16 100 m.i ++ shown16 100 m.iPeak ++ leBytes 1 (d.get (O.activePhases k)) ++
    leBytes 1 (d.get (O.feedState k)) ++ leBytes 1 flags ++ [0, 0, 0]

/-- The 32 bytes of a string (09 R264): mean and least V_str in mV, mean I_n in mA. -/
def Device.splitString (d : Device) (n : Nat) (m : Int × Int × Int) : List Byte :=
  let x := d.str n
  let flags := b2i (d.present n) + 2 * b2i (d.flag (O.socValid n)) + 4 * b2i (d.flag (O.conducting (strGate n))) +
    8 * b2i (d.flag (O.cutoffHold n)) + 16 * b2i x.anonymous + 32 * b2i x.anchored + 64 * b2i (d.flag (O.disagree n))
  leBytes 1 (d.get (O.stringState n)) ++ leBytes 1 flags ++ leBytes 2 (d.get (O.stateOfCharge n)) ++ leBytes 2 (d.get (O.chargeSoC n)) ++
    leBytes 2 (satS 16 (quant (x.temp * 10))) ++ shown16 1 m.1 ++ shown16 1 m.2.1 ++ leBytes 4 (satS 32 m.2.2) ++
    leBytes 4 (satS 32 (quant (((x.qInt - x.qSplit : Int) : Rat) / 1000))) ++ leBytes 2 (satU 16 (quant (d.rs n * 100000))) ++
    leBytes 2 (satU 16 (quant (x.cl / 360))) ++ leBytes 2 (satU 16 (quant (d.usable n / 36))) ++ leBytes 2 (d.get (O.chargeSetpoint n)) ++
    leBytes 1 (d.get (O.lampCode n)) ++ leBytes 1 (d.get (O.suspendCause n)) ++ [0, 0]

/-- The split without its CRC (02 R51). -/
def Device.splitBody (d : Device) (m : SplitData) : List Byte :=
  let feeds := (List.range 16).flatMap fun k => d.splitFeed k (m.feeds.getD k ⟨0, 0, 0, 0⟩)
  let strings := (List.range 4).flatMap fun n => d.splitString n (m.strings.getD n (0, 0, 0))
  let flags := b2i (d.flag O.templateValid) + 2 * b2i d.tb.splitDev
  leBytes 8 d.now ++ leBytes 4 (satU 32 m.duration) ++ leBytes 4 (toQ1616 ((m.freq : Rat) / 1000000)) ++
    leBytes 1 (d.get O.timebaseState) ++ leBytes 1 (d.get O.sourceClass) ++ leBytes 1 (d.get O.rotation) ++ leBytes 1 flags ++
    leBytes 2 d.tb.worstErr ++ leBytes 2 (d.get O.qualifiedLaps) ++
    ((List.range 3).flatMap fun i => shown16 100 (sel i m.rmsV)) ++ ((List.range 3).flatMap fun i => shown16 100 (sel i m.rmsI)) ++
    shown16 100 m.peak ++ List.replicate 26 0 ++
    ((List.range 4).flatMap fun i => shown16 1 (sel i m.bus)) ++ shownS16 100 (sel 4 m.bus) ++ shownS16 100 (sel 5 m.bus) ++
    List.replicate 20 0 ++ feeds ++ strings ++
    leBytes 4 (satU 32 m.rectPower) ++ leBytes 1 (d.rectIn [5]).length ++ List.replicate 19 0 ++ leBytes 4 d.tb.splitSeq

/-- A capture (02 R51, 09 R264, 18 R457): LastSplit, the split lane, the history, and what the next interval starts
from. The first split since power-on is number 1.
DESIGN CHOICE 31, 180 (notes/assumptions). -/
def Device.splitNow (d : Device) (m : SplitData) : Device :=
  let seq := if d.tb.splitSeq + 1 < 2 ^ 32 then d.tb.splitSeq + 1 else (d.freeVal % 2 ^ 32).toNat
  let d := d.used.modTb fun t => { t with splitSeq := seq }
  let body := d.splitBody m
  let bytes := body ++ leBytes 4 (crc32c body)
  let now := d.now
  let d := d.modTb fun t => { t with lastSplit := bytes, splitStamp := now, splitDev := false, worstErr := 0 }
  let d := (d.pushSplit bytes).historyPush d.lap bytes
  d.forAll (List.range 4) fun n d => d.modStr n fun x => { x with anchored := false, qSplit := x.qInt }

/-- The firing of slot 0: the split, the feed powers and the rectifier power that others use, the lap commit (02 R51,
07 R206, 11 R292, R314).
DESIGN CHOICE 153 (notes/assumptions). -/
def Device.splitFires (d : Device) (m : SplitData) : Device :=
  let start := d.tb.splitStamp
  let powers := (List.range 16).map fun k => (m.feeds.getD k ⟨0, 0, 0, 0⟩).power
  let d := d.splitNow m
  let d := d.forAll (List.range 16) fun k d => d.set (O.lapPower k) (satU 32 (quant ((sel k powers : Rat) / 1000)))
  let d := { d with bus := { d.bus with powers := ((m.rectPower : Rat) :: d.bus.powers).take 256 } }
  if d.coreWaits then d.workDue (.commit start powers) else d.lapCommit start powers

end Sys2Proof.Machine
end

