-- ==== Sys2Proof/Machine/Lap.lean ====
section
/-! DEFINITION. What happens at every lap boundary and at the firing of a scheduler slot (02 R27–R51). -/

namespace Sys2Proof.Machine

/-- The stamp of the next lap boundary; the angle passes 0 there (00 R5, 02 R27). -/
def Device.nextLap (d : Device) : Device := d.toStamp ((d.lap + 1) * 65536)

/-- Means of the lap that others use: the bus and the line currents (07 R193, 08 R223, 10 R272), the drops (06 R178).
DESIGN CHOICE 60, 153 (notes/assumptions). -/
def Device.lapMeans (d : Device) (m : LapData) (ended : Nat) : Device :=
  let d := { d with hold := { d.hold with vLap := (m.vBus : Rat) / 1000000 } }
  let rms := (List.range 3).map fun i => (sel i m.rms : Rat) / 1000
  let d := { d with bus := { d.bus with rms := (rms :: d.bus.rms).take 8 } }
  let d := d.forAll (List.range 6) fun g d => d.set (O.drop g) (clampI (-12000) 12000 (sel g m.drops))
  d.identifyPairs ended

/-- One LINE tick in which no command comes (00 R5, 02 R27): the angle advances by one au while CORE runs. It never
passes the end of the lap: the boundary is the command LAP_BOUNDARY (notes/assumptions/5.md).
DESIGN CHOICE 5 (notes/assumptions). -/
def Device.idle (d : Device) : Device :=
  if d.sys.coreRunning && decide (d.tb.stamp % 65536 < 65535) then d.toStamp (d.tb.stamp + 1) else d

/-- What a step does with no command waiting: a tick; where a ruling of hold-up was due, all that follows it.
DESIGN CHOICE 5 (notes/assumptions). -/
def idleStep (s : State) : Host.Outcome State Fault Refusal :=
  if s.dev.hold.due.isSome then s.run Device.idle else .next { s with dev := s.dev.idle }

/-- Lamps of the class-A safe state: code 1 on every present string (14 R366).
DESIGN CHOICE 89 (notes/assumptions). -/
def Device.lampsClassA (d : Device) : Device :=
  d.when (d.flag O.controllerClassA) fun d =>
    d.forAll (List.range 4) fun n d =>
      d.when (d.present n) fun d => d.showLamp n 1

/-- LAP_BOUNDARY (01 R15, R23, 02 R27–R46, 04 R115, 06 R174, 08 R236, 09 R256, 10 R281, 11 R291, 18 R468): what has
been measured over the lap that ends. -/
def execLapBoundary (m : LapData) (s : State) : Host.Outcome State Fault Refusal :=
  s.run fun d => d.when d.sys.coreRunning fun d =>
    let ended := d.lap
    let d := d.nextLap
    let d := d.when d.live fun d => d.swapDue.moveShadow
    let d := (d.loadSlots.lapAngle m).stringsLap m
    let d := ((d.lapMeans m ended).holdLap).lampsClassA
    let d := d.when d.live fun d =>
      d.forAll (List.range 16) fun k d => match m.trays[k]? with
        | some x => d.trayLap k x.1 x.2.1 x.2.2.1 x.2.2.2
        | none => d
    d.laneCheck.when d.scActive fun d => d.ledgerCheck

/-- What an engine does at the firing of one of the controller's slots (02 R48–R51, 07 R194, R201–R203, 16 R416). -/
def Device.slotWork (d : Device) (slot : Nat) (m : FireData) : Device :=
  match slot with
  | 0 => d.splitFires m.split
  | 1 =>
    let y := d.busMeasure m.bus
    if y.1.coreWaits then y.1.workDue (.sharing y.2) else y.1.sharingUpdate y.2
  | 2 => d.zoneOpens
  | 3 => d.zoneCloses
  | 4 => d.placementFires false
  | 5 => d.placementFires true
  | 6 => d.applyQueue
  | _ => d

/-- SLOT_FIRE (02 R45, R48).
DESIGN CHOICE 59; DEDUCED 33 (notes/assumptions). -/
def execSlotFire (slot : Fin 64) (m : FireData) (s : State) : Host.Outcome State Fault Refusal :=
  s.run fun d => d.when (d.slotFires slot) fun d =>
    let d := d.slotHardware slot
    d.when d.live fun d => d.slotWork slot m

end Sys2Proof.Machine
end

