-- ==== Sys2Proof/Machine/Management.lean ====
section
/-! DEFINITION. The two-wire management port: its byte space, write transactions, the object access window, the fast
status page, wakes (17 R431–R446). -/

namespace Sys2Proof.Machine

/-- Both field ports are connected (15 R379). -/
def Device.bothConnected (d : Device) : Bool := d.connected 0 && d.connected 1

/-- Flags of the fast status page (17 R442). -/
def Device.statusFlags (d : Device) : List Bool :=
  [d.runs engNE, d.runs engBE, d.bothConnected, d.get (O.engineState 10) == 2, d.flag O.sensorFault,
    d.get O.autostartState == 1, d.flag O.frozen]

/-- A bit list as a number, bit 0 first. -/
def ofBits (l : List Bool) : Nat := l.foldr (fun b n => 2 * n + if b then 1 else 0) 0

/-- The fast status page (17 R442), from the committed objects.
DESIGN CHOICE 120 (notes/assumptions). -/
def Device.statusPage (d : Device) : List Byte :=
  let byte := fun o : Obj => leBytes 1 (d.get o)
  leBytes 8 d.now ++ leBytes 4 (d.mgmt.refreshes + 1) ++
    byte O.controllerClassA ++ byte O.faultNLevel ++ byte O.holdupState ++ byte O.batonHolder ++
    byte O.timebaseState ++ byte O.sourceClass ++ byte O.band ++ leBytes 1 (ofBits d.statusFlags) ++
    leBytes 2 (d.get O.tj) ++ [0, 0] ++
    d.viewBytes O.openBView 0 ++ d.viewBytes O.openCView 0 ++ d.viewBytes O.classAView 0 ++ [0, 0, 0, 0] ++
    ((List.range 16).flatMap fun k => byte (O.feedState k)) ++ ((List.range 16).flatMap fun k => byte (O.tgState k)) ++
    leBytes 2 (satU 16 (quant ((d.get O.busMean : Rat) / 1000))) ++ [0, 0] ++
    ((List.range 4).flatMap fun n => byte (O.stringState n)) ++
    byte O.seqState ++ byte O.activeShelfCore ++ byte O.le8Pair ++ [0] ++
    leBytes 4 d.ledger.allot ++ leBytes 4 (d.get O.holdupSeconds) ++ List.replicate 140 0

/-- FAST_STATUS_REFRESH (17 R442): GD refreshes the page, without NE.
DESIGN CHOICE 120 (notes/assumptions). -/
def execFastStatusRefresh (s : State) : Host.Outcome State Fault Refusal :=
  s.run fun d => d.when (d.live && d.runs 15) fun d =>
    { d with mgmt := { d.mgmt with page := fit 256 d.statusPage, refreshes := (d.mgmt.refreshes + 1) % 2 ^ 32 } }

/-- A class-A latch in the port page (17 R440). -/
def latchBytes : Option ClassACause → List Byte
  | some c => leBytes 1 c.block ++ leBytes 2 c.source ++ leBytes 2 c.code ++ leBytes 8 c.stamp ++ [0, 0, 0]
  | none => 0xFF :: List.replicate 15 0

/-- The port page (17 R440). -/
def Device.portPage (d : Device) : List Byte :=
  let a := d.aon
  let available := d.sys.coreRunning && d.runs engNE
  let status := ofBits [d.sys.coreRunning, !d.sys.coreRunning, available, !d.pins.alertN]
  [0x00, 0x01] ++ leBytes 1 a.address ++ leBytes 1 status ++ leBytes 2 d.mgmt.alertCause ++ leBytes 2 d.mgmt.alertMask ++
    leBytes 4 a.wakes ++ leBytes 2 a.wakeFailures ++ leBytes 2 a.stuckReleases ++ latchBytes a.classA ++
    latchBytes a.prevClassA ++ leBytes 4 a.discarded ++ leBytes 4 a.busyNacks ++ leBytes 4 d.mram.powerOnCount ++ [0, 0, 0, 0]

/-- The window control page (17 R443). -/
def Device.windowPage (d : Device) : List Byte :=
  let m := d.mgmt
  leBytes 2 m.winIndex ++ leBytes 1 m.winSub ++ [0] ++ leBytes 2 m.winLen ++ leBytes 1 m.winState ++ leBytes 1 m.winDisp ++
    leBytes 2 m.winStatus ++ [0, 0] ++ leBytes 4 m.opCount ++ leBytes 8 m.winStamp

/-- The byte that the port returns for an address of its byte space (17 R436, R439, R444): in AON-only service the first
64 bytes of the port page, and 0xFF for the others; the data area is 0 while an operation runs or NE is lost. -/
def Device.portByte (d : Device) (adr : Nat) : Byte :=
  if !d.sys.coreRunning then (if adr < 0x40 then d.portPage.getD adr 0 else 0xFF)
  else if adr < 0x100 then d.portPage.getD adr 0
  else if adr < 0x200 then d.mgmt.page.getD (adr - 0x100) 0
  else if 0x1000 ≤ adr ∧ adr < 0x1040 then d.windowPage.getD (adr - 0x1000) 0
  else if 0x1400 ≤ adr ∧ adr < 0x1800 then
    if d.mgmt.winState = 1 ∨ d.mgmt.winState = 3 then 0 else d.mgmt.data.getD (adr - 0x1400) 0
  else 0

/-- Address of the n-th data byte of a write transaction (17 R437): it wraps inside its 64-byte page. -/
def pageWrap (pointer n : Nat) : Nat := pointer / 64 * 64 + (pointer + n) % 64

/-- Addresses that a write reaches (17 R439–R443): AlertCause, AlertMask, INDEX, SUB, OP, LEN and the data area. -/
def portWritable (adr : Nat) : Bool :=
  (decide (4 ≤ adr) && decide (adr < 8)) || (decide (0x1000 ≤ adr) && decide (adr < 0x1006)) ||
    (decide (0x1400 ≤ adr) && decide (adr < 0x1800))

/-- One byte of a number replaced. -/
def setByte (v n : Nat) (b : Byte) : Nat := v % 2 ^ (8 * n) + b.toNat * 2 ^ (8 * n) + v / 2 ^ (8 * n + 8) * 2 ^ (8 * n + 8)

/-- One written byte takes effect (17 R438, R441, R443); OP is started by the end of the transaction.
DESIGN CHOICE 118 (notes/assumptions). -/
def Mgmt.putByte (m : Mgmt) (adr : Nat) (b : Byte) : Mgmt :=
  match adr with
  | 4 => { m with alertCause := m.alertCause / 256 * 256 + (m.alertCause % 256 - (m.alertCause &&& b.toNat)) }
  | 5 => m
  | 6 => { m with alertMask := setByte m.alertMask 0 b }
  | 7 => { m with alertMask := m.alertMask % 256 + 256 }
  | 0x1000 => { m with winIndex := setByte m.winIndex 0 b }
  | 0x1001 => { m with winIndex := setByte m.winIndex 1 b }
  | 0x1002 => { m with winSub := b.toNat }
  | 0x1003 => m
  | 0x1004 => { m with winLen := setByte m.winLen 0 b }
  | 0x1005 => { m with winLen := setByte m.winLen 1 b }
  | _ => { m with data := modAt m.data (adr - 0x1400) fun _ => b }

/-- An OP written by a transaction starts an operation, or completes at once (17 R444).
DESIGN CHOICE 118 (notes/assumptions). -/
def Device.startWindow (d : Device) (op : Byte) : Device :=
  if !d.runs engNE then d.windowDone (0x0814, 0, [], d.now) 3
  else if op = 1 ∨ op = 2 then
    { d with mgmt := { d.mgmt with winState := 1, winOp := op.toNat, started := false, result := none } }
  else d.windowDone (0x0809, 0, [], d.now) 2

/-- Counters of the port saturate (17 R440). -/
def capTo (bits n : Nat) : Nat := min (2 ^ bits - 1) n

/-- A write transaction at its STOP or repeated START (17 R437, R438, R444): of a byte written twice the last value
counts.
DEDUCED 117 (notes/assumptions). -/
def Device.mgmtWrite (d : Device) (data : List Byte) : Device :=
  match data with
  | lo :: hi :: rest =>
    let ptr := lo.toNat + 256 * hi.toNat
    if d.sys.coreRunning then
      let bytes := rest.zipIdx.map fun x => (pageWrap ptr x.2, x.1)
      let busy := fun adr : Nat => d.mgmt.winState == 1 && decide (0x1000 ≤ adr) && decide (adr < 0x1800)
      let nacks := (bytes.filter fun x => busy x.1).length
      let lost := (bytes.filter fun x => !busy x.1 && !portWritable x.1).length
      let taken := bytes.filter fun x => !busy x.1 && portWritable x.1
      let last := taken.foldl (fun (l : List (Nat × Byte)) x => l.filter (fun y => y.1 != x.1) ++ [x]) []
      let m := last.foldl (fun (m : Mgmt) x => m.putByte x.1 x.2) d.mgmt
      let aon := { d.aon with busyNacks := capTo 32 (d.aon.busyNacks + nacks), discarded := capTo 32 (d.aon.discarded + lost) }
      let d := { d with mgmt := { m with pointer := if rest.isEmpty then ptr else pageWrap ptr rest.length }, aon := aon }.updateAlert
      match last.find? fun x => x.1 == 0x1003 with
      | some x => d.startWindow x.2
      | none => d
    else { d with mgmt := { d.mgmt with pointer := ptr } }
  | _ => d

/-- MGMT_WRITE_TRANSACTION (17 R436–R438): the bytes after the address byte. In standby after a StandbyRequest the
address wakes the controller first (MGMT_WAKE).
DESIGN CHOICE 158, 160; DEDUCED 117 (notes/assumptions). -/
def execMgmtWriteTransaction (data : List Byte) (s : State) : Host.Outcome State Fault Refusal :=
  s.run fun d => d.when (d.sys.vaon && (d.sys.coreRunning || d.sys.standby == 2)) fun d => d.mgmtWrite data

/-- MGMT_WAKE (17 R435, 20 R500): an address match in standby after a StandbyRequest. `ns`: duration of the standby.
DESIGN CHOICE 119 (notes/assumptions). -/
def execMgmtWake (ns : Nat) (m : PowerUp) (s : State) : Host.Outcome State Fault Refusal :=
  s.run fun d => d.when (d.sys.standby == 1) fun d =>
    let old := d.mgmt
    let d := { d with aon := { d.aon with wakes := capTo 32 (d.aon.wakes + 1) } }.wakeUp ns m
    { d with mgmt := { d.mgmt with pointer := old.pointer, alertCause := old.alertCause ||| d.mgmt.alertCause
                                   alertMask := old.alertMask } }.alert 6

/-- WAKE_FAILURE (17 R435): the controller stays in standby. -/
def execWakeFailure (s : State) : Host.Outcome State Fault Refusal :=
  s.run fun d => d.when (d.sys.standby == 1) fun d =>
    { d with aon := { d.aon with wakeFailures := capTo 16 (d.aon.wakeFailures + 1) } }

/-- MGMT_STUCK_RELEASE (17 R434).
DESIGN CHOICE 119 (notes/assumptions). -/
def execMgmtStuckRelease (s : State) : Host.Outcome State Fault Refusal :=
  s.run fun d => d.when d.sys.vaon fun d =>
    { d with aon := { d.aon with stuckReleases := capTo 16 (d.aon.stuckReleases + 1) } }

/-- WINDOW_OP_READ (17 R444). -/
def execWindowOpRead (s : State) : Host.Outcome State Fault Refusal :=
  s.run fun d =>
    let m := d.mgmt
    d.when (d.pathOpen 16 && m.winState == 1 && m.winOp == 1 && m.result.isNone) fun d =>
      let r := d.readObject 16 m.winIndex m.winSub
      { r.2.2 with mgmt := { r.2.2.mgmt with started := true, result := some (r.1, 0, r.2.1, d.now) } }

/-- WINDOW_OP_WRITE (17 R444): the first LEN bytes of the data area; a LEN outside 1 to 1024 is refused. -/
def execWindowOpWrite (stored : Bool) (s : State) : Host.Outcome State Fault Refusal :=
  s.run fun d =>
    let m := d.mgmt
    d.when (d.pathOpen 16 && m.winState == 1 && m.winOp == 2 && !m.started) fun d =>
      let d := { d with mgmt := { m with started := true } }
      if 1 ≤ m.winLen ∧ m.winLen ≤ 1024 then d.writeObject 16 m.winIndex m.winSub (m.data.take m.winLen) stored
      else d.answer 16 m.winIndex m.winSub 0x0809 0 []

/-- WINDOW_OP_DONE (17 R444). -/
def execWindowOpDone (s : State) : Host.Outcome State Fault Refusal :=
  s.run fun d => d.when (d.sys.coreRunning && d.runs engNE && d.mgmt.winState == 1) fun d =>
    match d.mgmt.result with
    | some r => d.windowDone r 2
    | none => d

/-- ALERT_CAUSE_CLEAR (17 R441): b8 stays as it is. -/
def execAlertCauseClear (mask : BitVec 16) (s : State) : Host.Outcome State Fault Refusal :=
  s.run fun d => d.when (d.sys.vaon && d.sys.coreRunning) fun d =>
    { d with mgmt := d.mgmt.putByte 4 (BitVec.ofNat 8 mask.toNat) }.updateAlert

end Sys2Proof.Machine
end

