-- ==== Sys2Proof/Machine/Memory.lean ====
section
/-! DEFINITION. Commands of DDR4 and the lanes that nothing writes (18 R448, R449, R454, R467). -/

namespace Sys2Proof.Machine

/-- DDR_TRAINING_DONE (18 R448): training passes to READY or fails to FAILED.
DESIGN CHOICE 124 (notes/assumptions). -/
def execDdrTrainingDone (ok : Bool) (s : State) : Host.Outcome State Fault Refusal :=
  s.run fun d => d.when (d.sys.coreRunning && d.get O.ddrState == 1) fun d =>
    let d := d.bump O.trainings
    if ok then
      let b := d.get O.band
      let d := (d.set O.trainedBand b).setDdr 2
      let d := d.modMem fun m => { m with caRun := 0, rdOff := 0, wrOff := 0, patrolDdr := 0 }
      d.when (d.flag O.pfEnable && d.runs engBE) Device.pfArm
    else d.setDdr 3

/-- DDR_TRAINING_RETRY (18 R448): 60 s after FAILED or LOST.
DESIGN CHOICE 124 (notes/assumptions). -/
def execDdrTrainingRetry (s : State) : Host.Outcome State Fault Refusal :=
  s.run fun d => d.when (d.sys.coreRunning && (d.get O.ddrState == 3 || d.get O.ddrState == 4)) fun d => d.setDdr 1

/-- CA_PARITY_ERROR (18 R449): `again` on the repeat of the same sequence. Three repeats, then LOST. -/
def execCaParityError (again : Bool) (s : State) : Host.Outcome State Fault Refusal :=
  s.run fun d => d.when (d.sys.coreRunning && d.get O.ddrState == 2) fun d =>
    let n := if again then d.mem.caRun + 1 else 1
    let d := d.modMem fun m => { m with caRun := n }
    if n ≤ 3 then (d.bump O.caParityRetries).emit (.note 449 [n]) else d.setDdr 4

/-- DDR_REFRESH (18 R454, R455): the interval and the offsets of the band act from this refresh.
DESIGN CHOICE 156 (notes/assumptions). -/
def execDdrRefresh (s : State) : Host.Outcome State Fault Refusal :=
  s.run fun d => d.when (d.sys.coreRunning && d.get O.ddrState == 2) fun d =>
    let fast := d.flag O.refreshFast || decide (2 ≤ d.get O.band)
    let o := d.phyOffsets
    (d.modMem fun m => { m with refi := if fast then 3900 else 7800, rdOff := o.1, wrOff := o.2 }).emit (.note 454 [0])

/-- ZQ_CALIBRATION (18 R454): a short calibration is run.
DESIGN CHOICE 156 (notes/assumptions). -/
def execZqCalibration (s : State) : Host.Outcome State Fault Refusal :=
  s.run fun d => d.when (d.sys.coreRunning && d.get O.ddrState == 2) fun d => d.emit (.note 454 [1])

/-- LANE_IDLE (18 R467): IdleTime without a Claim on a lane that holds an item. -/
def execLaneIdle (q : Fin 128) (s : State) : Host.Outcome State Fault Refusal :=
  s.run fun d => d.when (d.sys.coreRunning && d.get (O.idleTime q) != 0 && !(d.lane q).items.isEmpty && !(d.flag (O.laneIdle q)))
    fun d => ((d.setFlag (O.laneIdle q) true).bump (O.idleNotices q)).raiseD 82 (0x100 + q) 0x0B07 []

end Sys2Proof.Machine
end

