-- ==== Sys2Proof/Machine/Moves.lean ====
section
/-! DEFINITION. The commands of the engines and of firmware packages (01 R13, R15, R21, 04 R115–R117, 20 R505–R512). -/

namespace Sys2Proof.Machine

/-- TRANSFER_COMMIT (04 R115, R116, 20 R508): the first loop sample at or after the boundary; `same`: no shadow U
differed from the running one. -/
def execTransferCommit (same : Bool) (s : State) : Host.Outcome State Fault Refusal :=
  s.run fun d => d.when d.live fun d => d.moveCommit same

/-- ENGINE_FAILURE (01 R14, 20 R512): GD declares another engine failed. -/
def execEngineFailure (e : Fin 16) (s : State) : Host.Outcome State Fault Refusal :=
  s.run fun d =>
    let st := d.get (O.engineState e)
    d.when (d.sys.coreRunning && d.runs 15 && e != 15 && (st == 1 || st == 2 || st == 3)) fun d => d.engineFails e

/-- The load of a failed engine from the bank it ran has ended (20 R512). -/
def Device.reloadDone (d : Device) (e : Nat) (ok : Bool) : Device := if ok then d.dutiesBack e else d.retireB e

/-- The load of an update has ended (20 R509, R510); NE's write has been answered before.
DEDUCED 143 (notes/assumptions). -/
def Device.updateDone (d : Device) (e : Nat) (ok : Bool) : Device :=
  match (d.engine e).load with
  | none => d
  | some (bank, path) =>
    let d := d.modEngine e fun x => { x with load := none }
    let reply := fun (st : Nat) (d : Device) => d.when (e != 13) fun d => d.answer path (0xA030 + e) 1 st 0 []
    if ok then
      let d := ((d.modEngine e fun x => { x with bank := bank }).showEngine e).dutiesBack e
      reply 0 ((d.bootBankNow (engineClass e)).raiseD 85 (engineSource e) 0x0C04 [])
    else reply 0x0818 ((d.dutiesBack e).raiseC 85 (engineSource e) 0x0C01 [])

/-- ENGINE_LOAD_DONE (20 R509, R512); `ok`: the engine passes its self-test. -/
def execEngineLoadDone (e : Fin 16) (ok : Bool) (s : State) : Host.Outcome State Fault Refusal :=
  s.run fun d => d.when (d.sys.coreRunning && d.runs 15) fun d =>
    if d.get (O.engineState e) = 4 then d.reloadDone e ok
    else if d.get (O.engineState e) = 6 then d.updateDone e ok
    else d

/-- PACKAGE_VERIFY_DONE (20 R505). -/
def execPackageVerifyDone (s : State) : Host.Outcome State Fault Refusal :=
  s.run fun d => d.when d.sys.coreRunning fun d => d.verifyDone

/-- PACKAGE_INSTALL_DONE (20 R506); `ok`: the bank reads back right. The copy ends only while MRAM is written (01 R24). -/
def execPackageInstallDone (ok : Bool) (s : State) : Host.Outcome State Fault Refusal :=
  s.run fun d => d.when (d.sys.coreRunning && !d.sys.brownOut) fun d => d.installDone ok

end Sys2Proof.Machine
end

