-- ==== Sys2Proof/Machine/Network.lean ====
section
/-! DEFINITION. The commands of the field network: frames of the Ihlinevo Object Protocol, the operations of accepted
requests, timers of sessions and notifications, and the ports (15 R376–R403). A frame command stands for a frame with a
correct FCS on port `p` from the MAC `mac`; `h` is the session that its SESSION field names, under whose key its tag
verifies. -/

namespace Sys2Proof.Machine

/-- IOP_OPEN (15 R384, R387, R403). `tag`: whether the tag verifies under the key of the slot.
DESIGN CHOICE 160; DEDUCED 94, 95 (notes/assumptions). -/
def execIopOpen (p : Fin 2) (mac : BitVec 48) (slot mode : Byte) (nonce : List Byte) (tag : OpenTag)
    (s : State) : Host.Outcome State Fault Refusal :=
  s.run fun d => d.when (d.portHears p) fun d =>
    let d := d.portHeard p
    match d.slotKey slot.toNat with
    | some key =>
      if tag.verified then
        let d := d.bump (O.netRxFrames p)
        let nh := fit 16 nonce
        if d.openCopy slot.toNat nh then d else d.openSession p mac.toNat slot.toNat mode key nh
      else (d.tagError p tag.second).bump O.openFailures
    | none => d.bump O.openFailures

/-- IOP_OPEN_ACK (15 R387, R400): the answer to the OPEN of this controller's own entry `h`. RESULT 1 leaves the next
attempt to PEER_SESSION_OPEN.
DEDUCED 98 (notes/assumptions). -/
def execIopOpenAck (h : Fin 16) (p : Fin 2) (mac : BitVec 48) (id : BitVec 32) (result mode : Byte) (nonceC nonceH : List Byte)
    (s : State) : Host.Outcome State Fault Refusal :=
  s.run fun d => d.sessionFrame h p mac.toNat fun d =>
    let x := d.session h
    let slot := d.getN (O.sessionKeySlot h)
    d.when (d.get (O.sessionState h) == 1 && x.opener && fit 16 nonceH == x.nonce) fun d =>
      if result = 0 then
        let key := sessionKey ((d.slotKey slot).getD []) x.nonce (fit 16 nonceC) id.toNat
        let d := d.modSession h fun x => { x with key := key, port := p }
        let dual : Nat := if mode.getLsbD 1 then 2 else 0
        let d := (d.set (O.sessionId h) id.toNat).set (O.sessionMode h) (b2i (mode.getLsbD 0) + dual + 4)
        (d.sendNew h 3 []).sessionOpens h
      else d.freeSession h

/-- IOP_CONFIRM (15 R387, R388): the first one opens the session, a copy on the other port binds its MAC. -/
def execIopConfirm (h : Fin 16) (p : Fin 2) (mac : BitVec 48) (s : State) : Host.Outcome State Fault Refusal :=
  s.run fun d => d.when (!(d.session h).opener) fun d =>
    d.sessionFrame h p mac.toNat fun d =>
      d.replay h 1 (fun d => d.bump (O.portDuplicates p)) fun d => d.when (d.get (O.sessionState h) == 1) fun d => d.sessionOpens h

/-- IOP_REQUEST (15 R389–R391, R393). `soon`: the cached RESPONSE of this SEQ has been sent again within the last 5 ms.
DESIGN CHOICE 108, 160 (notes/assumptions). -/
def execIopRequest (h : Fin 16) (p : Fin 2) (mac : BitVec 48) (seq : BitVec 32) (fence retry soon : Bool) (body : List Byte)
    (s : State) : Host.Outcome State Fault Refusal :=
  s.run fun d => d.when (d.get (O.sessionState h) == 2) fun d =>
    d.sessionFrame h p mac.toNat fun d =>
      d.replay h seq.toNat
        (fun d => if retry then d.retryRequest h seq.toNat soon else d.bump (O.portDuplicates p))
        fun d => d.acceptRequest h seq.toNat fence body

/-- OP_READ (15 R392, R394). -/
def execOpRead (h : Fin 16) (seq : BitVec 32) (i : Fin 16) (s : State) : Host.Outcome State Fault Refusal :=
  s.run fun d => d.startOp h seq.toNat i fun o d =>
    match o with
    | .read ix sb =>
      let r := d.readObject h ix.toNat sb.toNat
      r.2.2.opDone h seq.toNat i r.1 r.2.1
    | _ => d

/-- OP_WRITE (15 R392): the checks and the apply class of the object; its answer is the operation's result. -/
def execOpWrite (h : Fin 16) (seq : BitVec 32) (i : Fin 16) (stored : Bool) (s : State) : Host.Outcome State Fault Refusal :=
  s.run fun d => d.startOp h seq.toNat i fun o d =>
    match o with
    | .write ix sb v =>
      (d.modOp h seq.toNat i fun o => { o with started := true }).writeObject h ix.toNat sb.toNat v stored
    | _ => d

/-- OP_NOP (15 R388, R391). -/
def execOpNop (h : Fin 16) (seq : BitVec 32) (i : Fin 16) (s : State) : Host.Outcome State Fault Refusal :=
  s.run fun d => d.startOp h seq.toNat i fun o d =>
    match o with
    | .nop => d.opDone h seq.toNat i 0 []
    | _ => d

/-- OP_WAIT (15 R397): refused, or started; a condition that holds already completes it at once.
DEDUCED 102 (notes/assumptions). -/
def execOpWait (h : Fin 16) (seq : BitVec 32) (i : Fin 16) (s : State) : Host.Outcome State Fault Refusal :=
  s.run fun d => d.startOp h seq.toNat i fun o d =>
    match o with
    | .wait ix sb _ _ t =>
      match d.waitBad ix.toNat sb.toNat t with
      | 0 => (d.modOp h seq.toNat i fun o => { o with started := true }).waitEnds h seq.toNat i
      | c => d.opDone h seq.toNat i c []
    | _ => d

/-- WAIT_COMPLETE (15 R397). -/
def execWaitComplete (h : Fin 16) (seq : BitVec 32) (i : Fin 16) (s : State) : Host.Outcome State Fault Refusal :=
  s.run fun d => d.waitEnds h seq.toNat i

/-- WAIT_TIMEOUT (15 R397): the timer does not run while the owner of the object publishes "retrying" (14 R364). -/
def execWaitTimeout (h : Fin 16) (seq : BitVec 32) (i : Fin 16) (s : State) : Host.Outcome State Fault Refusal :=
  s.run fun d => d.pendingWait h seq.toNat i fun index _ _ r =>
    match ownerBlock index with
    | some b => if d.retryingNow b then d else r.2.2.opDone h seq.toNat i 0x0815 r.2.1
    | none => r.2.2.opDone h seq.toNat i 0x0815 r.2.1

/-- IOP_NOTIFY_ACK (15 R399).
DESIGN CHOICE 108 (notes/assumptions). -/
def execIopNotifyAck (h : Fin 16) (p : Fin 2) (mac : BitVec 48) (seq acked : BitVec 32) (s : State) :
    Host.Outcome State Fault Refusal :=
  s.run fun d => d.openFrame h p mac.toNat seq.toNat fun d =>
    (d.modSession h fun x => { x with unacked := x.unacked.filter fun n => n.seq != acked.toNat }).pumpNotify h

/-- IOP_CLOSE (15 R388, R403): its reason changes nothing. -/
def execIopClose (h : Fin 16) (p : Fin 2) (mac : BitVec 48) (seq : BitVec 32) (_reason : Byte) (s : State) :
    Host.Outcome State Fault Refusal :=
  s.run fun d => d.openFrame h p mac.toNat seq.toNat fun d => d.freeSession h

/-- IOP_BAD_FRAME (15 R383, R384): `second` numbers the 1 s interval of the crystal from power-on.
DESIGN CHOICE 103 (notes/assumptions). -/
def execIopBadFrame (p : Fin 2) (second : Nat) (s : State) : Host.Outcome State Fault Refusal :=
  s.run fun d => d.when (d.portHears p) fun d => (d.portHeard p).tagError p second

/-- FOREIGN_FRAME (15 R379, R381).
DESIGN CHOICE 103 (notes/assumptions). -/
def execForeignFrame (p : Fin 2) (s : State) : Host.Outcome State Fault Refusal :=
  s.run fun d => d.when (d.portHears p) fun d => (d.portHeard p).bump (O.foreignFrames p)

/-- FCS_ERROR_FRAME (15 R381). -/
def execFcsErrorFrame (p : Fin 2) (s : State) : Host.Outcome State Fault Refusal :=
  s.run fun d => d.when (d.portHears p) fun d => d.bump (O.fcsErrors p)

/-- COLLISION (15 R378, R382): a measurement in progress is void, and repeated once.
DESIGN CHOICE 104 (notes/assumptions). -/
def execCollision (p : Fin 2) (s : State) : Host.Outcome State Fault Refusal :=
  s.run fun d => d.when (d.portHears p) fun d =>
    let d := d.bump (O.collisions p)
    let x := d.netPort p
    d.when x.measuring fun d =>
      if x.repeated then d.modNetPort p fun x => { x with measuring := false }
      else (d.modNetPort p fun x => { x with repeated := true }).emit (.medium p 382)

/-- Distance to a reflection in 0.1 m, from the time of the pulse there and back in ps (15 R382): at VelocityFactor of the
299 792 458 m/s of light. -/
def Device.segmentDistance (d : Device) (p echo : Nat) : Int :=
  min 0xFFFE (quant (q15 (d.get (O.velocityFactor p)) * 299792458 * (echo : Rat) / 200000000000))

/-- SEGMENT_MEASURE_DONE (15 R382): the time to the strongest reflection and back, none without a valid result.
DESIGN CHOICE 104 (notes/assumptions). -/
def execSegmentMeasureDone (p : Fin 2) (echo : Option Nat) (fault : Fin 3) (s : State) :
    Host.Outcome State Fault Refusal :=
  s.run fun d => d.when (d.portHears p && (d.netPort p).measuring) fun d =>
    let d := d.modNetPort p fun x => { x with measuring := false }
    (d.set (O.segmentLength p) (match echo with
      | some t => d.segmentDistance p t
      | none => 0xFFFF)).set (O.segmentFault p) fault

/-- BEACON_LOSS (15 R378): a follower falls back; a coordinator never does. -/
def execBeaconLoss (p : Fin 2) (s : State) : Host.Outcome State Fault Refusal :=
  s.run fun d =>
    let x := d.netPort p
    d.when (d.portHears p && decide (1 ≤ x.id) && decide (x.id ≤ 31) && !x.fellBack) fun d =>
      ((d.modNetPort p fun x => { x with fellBack := true }).bump (O.beaconLosses p)).portUpdate p

/-- BEACON_RECEIVED (15 R378). -/
def execBeaconReceived (p : Fin 2) (s : State) : Host.Outcome State Fault Refusal :=
  s.run fun d => d.when (d.portHears p && (d.netPort p).fellBack) fun d =>
    (d.modNetPort p fun x => { x with fellBack := false }).portUpdate p

/-- PORT_SILENT (15 R379). -/
def execPortSilent (p : Fin 2) (s : State) : Host.Outcome State Fault Refusal :=
  s.run fun d => d.when (d.portHears p && !(d.netPort p).silent) fun d =>
    (d.modNetPort p fun x => { x with silent := true }).portUpdate p

/-- SESSION_CONFIRM_TIMEOUT (15 R387). -/
def execSessionConfirmTimeout (h : Fin 16) (s : State) : Host.Outcome State Fault Refusal :=
  s.run fun d => d.when (d.get (O.sessionState h) == 1) fun d => d.freeSession h

/-- SESSION_IDLE_CLOSE (15 R388): a pending WAIT keeps the session open. -/
def execSessionIdleClose (h : Fin 16) (s : State) : Host.Outcome State Fault Refusal :=
  s.run fun d =>
    let waits := (d.session h).requests.any fun r => r.ops.any fun o => o.op.isWait && o.started && o.result.isNone
    d.when (d.get (O.sessionState h) == 2 && !waits) fun d => d.closeSession h 2

/-- NOTIFY_RETRY (15 R399): sent again with the same SEQ and RETRY set; after NotifyRetries times dropped. -/
def execNotifyRetry (h : Fin 16) (seq : BitVec 32) (s : State) : Host.Outcome State Fault Refusal :=
  s.run fun d => d.when (d.get (O.sessionState h) == 2) fun d =>
    match (d.session h).unacked.find? fun n => n.seq == seq.toNat with
    | some n =>
      if (n.tries : Int) < d.get O.notifyRetries then
        (d.modSession h fun x =>
          { x with unacked := x.unacked.map fun n => if n.seq = seq.toNat then { n with tries := n.tries + 1 } else n }).sendIop
            h 0x20 2 n.seq n.body
      else
        ((d.modSession h fun x => { x with unacked := x.unacked.filter fun n => n.seq != seq.toNat }).bump
          (O.notifyDropped h)).pumpNotify h
    | none => d

/-- PEER_SESSION_OPEN (15 R380, R400): the controller with the lower ShelfId sends OPEN on the connected ports whose port
objects have been applied, and takes an entry for it. An earlier attempt of the entry that is not yet open is given up.
DEDUCED 98 (notes/assumptions). -/
def execPeerSessionOpen (i : Fin 16) (s : State) : Host.Outcome State Fault Refusal :=
  s.run fun d =>
    let slot := d.getN (O.peerKeySlot i)
    let ports := [0, 1].filter fun p => d.portHears p && d.connected p && d.applied p
    d.when (d.peerSet i && decide (d.get O.shelfId < d.get (O.peerShelfId i)) && d.get (O.peerSession i) == 0xFF &&
        !ports.isEmpty) fun d =>
      match d.slotKey slot with
      | some key =>
        let d := d.forAll (List.range 16) fun s d =>
          d.when ((d.session s).opener && (d.session s).peer == some i.val && d.get (O.sessionState s) == 1) fun d => d.freeSession s
        match d.freeEntry with
        | some e =>
          let nh := fit 16 (Config.randomBytes d.free 16)
          let x := { Session.reset with peer := some i.val, opener := true, port := ports.getD 0 0, nonce := nh
                                        macs := [(0, d.peerMac i 0), (1, d.peerMac i 1)] }
          let d := d.used.enterSession e 0 slot 6 x
          d.forAll ports fun p d => d.sendFrame p (d.peerMac i p) key 1 0 0 0 (leBytes 1 slot ++ [2, 0, 0] ++ nh)
        | none => d
      | none => d

end Sys2Proof.Machine
end

