-- ==== Sys2Proof/Machine/Patrol.lean ====
section
/-! DEFINITION. The patrol scrubbers and what becomes of a burst that cannot be corrected (18 R450–R453). -/

namespace Sys2Proof.Machine

/-- Bursts of MRAM (18 R458).
DEDUCED 126 (notes/assumptions). -/
def mramBursts : Nat := 131072

/-- A class-C event of a memory (18 R453): source 0 MRAM, 1 DDR4. -/
def Device.burstEvent (d : Device) (mram : Bool) : Device := d.raiseC 82 (if mram then 0 else 1) 0x0B02 []

/-- A lane is cut at a broken link after its n-th item: the items beyond are lost, their cells reclaimed at the next
check (18 R453, R468).
DEDUCED 125 (notes/assumptions). -/
def Device.cutLane (d : Device) (q n : Nat) : Device :=
  let lost := ((d.lane q).items.drop n).length
  ((d.modLane q fun l => { l with items := l.items.take n }).bumpBy (O.damaged q) lost).bumpBy (O.lostItems q) lost

/-- The learned record in a slot is invalid (09 R263). -/
def Device.spoilLearned (d : Device) (n j : Nat) : Device :=
  d.modMram fun m => { m with learned := modAt m.learned (2 * n + j) fun l => { l with damaged := true } }

/-- A bank is marked invalid; class B where no valid image of the class remains (18 R453). -/
def Device.spoilImage (d : Device) (c n : Nat) : Device :=
  let d := (d.modBanks c fun b =>
    if n = 0 then { b with bank0 := { b.bank0 with valid := false } } else { b with bank1 := { b.bank1 with valid := false } }).showBanks c
  if (d.banks c).bank0.valid || (d.banks c).bank1.valid then d.burstEvent true else d.raiseB 82 0 0x0B02 []

/-- An uncorrectable burst by the region that it lies in (18 R453). The bytes of a damaged split are free values.
DESIGN CHOICE 31, 127; DEDUCED 125 (notes/assumptions). -/
def Device.burstLost (d : Device) (mram : Bool) (r : Region) : Device :=
  match r with
  | .laneCell q i =>
    (d.modLane q fun l => { l with items := modAt l.items i fun x => { x with damaged := true } }).raiseC 82 (0x0100 + q) 0x0B02 []
  | .laneLink q n => (d.cutLane q n).raiseC 82 (0x0100 + q) 0x0B02 []
  | .history lap =>
    let bytes := leBytes 512 d.freeVal
    (d.used.modMem fun m => { m with history := m.history.map fun h => if h.1 = lap then (h.1, bytes) else h }).burstEvent false
  | .capture i =>
    (d.when ((d.pfSlot i).state != 0) fun d => d.modPf i fun x => { x with state := 4 }).burstEvent false
  | .ledger => ({ d with ledger := { d.ledger with frozen := true } }).raiseA 79 0 0x0B02 []
  | .learned n b => (d.spoilLearned n (if b then 1 else 0)).burstEvent true
  | .journal key =>
    let d := d.when (d.mram.store.any fun e => e.1 == key) fun d => match keyObj key with
      | some (o, _) => d.storeAnswer [(key, d.get o)] none true
      | none => d
    d.burstEvent true
  | .record pos => (d.modMram fun m => { m with log := modAt m.log pos fun x => { x with damaged := true } }).burstEvent true
  | .image c b => d.spoilImage c (if b then 1 else 0)
  | .key slot => (d.keyNow slot none).burstEvent true
  | .other => d.burstEvent mram

/-- A burst at a byte address can hold a region: MRAM by the map of 18 R458, with record i at 64·i (19 R473); the lanes,
the history and the captures in DDR4. -/
def regionLies (r : Region) (mram : Bool) (adr : Nat) : Bool :=
  let within := fun (lo hi : Nat) => mram && decide (lo ≤ adr) && decide (adr ≤ hi)
  match r with
  | .laneCell _ _ => !mram
  | .laneLink _ _ => !mram
  | .history _ => !mram
  | .capture _ => !mram
  | .record pos => mram && adr == 64 * pos
  | .image _ _ => within 0x400000 0x5FFFFF
  | .journal _ => within 0x600000 0x7DFFFF
  | .ledger => within 0x7E0000 0x7EFFFF
  | .learned _ _ => within 0x7F0000 0x7F7FFF
  | .key _ => within 0x7F8000 0x7FFFFF
  | .other => true

/-- The 64 data bytes of a burst: of a record as it is laid out; elsewhere no rule places the bytes in bursts, and they
are a free value. The decoder's finding does not depend on them.
DESIGN CHOICE 155 (notes/assumptions). -/
def Device.burstData (d : Device) (r : Region) : List Byte :=
  match r with
  | .record pos => match d.mram.recordAt pos with
    | some x => x.bytes
    | none => leBytes 64 d.freeVal
  | _ => leBytes 64 d.freeVal

/-- What a read finds of a burst: its stored codewords, changed in the symbols that `upset` names (01 R17, 18 R450). -/
def Device.burstSeen (d : Device) (r : Region) (upset : List Byte) : List Byte :=
  List.zipWith (· ^^^ ·) (encodeBurst (d.burstData r)) upset

/-- A burst that has been read: corrected and written back, or lost (18 R451–R453).
DESIGN CHOICE 155 (notes/assumptions). -/
def Device.burstRead (d : Device) (mram : Bool) (adr : Nat) (burst : List Byte) (holds : Region) (inSecond : Nat) : Device :=
  match decodeBurst burst with
  | .clean => d
  | .corrected _ _ =>
    let shown : Nat := adr + if mram then 2 ^ 63 else 0
    ((d.bump (if mram then O.correctedMram else O.correctedDdr)).set O.lastCorrectedAddress shown).raiseC 82 (if mram then 0 else 1) 0x0B01
      (leBytes 8 adr)
  | .uncorrectable =>
    let d := (d.bump (if mram then O.uncorrectableMram else O.uncorrectableDdr)).burstLost mram holds
    d.when (!mram && d.get O.ddrState == 2 && decide (16 ≤ inSecond)) fun d => d.setDdr 4

/-- PATROL_SCRUB (18 R452): the next burst of a patrol, what it holds, and by what its 72 bytes differ from the codewords
stored; `inSecond`: uncorrectable bursts of DDR4 in the last second, this one with them (18 R448).
DESIGN CHOICE 155; DEDUCED 126 (notes/assumptions). -/
def execPatrolScrub (mram : Bool) (upset : List Byte) (holds : Region) (inSecond : Nat) (s : State) :
    Host.Outcome State Fault Refusal :=
  s.run fun d => d.when (d.sys.coreRunning && (mram || d.get O.ddrState == 2)) fun d =>
    let i := if mram then d.mem.patrolMram else d.mem.patrolDdr
    let n := if mram then mramBursts else (ddrBytes (d.get O.memDensity) / 64).toNat
    let next := patrolNext i n
    let d := d.modMem fun m => if mram then { m with patrolMram := next.1 } else { m with patrolDdr := next.1 }
    let d := d.when next.2 fun d => d.bump (if mram then O.mramScrubPasses else O.patrolPasses)
    let r := if regionLies holds mram (i * 64) then holds else .other
    d.burstRead mram (i * 64) (d.burstSeen r upset) r inSecond

end Sys2Proof.Machine
end

