-- ==== Sys2Proof/Machine/Power.lean ====
section
/-! DEFINITION. The commands of supplies, clocks and resets (01 R14, R18, R20, R24, 09 R260, 20 R497–R499, 21 R520–R524). -/

namespace Sys2Proof.Machine

/-- AON_POWER_UP (17 R432, R440): VAON comes inside its operating conditions; the address pins are sampled.
DESIGN CHOICE 6 (notes/assumptions). -/
def execAonPowerUp (pins : Fin 8) (s : State) : Host.Outcome State Fault Refusal :=
  s.run fun d => d.when (!d.sys.vaon) fun d =>
    { d with sys := { d.sys with vaon := true, brownOut := false }, aon := { Aon.reset with address := 0x68 + pins } }

/-- POWER_ON (20 R498, R499): the power-on reset of VDD is released.
DESIGN CHOICE 6 (notes/assumptions). -/
def execPowerOn (m : PowerUp) (s : State) : Host.Outcome State Fault Refusal :=
  s.run fun d => d.when (!d.sys.vdd && d.sys.vaon) fun d =>
    { d with aon := { d.aon with address := 0x68 + m.pins } }.powerOn m

/-- VDD_RESET (20 R497, 21 R523): the reset cause is a brown-out where its warning stands.
DEDUCED 135 (notes/assumptions). -/
def execVddReset (s : State) : Host.Outcome State Fault Refusal :=
  s.run fun d => d.when d.sys.vdd fun d => d.intoReset (if d.sys.brownOut then 1 else 0)

/-- AON_LOSS (21 R523): the AON domain keeps nothing. -/
def execAonLoss (s : State) : Host.Outcome State Fault Refusal :=
  s.run fun d => d.when d.sys.vaon fun d =>
    let d := d.intoReset 1
    { d with aon := Aon.reset, sys := { d.sys with vaon := false, brownOut := false } }

/-- WATCHDOG_RESET (17 R434, 19 R484).
DEDUCED 135 (notes/assumptions). -/
def execWatchdogReset (s : State) : Host.Outcome State Fault Refusal :=
  s.run fun d => d.when d.sys.coreRunning fun d => d.intoReset 2

/-- BROWNOUT_WARNING (01 R24, 21 R523): MRAM writes not yet started are deferred from here on.
DESIGN CHOICE 149 (notes/assumptions). -/
def execBrownoutWarning (s : State) : Host.Outcome State Fault Refusal :=
  s.run fun d => d.when d.sys.vaon fun d => { d with sys := { d.sys with brownOut := true } }

/-- A deferred write is made (01 R24, 16 R421).
DEDUCED 110 (notes/assumptions). -/
def Device.makeDeferred (d : Device) : Deferred → Device
  | .store es who => d.storeAnswer es who true
  | .restore es who => d.restoreAnswer es who true
  | .write path key bs => match keyObj key with
    | some (o, k) => d.writeNow path o k bs true
    | none => d
  | .count n => (d.modMram fun x => { x with powerOnCount := n }).set O.powerOnCount n
  | .gdLoad => d.gdLoaded

/-- The deferred writes of MRAM, in their order, each with its answer (01 R24, 16 R421), and a switch of a boot bank that
has waited (20 R510).
DEDUCED 110 (notes/assumptions). -/
def Device.storeDeferred (d : Device) : Device :=
  let l := d.dict.deferred
  let d := { d with dict := { d.dict with deferred := [] } }
  (l.foldl Device.makeDeferred d).forAll (List.range 7) fun c d => d.bootBankNow c

/-- BROWNOUT_CLEAR (01 R24, 09 R260, R263): the deferred writes are made at once, and the write-backs while GE runs. -/
def execBrownoutClear (s : State) : Host.Outcome State Fault Refusal :=
  s.run fun d => d.when (d.sys.vaon && d.sys.brownOut) fun d =>
    let d := { d with sys := { d.sys with brownOut := false } }
    d.when d.sys.coreRunning fun d => (d.storeDeferred.when (d.runs engGE) Device.writeBacksDue)

/-- A supply leaves its operating conditions: VDD, every PWMn is held at mid (03 R83); VDDA, every gate drive pin is held
low: the tray gates open without a trip, and the ideal-diode gates are forced OFF with bit 3 of ForceOffCause (06 R170,
R178).
DEDUCED 184 (notes/assumptions). -/
def Device.supplyActs (d : Device) (rail : Nat) : Device :=
  match rail with
  | 0 => d.modPins fun p => { p with pwm := p.pwm.map fun _ => .mid }
  | 1 => (d.forAll (List.range 16) fun k d => d.tgDriveOff k).forAll (List.range 6) fun g d => d.gateForce g 3
  | _ => d

/-- SUPPLY_OUT_OF_RANGE (21 R520): rails 0 VDD, 1 VDDA, 2 VDDQ, 3 VDDIO, 4 VAON.
DESIGN CHOICE 149 (notes/assumptions). -/
def execSupplyOutOfRange (rail : Fin 5) (s : State) : Host.Outcome State Fault Refusal :=
  s.run fun d => d.when (d.sys.coreRunning && !d.sys.outOfRange.contains (rail.val + 1)) fun d =>
    let d := { d with sys := { d.sys with outOfRange := (rail.val + 1) :: d.sys.outOfRange } }
    (d.supplyActs rail).raiseC 86 (rail.val + 1) 0x0C06 []

/-- SUPPLY_IN_RANGE (14 R359, 21 R520): the condition has cleared; with VDDA back the requests of the ideal-diode gates
take effect again (06 R165).
DESIGN CHOICE 149 (notes/assumptions). -/
def execSupplyInRange (rail : Fin 5) (s : State) : Host.Outcome State Fault Refusal :=
  s.run fun d =>
    let d := { d with sys := { d.sys with outOfRange := d.sys.outOfRange.filter fun r => r != rail.val + 1 } }
    d.when (d.sys.coreRunning && rail.val == 1) fun d => d.forAll (List.range 6) fun g d => d.gateRelease g 3

/-- CRYSTAL_FAILURE (01 R20). -/
def execCrystalFailure (s : State) : Host.Outcome State Fault Refusal :=
  s.run fun d => d.when d.sys.coreRunning fun d => d.raiseA 86 0 0x0C05 []

/-- GD_LOCKSTEP_MISMATCH (01 R14). -/
def execGdLockstepMismatch (s : State) : Host.Outcome State Fault Refusal :=
  s.run fun d => d.when d.sys.coreRunning fun d => d.raiseA 85 (engineSource 15) 0x0C01 []

/-- AON_RECALIBRATION (01 R18): once per second while CORE runs.
DESIGN CHOICE 156 (notes/assumptions). -/
def execAonRecalibration (s : State) : Host.Outcome State Fault Refusal :=
  s.run fun d => d.when d.sys.coreRunning fun d => { d with sys := { d.sys with aonCalibrated := true } }

end Sys2Proof.Machine
end

