-- ==== Sys2Proof/Machine/Recorder.lean ====
section
/-! DEFINITION. Commands of the recorder and the photo finish that nothing writes (19 R477–R490). -/

namespace Sys2Proof.Machine

/-- RECORD_WRITE (19 R477–R481): the next event of the queue has its turn. During a brown-out warning no record is
started (01 R24). -/
def execRecordWrite (s : State) : Host.Outcome State Fault Refusal :=
  s.next fun d => d.when (d.sys.coreRunning && d.runs engBE && !d.sys.brownOut) Device.recordTurn

/-- FREEZE_TIMEOUT (19 R480): released, with event 0x000B. -/
def execFreezeTimeout (s : State) : Host.Outcome State Fault Refusal :=
  s.run fun d => d.when (d.sys.coreRunning && d.flag O.frozen) fun d => d.unfreeze.raiseD 83 0 0x000B []

/-- CLEAR_CHALLENGE_EXPIRY (19 R486): 60 s after the draw. -/
def execClearChallengeExpiry (s : State) : Host.Outcome State Fault Refusal :=
  s.next fun d => d.setChallenge none

/-- PF_FRAME (19 R488, R490): the latest conversions of the listed inputs, as 12-bit codes in list order. -/
def execPfFrame (words : List Nat) (s : State) : Host.Outcome State Fault Refusal :=
  s.next fun d => d.when (d.sys.coreRunning && d.runs engBE && d.get O.ddrState == 2) fun d =>
    let i := d.getN O.liveSlot
    let now := d.now
    let f := (now, ((words ++ List.replicate 64 0).take (d.pfSlot i).channels.length).map fun w => w % 4096)
    match d.getN O.pfState with
    | 1 =>
      let n := d.getN O.pfPreFrames
      d.modPf i fun x => { x with pre := (x.pre ++ [f]).drop (x.pre.length + 1 - n) }
    | 2 => d.when (decide ((d.pfSlot i).post.length < d.getN O.pfPostFrames)) fun d =>
        d.modPf i fun x => { x with post := x.post ++ [f] }
    | _ => d

/-- PF_CAPTURE_FROZEN (19 R490): the last post-trigger frame has been written. -/
def execPfCaptureFrozen (s : State) : Host.Outcome State Fault Refusal :=
  s.run fun d => d.when (d.sys.coreRunning && d.runs engBE && d.get O.pfState == 2 &&
      decide (d.getN O.pfPostFrames ≤ (d.pfSlot (d.getN O.liveSlot)).post.length)) fun d =>
    let i := d.getN O.liveSlot
    let d := (((d.modPf i fun x => { x with state := 3 }).bump O.captures).set O.pfState 0).set O.liveSlot 0xFF
    d.when (d.flag O.pfEnable && d.flag O.pfAutoRearm) Device.pfArm

end Sys2Proof.Machine
end

