-- ==== Sys2Proof/Machine/Timebase.lean ====
section
/-! DEFINITION. Commands of the angle engine: samples, presence, lock and deviation (02 R31–R42). -/

namespace Sys2Proof.Machine

/-- LINE_SAMPLE (02 R32): the SV10 conversion at angle 32k of the present lap, with LA, LB and LC, and the line phase. -/
def execLineSample (k : Fin 2048) (a b c : LinePhase) (phi : BitVec 16) (s : State) : Host.Outcome State Fault Refusal :=
  s.run fun d =>
    let t := d.lap * 65536 + 32 * k.val
    let fresh := match d.tb.lastSample with
      | some l => decide (l < k.val)
      | none => true
    d.when (d.sys.coreRunning && fresh && decide (d.now ≤ t)) fun d =>
      let d := (d.toStamp t).modTb fun x =>
        { x with lastSample := some k.val, lineInputs := [a.v, b.v, c.v, a.i, b.i, c.i] }
      d.when d.aeTracks fun d => d.lineSample k (a.v - b.v) (b.v - c.v) (c.v - a.v) phi.toNat

/-- LINE_LOSS (02 R33, R34, 10 R268 b1, R282): every sample of the loss dwell lay below LossLevel. The word is frozen at
the mean of the last 16 lap frequencies measured with the line present; with fewer it is the mean of those, with none
the word in force.
DESIGN CHOICE 170 (notes/assumptions). -/
def execLineLoss (s : State) : Host.Outcome State Fault Refusal :=
  s.run fun d => d.when (d.aeTracks && d.tb.linePresent && decide (1 ≤ d.tb.belowRun) &&
      decide (d.getN O.lossDwell ≤ 32 * (d.tb.belowRun - 1))) fun d =>
    let st := d.get O.timebaseState
    let d := (d.modTb fun t => { t with linePresent := false, lapPresent := false }).bump O.lineLosses
    let d := d.when (st == 2 || st == 3) fun d =>
      (d.toTimebase 1).modTb fun t =>
        let f := if t.seenFreqs.isEmpty then t.freq else mean t.seenFreqs / 1000
        { t with freq := f, freqI := f }
    (d.returnCancel).dropout 1 d.now

/-- LINE_PRESENT (02 R33, R34): a full lap at or above ReturnLevel, on an AC line inside 45–66 Hz. Where the lap of
samples spans a boundary, the frequency tested is that of the last completed lap.
DESIGN CHOICE 171 (notes/assumptions). -/
def execLinePresent (s : State) : Host.Outcome State Fault Refusal :=
  s.run fun d => d.when (d.aeTracks && !d.tb.linePresent && decide (2048 ≤ d.tb.aboveRun) &&
      (d.tb.dcTest || inLineRange d.tb.lapFreq)) fun d =>
    let d := d.modTb fun t => { t with linePresent := true, freqs := [], qualFreqs := [] }
    d.when (!d.tb.dcTest && (d.get O.timebaseState == 0 || d.get O.timebaseState == 1)) Device.enterRelock

/-- HOLDOVER_EXPIRED (02 R34): the hold-over laps have elapsed. -/
def execHoldoverExpired (s : State) : Host.Outcome State Fault Refusal :=
  s.run fun d => d.when (d.aeTracks && d.get O.timebaseState == 1 && 
      decide (d.tb.holdFrom + d.getN O.holdoverLaps * 65536 ≤ d.now)) fun d =>
    d.toTimebase 0

/-- LOCK_ACHIEVED (02 R34): the lock threshold held at every sample of the lock laps. -/
def execLockAchieved (s : State) : Host.Outcome State Fault Refusal :=
  s.run fun d => d.when (d.aeTracks && d.get O.timebaseState == 2 && decide (d.getN O.lockLaps * 2048 ≤ d.tb.lockRun)) fun d =>
    d.toTimebase 3

/-- LOCK_LOST (02 R34, 01 R21): four times the lock threshold was exceeded at every sample of a lap; the loss of lock is
recorded as class D, with a code that 19 R476 does not give.
DESIGN CHOICE 169 (notes/assumptions). -/
def execLockLost (s : State) : Host.Outcome State Fault Refusal :=
  s.run fun d => d.when (d.aeTracks && d.get O.timebaseState == 3 && d.tb.linePresent && decide (2048 ≤ d.tb.unlockRun))
    Device.lockLostNow

/-- ROTATION_CHANGE (02 R31): negative sequence in 16 consecutive laps with the line present. -/
def execRotationChange (s : State) : Host.Outcome State Fault Refusal :=
  s.run fun d => d.when (d.aeTracks && decide (16 ≤ d.tb.negRun)) fun d =>
    (d.set O.rotation (1 - d.get O.rotation)).modTb fun t => { t with negRun := 0 }

/-- DEV_START (02 R42, 10 R271, R282): K consecutive samples outside the window.
DESIGN CHOICE 67 (notes/assumptions). -/
def execDevStart (s : State) : Host.Outcome State Fault Refusal :=
  s.run fun d => d.when (d.aeTracks && d.flag O.templateValid && d.tb.dev.isNone &&
      decide (d.getN O.devCount ≤ d.tb.outRun)) fun d =>
    let x := runStamps (d.getN O.devCount) d.tb.outStamps
    let d := ((d.modTb fun t => { t with dev := some x, splitDev := true }).bump O.devStarts).edge 118
    d.returnCancel.holdDev x.1

/-- DEV_END (02 R42, 10 R268–R275): K consecutive samples inside the window after a DEV_START. A confirmation by angle
whose stamp is not later than the K-th sample comes first.
DEDUCED 29 (notes/assumptions). -/
def execDevEnd (s : State) : Host.Outcome State Fault Refusal :=
  s.run fun d => match d.tb.dev with
    | none => d
    | some x => d.when (d.aeTracks && d.flag O.templateValid && decide (d.getN O.devCount ≤ d.tb.inRun)) fun d =>
      let t := x.1 + d.getN O.confirmAngle
      let d := d.when (decide (t ≤ d.now)) fun d => d.dropout 0 t
      let y := runStamps (d.getN O.devCount) d.tb.inStamps
      let d := (d.devEnds y.2).modTb fun b => { b with dev := none, devEnd := some y }
      d.edge 119

end Sys2Proof.Machine
end

