-- ==== Sys2Proof/Machine/Writes.lean ====
section
/-! DEFINITION. The write commands: each is a write of its object through a path, with every check and effect of
the dictionary (16 R411–R421) and of the chapter that its row names. -/

namespace Sys2Proof.Machine

/-- A write of bytes to an object through a path. -/
def State.writeBytes (s : State) (path : Fin 17) (o : Obj) (bs : List Byte) : Host.Outcome State Fault Refusal :=
  s.run fun d => d.hostWrite path o.index o.sub bs true

/-- A write of a value to an object through a path. -/
def State.write (s : State) (path : Fin 17) (o : Obj) (v : Int) : Host.Outcome State Fault Refusal :=
  s.writeBytes path o (o.ty.encode v)

/-- LINE_TRACK_ENABLE (02 R28). -/
def execLineTrackEnable (path : Fin 17) (s : State) : Host.Outcome State Fault Refusal :=
  s.write path O.lineTrackEnable 1

/-- LINE_TRACK_DISABLE (02 R34). -/
def execLineTrackDisable (path : Fin 17) (s : State) : Host.Outcome State Fault Refusal :=
  s.write path O.lineTrackEnable 0

/-- TEMPLATE_RESET (02 R41). -/
def execTemplateReset (path : Fin 17) (s : State) : Host.Outcome State Fault Refusal :=
  s.write path O.templateReset 1

/-- SCHEDULER_SLOT_WRITE (02 R46). -/
def execSchedulerSlotWrite (path : Fin 17) (slot : Fin 64) (word : BitVec 64) (s : State) :
    Host.Outcome State Fault Refusal :=
  s.write path (if slot.val < 8 then O.systemSlot slot else O.slotWord slot) word.toNat

/-- RECT_ENABLE (07 R192). -/
def execRectEnable (path : Fin 17) (s : State) : Host.Outcome State Fault Refusal :=
  s.write path O.rectEnable 1

/-- RECT_DISABLE (07 R192). -/
def execRectDisable (path : Fin 17) (s : State) : Host.Outcome State Fault Refusal :=
  s.write path O.rectEnable 0

/-- SLOT_ENABLE (07 R189). -/
def execSlotEnable (r : Fin 32) (path : Fin 17) (s : State) : Host.Outcome State Fault Refusal :=
  s.write path (O.slotEnable r) 1

/-- SLOT_DISABLE (07 R192). -/
def execSlotDisable (r : Fin 32) (path : Fin 17) (s : State) : Host.Outcome State Fault Refusal :=
  s.write path (O.slotEnable r) 0

/-- GROUP_ENABLE (07 R208). -/
def execGroupEnable (b : Bool) (path : Fin 17) (s : State) : Host.Outcome State Fault Refusal :=
  s.write path (if b then O.groupEnableB else O.groupEnableA) 1

/-- GROUP_DISABLE (07 R208). -/
def execGroupDisable (b : Bool) (path : Fin 17) (s : State) : Host.Outcome State Fault Refusal :=
  s.write path (if b then O.groupEnableB else O.groupEnableA) 0

/-- RECT_ACK (07 R205). -/
def execRectAck (r : Fin 32) (path : Fin 17) (s : State) : Host.Outcome State Fault Refusal :=
  s.write path (O.rectAck r) 1

/-- READMIT (03 R82). -/
def execReadmit (n : Fin 96) (path : Fin 17) (s : State) : Host.Outcome State Fault Refusal :=
  s.write path (O.readmit n) 1

/-- PHASE_MAP_WRITE (03 R57). -/
def execPhaseMapWrite (k : Fin 16) (path : Fin 17) (map : List Byte) (s : State) : Host.Outcome State Fault Refusal :=
  s.writeBytes path (O.phaseMap k) map

/-- FEED_ENABLE (04 R112). -/
def execFeedEnable (k : Fin 16) (path : Fin 17) (s : State) : Host.Outcome State Fault Refusal :=
  s.write path (O.feedEnable k) 1

/-- FEED_DISABLE (04 R113). -/
def execFeedDisable (k : Fin 16) (path : Fin 17) (s : State) : Host.Outcome State Fault Refusal :=
  s.write path (O.feedEnable k) 0

/-- TARGET_VOLTAGE_WRITE (04 R95). -/
def execTargetVoltageWrite (k : Fin 16) (path : Fin 17) (mv : BitVec 16) (s : State) : Host.Outcome State Fault Refusal :=
  s.write path (O.targetVoltage k) mv.toNat

/-- ZFL_LINK_ENABLE_WRITE (05 R146). -/
def execZflLinkEnableWrite (k : Fin 16) (path : Fin 17) (on : Bool) (s : State) : Host.Outcome State Fault Refusal :=
  s.write path (O.linkEnable k) (b2i on)

/-- TG_ACK (06 R163). -/
def execTgAck (k : Fin 16) (path : Fin 17) (s : State) : Host.Outcome State Fault Refusal :=
  s.write path (O.tgAck k) 1

/-- TG_ENABLE (06 R157). -/
def execTgEnable (k : Fin 16) (path : Fin 17) (s : State) : Host.Outcome State Fault Refusal :=
  s.write path (O.tgEnable k) 1

/-- TG_DISABLE (06 R160). -/
def execTgDisable (k : Fin 16) (path : Fin 17) (s : State) : Host.Outcome State Fault Refusal :=
  s.write path (O.tgEnable k) 0

/-- GATE_REQUEST_DIODE (06 R165). -/
def execGateRequestDiode (g : Fin 6) (path : Fin 17) (vak : Int) (s : State) : Host.Outcome State Fault Refusal :=
  s.run fun d => d.when (d.mayWrite path (O.gateRequest g).index 1) fun d =>
    let d := { d with diodes := modAt d.diodes g fun x => { x with vak := some ((vak : Rat) / 1000) } }
    let d := d.hostWrite path (O.gateRequest g).index 1 [1] true
    { d with diodes := modAt d.diodes g fun x => { x with vak := none } }

/-- GATE_REQUEST_OFF (06 R165). -/
def execGateRequestOff (g : Fin 6) (path : Fin 17) (s : State) : Host.Outcome State Fault Refusal :=
  s.write path (O.gateRequest g) 0

/-- GATE_ACK (06 R171). -/
def execGateAck (g : Fin 6) (path : Fin 17) (s : State) : Host.Outcome State Fault Refusal :=
  s.write path (O.gateAck g) 1

/-- STRING_ACK (08 R219). -/
def execStringAck (n : Fin 4) (path : Fin 17) (s : State) : Host.Outcome State Fault Refusal :=
  s.write path (O.stringAck n) 1

/-- STRING_ENABLE (08 R218). -/
def execStringEnable (n : Fin 4) (path : Fin 17) (s : State) : Host.Outcome State Fault Refusal :=
  s.write path (O.stringEnable n) 1

/-- STRING_DISABLE (08 R237). -/
def execStringDisable (n : Fin 4) (path : Fin 17) (s : State) : Host.Outcome State Fault Refusal :=
  s.write path (O.stringEnable n) 0

/-- CHARGE_ENABLE (08 R227). -/
def execChargeEnable (path : Fin 17) (on : Bool) (s : State) : Host.Outcome State Fault Refusal :=
  s.write path O.chargeEnable (b2i on)

/-- FORGET_LEARNED (09 R261). -/
def execForgetLearned (n : Fin 4) (path : Fin 17) (s : State) : Host.Outcome State Fault Refusal :=
  s.write path (O.forgetLearned n) 1

/-- HOLDUP_ENABLE (10 R285). -/
def execHoldupEnable (path : Fin 17) (on : Bool) (s : State) : Host.Outcome State Fault Refusal :=
  s.write path O.holdupEnable (b2i on)

/-- TRANSFER_OFFER (11 R306). -/
def execTransferOffer (path : Fin 17) (data : List Byte) (s : State) : Host.Outcome State Fault Refusal :=
  s.writeBytes path O.transferOffer data

/-- TRANSFER_WITHDRAW (11 R306). -/
def execTransferWithdraw (path : Fin 17) (id : BitVec 64) (s : State) : Host.Outcome State Fault Refusal :=
  s.write path O.transferWithdraw id.toNat

/-- ESCROW_RETURN (11 R306). -/
def execEscrowReturn (path : Fin 17) (id : BitVec 64) (s : State) : Host.Outcome State Fault Refusal :=
  s.writeBytes path O.escrowResolve (leBytes 8 id.toNat ++ [0, 0, 0, 0])

/-- ESCROW_SETTLE (11 R306). -/
def execEscrowSettle (path : Fin 17) (id : BitVec 64) (s : State) : Host.Outcome State Fault Refusal :=
  s.writeBytes path O.escrowResolve (leBytes 8 id.toNat ++ [1, 0, 0, 0])

/-- ESCROW_RELEASE (11 R306). -/
def execEscrowRelease (path : Fin 17) (id : BitVec 64) (s : State) : Host.Outcome State Fault Refusal :=
  s.writeBytes path O.escrowResolve (leBytes 8 id.toNat ++ [2, 0, 0, 0])

/-- ESCROW_DROP (11 R306). -/
def execEscrowDrop (path : Fin 17) (id : BitVec 64) (s : State) : Host.Outcome State Fault Refusal :=
  s.writeBytes path O.escrowResolve (leBytes 8 id.toNat ++ [3, 0, 0, 0])

/-- LEDGER_ADJUST (11 R306). -/
def execLedgerAdjust (path : Fin 17) (amount : BitVec 32) (s : State) : Host.Outcome State Fault Refusal :=
  s.write path O.ledgerAdjust amount.toInt

/-- LEDGER_ACK (11 R291). -/
def execLedgerAck (path : Fin 17) (s : State) : Host.Outcome State Fault Refusal :=
  s.write path O.ledgerAck 1

/-- SEQ_POWER_UP (12 R322). -/
def execSeqPowerUp (path : Fin 17) (s : State) : Host.Outcome State Fault Refusal :=
  s.write path O.seqEnable 1

/-- SEQ_POWER_DOWN (12 R323). -/
def execSeqPowerDown (path : Fin 17) (s : State) : Host.Outcome State Fault Refusal :=
  s.write path O.seqEnable 0

/-- SEQ_ACK (12 R325). -/
def execSeqAck (path : Fin 17) (s : State) : Host.Outcome State Fault Refusal :=
  s.write path O.seqAck 1

/-- WINDOW_CLEAR (13 R344). -/
def execWindowClear (u : Fin 64) (path : Fin 17) (s : State) : Host.Outcome State Fault Refusal :=
  s.write path (O.clear u) 1

/-- LATCH_CLEAR_MASK_WRITE (13 R344). -/
def execLatchClearMaskWrite (path : Fin 17) (mask : BitVec 64) (s : State) : Host.Outcome State Fault Refusal :=
  s.write path O.latchClearMask mask.toNat

/-- EDGE_CLEAR (13 R345). -/
def execEdgeClear (u : Fin 8) (path : Fin 17) (flags : Byte) (s : State) : Host.Outcome State Fault Refusal :=
  s.write path (O.edgeClear u) flags.toNat

/-- ROUTE_HOLD (13 R347). -/
def execRouteHold (u : Fin 64) (path : Fin 17) (hold : Bool) (s : State) : Host.Outcome State Fault Refusal :=
  s.write path (O.routeHold u) (b2i hold)

/-- ROUTER_ENABLE (13 R351). -/
def execRouterEnable (path : Fin 17) (s : State) : Host.Outcome State Fault Refusal :=
  s.write path O.routerEnable 1

/-- FAULT_ACK (14 R361). -/
def execFaultAck (b : Fin 96) (path : Fin 17) (s : State) : Host.Outcome State Fault Refusal :=
  s.write path (O.faultAck b) 1

/-- SEGMENT_MEASURE (15 R382). -/
def execSegmentMeasure (p : Fin 2) (path : Fin 17) (s : State) : Host.Outcome State Fault Refusal :=
  s.write path (O.segmentMeasure p) 1

/-- WALL_CLOCK_SYNC (15 R401). -/
def execWallClockSync (path : Fin 17) (pair : List Byte) (s : State) : Host.Outcome State Fault Refusal :=
  s.writeBytes path O.wallClockSync pair

/-- KEY_WRITE (15 R386). -/
def execKeyWrite (slot : Fin 8) (path : Fin 17) (key : List Byte) (s : State) : Host.Outcome State Fault Refusal :=
  s.writeBytes path (O.key slot) key

/-- KEY_CLEAR (15 R386). -/
def execKeyClear (slot : Fin 8) (path : Fin 17) (s : State) : Host.Outcome State Fault Refusal :=
  s.write path (O.keyClear slot) 1

/-- RIGHTS_WRITE (15 R386). -/
def execRightsWrite (slot : Fin 8) (path : Fin 17) (rights : BitVec 16) (s : State) : Host.Outcome State Fault Refusal :=
  s.write path (O.rights slot) rights.toNat

/-- STAGING_BEGIN (16 R417). -/
def execStagingBegin (path : Fin 17) (s : State) : Host.Outcome State Fault Refusal :=
  s.write path O.commit 1

/-- STAGING_COMMIT (16 R418). -/
def execStagingCommit (path : Fin 17) (s : State) : Host.Outcome State Fault Refusal :=
  s.write path O.commit 2

/-- STAGING_DISCARD (16 R417). -/
def execStagingDiscard (path : Fin 17) (s : State) : Host.Outcome State Fault Refusal :=
  s.write path O.commit 3

/-- FENCE (15 R395). -/
def execFence (path : Fin 17) (value : Byte) (s : State) : Host.Outcome State Fault Refusal :=
  s.write path O.fence value.toNat

/-- SNAPSHOT_CAPTURE (16 R427). -/
def execSnapshotCapture (path : Fin 17) (value : Byte) (s : State) : Host.Outcome State Fault Refusal :=
  s.write path O.snapshotFence value.toNat

/-- FACTORY_RESTORE (16 R424). -/
def execFactoryRestore (path : Fin 17) (value : BitVec 32) (s : State) : Host.Outcome State Fault Refusal :=
  s.write path O.factoryRestore value.toNat

/-- PUSH_SEGMENT (18 R464). -/
def execPushSegment (q : Fin 128) (path : Fin 17) (data : List Byte) (s : State) : Host.Outcome State Fault Refusal :=
  s.writeBytes path (O.pushSegment q) data

/-- LANE_CLAIM (18 R465). -/
def execLaneClaim (q : Fin 128) (path : Fin 17) (s : State) : Host.Outcome State Fault Refusal :=
  s.write path (O.claim q) 1

/-- LANE_RELEASE (18 R465). -/
def execLaneRelease (q : Fin 128) (path : Fin 17) (seq : BitVec 32) (s : State) : Host.Outcome State Fault Refusal :=
  s.write path (O.release q) seq.toNat

/-- LANE_FLUSH (18 R470). -/
def execLaneFlush (q : Fin 128) (path : Fin 17) (s : State) : Host.Outcome State Fault Refusal :=
  s.write path (O.laneEnable q) 0

/-- FREEZE (19 R480). -/
def execFreeze (path : Fin 17) (s : State) : Host.Outcome State Fault Refusal :=
  s.write path O.freeze 1

/-- UNFREEZE (19 R480). -/
def execUnfreeze (path : Fin 17) (s : State) : Host.Outcome State Fault Refusal :=
  s.write path O.freeze 0

/-- CLEAR_KEY_WRITE (19 R485). -/
def execClearKeyWrite (path : Fin 17) (key : List Byte) (s : State) : Host.Outcome State Fault Refusal :=
  s.writeBytes path O.clearKey key

/-- CLEAR_REQUEST (19 R486). -/
def execClearRequest (path : Fin 17) (s : State) : Host.Outcome State Fault Refusal :=
  s.write path O.clearRequest 1

/-- CLEAR_RESPONSE (19 R486, R487). -/
def execClearResponse (path : Fin 17) (mac : List Byte) (s : State) : Host.Outcome State Fault Refusal :=
  s.writeBytes path O.clearResponse mac

/-- PF_TRIGGER (19 R490). -/
def execPfTrigger (path : Fin 17) (s : State) : Host.Outcome State Fault Refusal :=
  s.write path O.pfTrigger 1

/-- PF_ENABLE (19 R490). -/
def execPfEnable (path : Fin 17) (s : State) : Host.Outcome State Fault Refusal :=
  s.write path O.pfEnable 1

/-- PF_DISABLE (19 R490). -/
def execPfDisable (path : Fin 17) (s : State) : Host.Outcome State Fault Refusal :=
  s.write path O.pfEnable 0

/-- PF_RELEASE (19 R492). -/
def execPfRelease (path : Fin 17) (slot : Byte) (s : State) : Host.Outcome State Fault Refusal :=
  s.write path O.pfRelease slot.toNat

/-- STANDBY_REQUEST (20 R500). -/
def execStandbyRequest (path : Fin 17) (s : State) : Host.Outcome State Fault Refusal :=
  s.write path O.standbyRequest 1

/-- PACKAGE_WRITE (20 R505). -/
def execPackageWrite (path : Fin 17) (data : List Byte) (s : State) : Host.Outcome State Fault Refusal :=
  s.writeBytes path O.packageWrite data

/-- PACKAGE_VERIFY (20 R505). -/
def execPackageVerify (path : Fin 17) (s : State) : Host.Outcome State Fault Refusal :=
  s.write path O.packageVerify 1

/-- PACKAGE_INSTALL (20 R506). -/
def execPackageInstall (path : Fin 17) (s : State) : Host.Outcome State Fault Refusal :=
  s.write path O.packageInstall 1

/-- PACKAGE_DISCARD (20 R505). -/
def execPackageDiscard (path : Fin 17) (s : State) : Host.Outcome State Fault Refusal :=
  s.write path O.packageDiscard 1

/-- ENGINE_UPDATE (20 R509). -/
def execEngineUpdate (e : Fin 16) (path : Fin 17) (bank : Byte) (s : State) : Host.Outcome State Fault Refusal :=
  s.write path (O.engineUpdate e) bank.toNat

/-- ENGINE_RETIRE (20 R512). -/
def execEngineRetire (e : Fin 16) (path : Fin 17) (s : State) : Host.Outcome State Fault Refusal :=
  s.write path (O.engineRetire e) 1

/-- PAIR_MOVE (20 R507). -/
def execPairMove (path : Fin 17) (data : List Byte) (s : State) : Host.Outcome State Fault Refusal :=
  s.writeBytes path O.pairMove data

/-- SWAP_LAP (20 R507). -/
def execSwapLap (path : Fin 17) (lap : BitVec 64) (s : State) : Host.Outcome State Fault Refusal :=
  s.write path O.swapLap lap.toNat

/-- OBJECT_WRITE (16 R411): a write of any object. -/
def execObjectWrite (path : Fin 17) (index : BitVec 16) (sub : Byte) (data : List Byte) (stored : Bool) (s : State) :
    Host.Outcome State Fault Refusal :=
  s.run fun d => d.hostWrite path index.toNat sub.toNat data stored

/-- STAGING_TIMEOUT (16 R417): a set without a write for StagingTimeout is discarded.
DESIGN CHOICE 116 (notes/assumptions). -/
def execStagingTimeout (s : State) : Host.Outcome State Fault Refusal :=
  s.run fun d => d.when (d.sys.coreRunning && d.dict.staged.isSome) Device.discardNow

end Sys2Proof.Machine
end

