-- ==== Sys2Proof/Machine/Dispatch.lean ====
section
/-! DEFINITION. One arm per command of the table: the call of its meaning. -/

namespace Sys2Proof.Machine

/-- The effect of a command on everything but the queue. -/
def exec (i : Instr) (s : State) : Host.Outcome State Fault Refusal :=
  match i with
  | .powerOn m => Sys2Proof.Machine.execPowerOn m s
  | .vddReset => Sys2Proof.Machine.execVddReset s
  | .brownoutWarning => Sys2Proof.Machine.execBrownoutWarning s
  | .brownoutClear => Sys2Proof.Machine.execBrownoutClear s
  | .aonLoss => Sys2Proof.Machine.execAonLoss s
  | .supplyOutOfRange rail => Sys2Proof.Machine.execSupplyOutOfRange rail s
  | .crystalFailure => Sys2Proof.Machine.execCrystalFailure s
  | .gdLockstepMismatch => Sys2Proof.Machine.execGdLockstepMismatch s
  | .aonRecalibration => Sys2Proof.Machine.execAonRecalibration s
  | .lapBoundary m => Sys2Proof.Machine.execLapBoundary m s
  | .lineSample k a b c phi => Sys2Proof.Machine.execLineSample k a b c phi s
  | .lineLoss => Sys2Proof.Machine.execLineLoss s
  | .linePresent => Sys2Proof.Machine.execLinePresent s
  | .holdoverExpired => Sys2Proof.Machine.execHoldoverExpired s
  | .lockAchieved => Sys2Proof.Machine.execLockAchieved s
  | .lockLost => Sys2Proof.Machine.execLockLost s
  | .rotationChange => Sys2Proof.Machine.execRotationChange s
  | .devStart => Sys2Proof.Machine.execDevStart s
  | .devEnd => Sys2Proof.Machine.execDevEnd s
  | .lineTrackEnable path => Sys2Proof.Machine.execLineTrackEnable path s
  | .lineTrackDisable path => Sys2Proof.Machine.execLineTrackDisable path s
  | .templateReset path => Sys2Proof.Machine.execTemplateReset path s
  | .schedulerSlotWrite path slot word => Sys2Proof.Machine.execSchedulerSlotWrite path slot word s
  | .slotFire slot m => Sys2Proof.Machine.execSlotFire slot m s
  | .pmbusTransactionDone p sda reply => Sys2Proof.Machine.execPmbusTransactionDone p sda reply s
  | .pmbusClockTimeout p sclLow => Sys2Proof.Machine.execPmbusClockTimeout p sclLow s
  | .pmbusStuckRetry p sda => Sys2Proof.Machine.execPmbusStuckRetry p sda s
  | .rectProbe r => Sys2Proof.Machine.execRectProbe r s
  | .rectAddTimeout r => Sys2Proof.Machine.execRectAddTimeout r s
  | .rectShedRampEnd r => Sys2Proof.Machine.execRectShedRampEnd r s
  | .rectRetryDelayEnd r => Sys2Proof.Machine.execRectRetryDelayEnd r s
  | .rectEnable path => Sys2Proof.Machine.execRectEnable path s
  | .rectDisable path => Sys2Proof.Machine.execRectDisable path s
  | .slotEnable r path => Sys2Proof.Machine.execSlotEnable r path s
  | .slotDisable r path => Sys2Proof.Machine.execSlotDisable r path s
  | .groupEnable b path => Sys2Proof.Machine.execGroupEnable b path s
  | .groupDisable b path => Sys2Proof.Machine.execGroupDisable b path s
  | .rectAck r path => Sys2Proof.Machine.execRectAck r path s
  | .triggerFire k dt rearmed => Sys2Proof.Machine.execTriggerFire k dt rearmed s
  | .pulseEnd n dt iStart iEnd => Sys2Proof.Machine.execPulseEnd n dt iStart iEnd s
  | .currentLimitTrip n dt => Sys2Proof.Machine.execCurrentLimitTrip n dt s
  | .hiccupEntry k => Sys2Proof.Machine.execHiccupEntry k s
  | .hiccupRestart k => Sys2Proof.Machine.execHiccupRestart k s
  | .recoveryComplete k => Sys2Proof.Machine.execRecoveryComplete k s
  | .deEntry k => Sys2Proof.Machine.execDeEntry k s
  | .deExit k => Sys2Proof.Machine.execDeExit k s
  | .zeroCurrentDetect n dt => Sys2Proof.Machine.execZeroCurrentDetect n dt s
  | .floorPulse k dt rearmed => Sys2Proof.Machine.execFloorPulse k dt rearmed s
  | .prestartTestPass k => Sys2Proof.Machine.execPrestartTestPass k s
  | .prestartTestFail k positions => Sys2Proof.Machine.execPrestartTestFail k positions s
  | .openPhase n => Sys2Proof.Machine.execOpenPhase n s
  | .imonRangeFault n => Sys2Proof.Machine.execImonRangeFault n s
  | .sumCheckJudgement k => Sys2Proof.Machine.execSumCheckJudgement k s
  | .capacityLimit k mean => Sys2Proof.Machine.execCapacityLimit k mean s
  | .readmit n path => Sys2Proof.Machine.execReadmit n path s
  | .phaseMapWrite k path map => Sys2Proof.Machine.execPhaseMapWrite k path map s
  | .loopSample k dt vfb iF vbus imon => Sys2Proof.Machine.execLoopSample k dt vfb iF vbus imon s
  | .reached k => Sys2Proof.Machine.execReached k s
  | .shedStart k => Sys2Proof.Machine.execShedStart k s
  | .drainComplete k => Sys2Proof.Machine.execDrainComplete k s
  | .phaseAdd k => Sys2Proof.Machine.execPhaseAdd k s
  | .stepEsWindowClose k => Sys2Proof.Machine.execStepEsWindowClose k s
  | .feedEnable k path => Sys2Proof.Machine.execFeedEnable k path s
  | .feedDisable k path => Sys2Proof.Machine.execFeedDisable k path s
  | .stopComplete k => Sys2Proof.Machine.execStopComplete k s
  | .targetVoltageWrite k path mv => Sys2Proof.Machine.execTargetVoltageWrite k path mv s
  | .startTimeout k => Sys2Proof.Machine.execStartTimeout k s
  | .outputOv k => Sys2Proof.Machine.execOutputOv k s
  | .outputUv k => Sys2Proof.Machine.execOutputUv k s
  | .senseOpen k => Sys2Proof.Machine.execSenseOpen k s
  | .busOutOfRange k => Sys2Proof.Machine.execBusOutOfRange k s
  | .busRestart k => Sys2Proof.Machine.execBusRestart k s
  | .transferCommit same => Sys2Proof.Machine.execTransferCommit same s
  | .engineFailure e => Sys2Proof.Machine.execEngineFailure e s
  | .zflSetVoltage k seq payload => Sys2Proof.Machine.execZflSetVoltage k seq payload s
  | .zflHint k seq payload => Sys2Proof.Machine.execZflHint k seq payload s
  | .zflQuery k seq payload => Sys2Proof.Machine.execZflQuery k seq payload s
  | .zflIdle k seq payload => Sys2Proof.Machine.execZflIdle k seq payload s
  | .zflTrayAck k seq payload => Sys2Proof.Machine.execZflTrayAck k seq payload s
  | .zflCorruptFrame k => Sys2Proof.Machine.execZflCorruptFrame k s
  | .zflAlert k => Sys2Proof.Machine.execZflAlert k s
  | .zflBeat k => Sys2Proof.Machine.execZflBeat k s
  | .zflTurnMissed k => Sys2Proof.Machine.execZflTurnMissed k s
  | .zflNoticeTimeout k => Sys2Proof.Machine.execZflNoticeTimeout k s
  | .zflTrainingStart k => Sys2Proof.Machine.execZflTrainingStart k s
  | .zflTrainingComplete k tap => Sys2Proof.Machine.execZflTrainingComplete k tap s
  | .zflTrainingRetry k => Sys2Proof.Machine.execZflTrainingRetry k s
  | .zflLinkEnableWrite k path on => Sys2Proof.Machine.execZflLinkEnableWrite k path on s
  | .presenceQualified k => Sys2Proof.Machine.execPresenceQualified k s
  | .presenceLoss k => Sys2Proof.Machine.execPresenceLoss k s
  | .insertDelayMet k => Sys2Proof.Machine.execInsertDelayMet k s
  | .inrushStart k => Sys2Proof.Machine.execInrushStart k s
  | .inrushDone k samples => Sys2Proof.Machine.execInrushDone k samples s
  | .inrushTimeout m => Sys2Proof.Machine.execInrushTimeout m s
  | .tgShort k => Sys2Proof.Machine.execTgShort k s
  | .foldbackEntry k => Sys2Proof.Machine.execFoldbackEntry k s
  | .foldbackTimeout k => Sys2Proof.Machine.execFoldbackTimeout k s
  | .tgOpenNoTrip k window => Sys2Proof.Machine.execTgOpenNoTrip k window s
  | .cooldownEnd k => Sys2Proof.Machine.execCooldownEnd k s
  | .tgRetryReset k => Sys2Proof.Machine.execTgRetryReset k s
  | .tgAck k path => Sys2Proof.Machine.execTgAck k path s
  | .tgEnable k path => Sys2Proof.Machine.execTgEnable k path s
  | .tgDisable k path => Sys2Proof.Machine.execTgDisable k path s
  | .gateRequestDiode g path vak => Sys2Proof.Machine.execGateRequestDiode g path vak s
  | .gateRequestOff g path => Sys2Proof.Machine.execGateRequestOff g path s
  | .prechargeDone g => Sys2Proof.Machine.execPrechargeDone g s
  | .prechargeTimeout g => Sys2Proof.Machine.execPrechargeTimeout g s
  | .reverseTurnOff g => Sys2Proof.Machine.execReverseTurnOff g s
  | .diodeTurnOn g => Sys2Proof.Machine.execDiodeTurnOn g s
  | .dropFault g => Sys2Proof.Machine.execDropFault g s
  | .bankShorted g => Sys2Proof.Machine.execBankShorted g s
  | .gateAck g path => Sys2Proof.Machine.execGateAck g path s
  | .busBarMeasure step m => Sys2Proof.Machine.execBusBarMeasure step m s
  | .stringQualified w => Sys2Proof.Machine.execStringQualified w s
  | .identityReadDone n sync rest => Sys2Proof.Machine.execIdentityReadDone n sync rest s
  | .identityReread n => Sys2Proof.Machine.execIdentityReread n s
  | .stringRemoval w => Sys2Proof.Machine.execStringRemoval w s
  | .chargerFire n dt c mean => Sys2Proof.Machine.execChargerFire n dt c mean s
  | .chargerWindowTrip o => Sys2Proof.Machine.execChargerWindowTrip o s
  | .chargerFault n => Sys2Proof.Machine.execChargerFault n s
  | .chargerSenseFault n => Sys2Proof.Machine.execChargerSenseFault n s
  | .qualifyPass n => Sys2Proof.Machine.execQualifyPass n s
  | .qualifyTimeout n => Sys2Proof.Machine.execQualifyTimeout n s
  | .chargeEndEvaluation n v therm => Sys2Proof.Machine.execChargeEndEvaluation n v therm s
  | .backupStop n causes => Sys2Proof.Machine.execBackupStop n causes s
  | .topoffEnd n => Sys2Proof.Machine.execTopoffEnd n s
  | .recharge n => Sys2Proof.Machine.execRecharge n s
  | .cutoff n => Sys2Proof.Machine.execCutoff n s
  | .cutoffRelease n => Sys2Proof.Machine.execCutoffRelease n s
  | .stringAck n path => Sys2Proof.Machine.execStringAck n path s
  | .stringEnable n path => Sys2Proof.Machine.execStringEnable n path s
  | .stringDisable n path => Sys2Proof.Machine.execStringDisable n path s
  | .chargeEnable path on => Sys2Proof.Machine.execChargeEnable path on s
  | .gaugeSample n m => Sys2Proof.Machine.execGaugeSample n m s
  | .shuntOverloadEvent n => Sys2Proof.Machine.execShuntOverloadEvent n s
  | .kalmanStep v0 v1 v2 v3 => Sys2Proof.Machine.execKalmanStep v0 v1 v2 v3 s
  | .resistanceStep n old new => Sys2Proof.Machine.execResistanceStep n old new s
  | .restAnchor n v => Sys2Proof.Machine.execRestAnchor n v s
  | .disagreeSet n => Sys2Proof.Machine.execDisagreeSet n s
  | .disagreeClear n => Sys2Proof.Machine.execDisagreeClear n s
  | .forgetLearned n path => Sys2Proof.Machine.execForgetLearned n path s
  | .confirmAngleExpiry => Sys2Proof.Machine.execConfirmAngleExpiry s
  | .busDropout => Sys2Proof.Machine.execBusDropout s
  | .returnCommit => Sys2Proof.Machine.execReturnCommit s
  | .returnTimeout => Sys2Proof.Machine.execReturnTimeout s
  | .holdupEnable path on => Sys2Proof.Machine.execHoldupEnable path on s
  | .creditOffer fr sender receiver id amount => Sys2Proof.Machine.execCreditOffer fr sender receiver id amount s
  | .creditAccept fr sender receiver id => Sys2Proof.Machine.execCreditAccept fr sender receiver id s
  | .creditRefuse fr sender receiver id reason => Sys2Proof.Machine.execCreditRefuse fr sender receiver id reason s
  | .creditSettle fr sender receiver id => Sys2Proof.Machine.execCreditSettle fr sender receiver id s
  | .creditClose fr sender receiver id => Sys2Proof.Machine.execCreditClose fr sender receiver id s
  | .creditWithdraw fr sender receiver id amount => Sys2Proof.Machine.execCreditWithdraw fr sender receiver id amount s
  | .transferOffer path data => Sys2Proof.Machine.execTransferOffer path data s
  | .transferWithdraw path id => Sys2Proof.Machine.execTransferWithdraw path id s
  | .escrowReturn path id => Sys2Proof.Machine.execEscrowReturn path id s
  | .escrowSettle path id => Sys2Proof.Machine.execEscrowSettle path id s
  | .escrowRelease path id => Sys2Proof.Machine.execEscrowRelease path id s
  | .escrowDrop path id => Sys2Proof.Machine.execEscrowDrop path id s
  | .ledgerAdjust path amount => Sys2Proof.Machine.execLedgerAdjust path amount s
  | .ledgerAck path => Sys2Proof.Machine.execLedgerAck path s
  | .seqPowerUp path => Sys2Proof.Machine.execSeqPowerUp path s
  | .seqPowerDown path => Sys2Proof.Machine.execSeqPowerDown path s
  | .railStart r => Sys2Proof.Machine.execRailStart r s
  | .pgRise r => Sys2Proof.Machine.execPgRise r s
  | .railQualified r => Sys2Proof.Machine.execRailQualified r s
  | .pgFall r => Sys2Proof.Machine.execPgFall r s
  | .pgTimeout r => Sys2Proof.Machine.execPgTimeout r s
  | .railStopStep r => Sys2Proof.Machine.execRailStopStep r s
  | .dischargeTimeout r => Sys2Proof.Machine.execDischargeTimeout r s
  | .retryDelayEnd root => Sys2Proof.Machine.execRetryDelayEnd root s
  | .seqRetryCountReset root => Sys2Proof.Machine.execSeqRetryCountReset root s
  | .seqAck path => Sys2Proof.Machine.execSeqAck path s
  | .seqFltLow => Sys2Proof.Machine.execSeqFltLow s
  | .seqFltReleaseMet => Sys2Proof.Machine.execSeqFltReleaseMet s
  | .seqFltStuck => Sys2Proof.Machine.execSeqFltStuck s
  | .rstStretchDone j => Sys2Proof.Machine.execRstStretchDone j s
  | .windowDecision tick codes => Sys2Proof.Machine.execWindowDecision tick codes s
  | .routerTimerExpiry j => Sys2Proof.Machine.execRouterTimerExpiry j s
  | .evoPulseEnd j => Sys2Proof.Machine.execEvoPulseEnd j s
  | .windowClear u path => Sys2Proof.Machine.execWindowClear u path s
  | .latchClearMaskWrite path mask => Sys2Proof.Machine.execLatchClearMaskWrite path mask s
  | .edgeClear u path flags => Sys2Proof.Machine.execEdgeClear u path flags s
  | .routeHold u path hold => Sys2Proof.Machine.execRouteHold u path hold s
  | .routerEnable path => Sys2Proof.Machine.execRouterEnable path s
  | .faultAck b path => Sys2Proof.Machine.execFaultAck b path s
  | .faultNPulseEnd => Sys2Proof.Machine.execFaultNPulseEnd s
  | .thermalSample sample => Sys2Proof.Machine.execThermalSample sample s
  | .riseRateEvaluation => Sys2Proof.Machine.execRiseRateEvaluation s
  | .thermalShutdown => Sys2Proof.Machine.execThermalShutdown s
  | .thermalCoreStop => Sys2Proof.Machine.execThermalCoreStop s
  | .iopOpen p mac slot mode nonce tag => Sys2Proof.Machine.execIopOpen p mac slot mode nonce tag s
  | .iopOpenAck h p mac id result mode nonceC nonceH => Sys2Proof.Machine.execIopOpenAck h p mac id result mode nonceC nonceH s
  | .iopConfirm h p mac => Sys2Proof.Machine.execIopConfirm h p mac s
  | .iopRequest h p mac seq fence retry soon body => Sys2Proof.Machine.execIopRequest h p mac seq fence retry soon body s
  | .opRead h seq j => Sys2Proof.Machine.execOpRead h seq j s
  | .opWrite h seq j stored => Sys2Proof.Machine.execOpWrite h seq j stored s
  | .opNop h seq j => Sys2Proof.Machine.execOpNop h seq j s
  | .opWait h seq j => Sys2Proof.Machine.execOpWait h seq j s
  | .waitComplete h seq j => Sys2Proof.Machine.execWaitComplete h seq j s
  | .waitTimeout h seq j => Sys2Proof.Machine.execWaitTimeout h seq j s
  | .iopNotifyAck h p mac seq acked => Sys2Proof.Machine.execIopNotifyAck h p mac seq acked s
  | .iopClose h p mac seq reason => Sys2Proof.Machine.execIopClose h p mac seq reason s
  | .iopBadFrame p second => Sys2Proof.Machine.execIopBadFrame p second s
  | .foreignFrame p => Sys2Proof.Machine.execForeignFrame p s
  | .sessionConfirmTimeout h => Sys2Proof.Machine.execSessionConfirmTimeout h s
  | .sessionIdleClose h => Sys2Proof.Machine.execSessionIdleClose h s
  | .notifyRetry h seq => Sys2Proof.Machine.execNotifyRetry h seq s
  | .peerSessionOpen j => Sys2Proof.Machine.execPeerSessionOpen j s
  | .beaconLoss p => Sys2Proof.Machine.execBeaconLoss p s
  | .beaconReceived p => Sys2Proof.Machine.execBeaconReceived p s
  | .portSilent p => Sys2Proof.Machine.execPortSilent p s
  | .segmentMeasure p path => Sys2Proof.Machine.execSegmentMeasure p path s
  | .segmentMeasureDone p echo fault => Sys2Proof.Machine.execSegmentMeasureDone p echo fault s
  | .wallClockSync path pair => Sys2Proof.Machine.execWallClockSync path pair s
  | .keyWrite slot path key => Sys2Proof.Machine.execKeyWrite slot path key s
  | .keyClear slot path => Sys2Proof.Machine.execKeyClear slot path s
  | .rightsWrite slot path rights => Sys2Proof.Machine.execRightsWrite slot path rights s
  | .objectWrite path index sub data stored => Sys2Proof.Machine.execObjectWrite path index sub data stored s
  | .stagingBegin path => Sys2Proof.Machine.execStagingBegin path s
  | .stagingCommit path => Sys2Proof.Machine.execStagingCommit path s
  | .stagingDiscard path => Sys2Proof.Machine.execStagingDiscard path s
  | .stagingTimeout => Sys2Proof.Machine.execStagingTimeout s
  | .fence path value => Sys2Proof.Machine.execFence path value s
  | .snapshotCapture path value => Sys2Proof.Machine.execSnapshotCapture path value s
  | .factoryRestore path value => Sys2Proof.Machine.execFactoryRestore path value s
  | .mgmtWriteTransaction data => Sys2Proof.Machine.execMgmtWriteTransaction data s
  | .mgmtWake ns m => Sys2Proof.Machine.execMgmtWake ns m s
  | .wakeFailure => Sys2Proof.Machine.execWakeFailure s
  | .mgmtStuckRelease => Sys2Proof.Machine.execMgmtStuckRelease s
  | .windowOpRead => Sys2Proof.Machine.execWindowOpRead s
  | .windowOpWrite stored => Sys2Proof.Machine.execWindowOpWrite stored s
  | .windowOpDone => Sys2Proof.Machine.execWindowOpDone s
  | .alertCauseClear mask => Sys2Proof.Machine.execAlertCauseClear mask s
  | .fastStatusRefresh => Sys2Proof.Machine.execFastStatusRefresh s
  | .ddrTrainingDone ok => Sys2Proof.Machine.execDdrTrainingDone ok s
  | .ddrTrainingRetry => Sys2Proof.Machine.execDdrTrainingRetry s
  | .caParityError again => Sys2Proof.Machine.execCaParityError again s
  | .patrolScrub mram burst holds inSecond => Sys2Proof.Machine.execPatrolScrub mram burst holds inSecond s
  | .ddrRefresh => Sys2Proof.Machine.execDdrRefresh s
  | .zqCalibration => Sys2Proof.Machine.execZqCalibration s
  | .pushSegment q path data => Sys2Proof.Machine.execPushSegment q path data s
  | .laneClaim q path => Sys2Proof.Machine.execLaneClaim q path s
  | .laneRelease q path seq => Sys2Proof.Machine.execLaneRelease q path seq s
  | .laneFlush q path => Sys2Proof.Machine.execLaneFlush q path s
  | .laneIdle q => Sys2Proof.Machine.execLaneIdle q s
  | .recordWrite => Sys2Proof.Machine.execRecordWrite s
  | .freeze path => Sys2Proof.Machine.execFreeze path s
  | .unfreeze path => Sys2Proof.Machine.execUnfreeze path s
  | .freezeTimeout => Sys2Proof.Machine.execFreezeTimeout s
  | .clearKeyWrite path key => Sys2Proof.Machine.execClearKeyWrite path key s
  | .clearRequest path => Sys2Proof.Machine.execClearRequest path s
  | .clearResponse path mac => Sys2Proof.Machine.execClearResponse path mac s
  | .clearChallengeExpiry => Sys2Proof.Machine.execClearChallengeExpiry s
  | .pfFrame words => Sys2Proof.Machine.execPfFrame words s
  | .pfTrigger path => Sys2Proof.Machine.execPfTrigger path s
  | .pfCaptureFrozen => Sys2Proof.Machine.execPfCaptureFrozen s
  | .pfEnable path => Sys2Proof.Machine.execPfEnable path s
  | .pfDisable path => Sys2Proof.Machine.execPfDisable path s
  | .pfRelease path slot => Sys2Proof.Machine.execPfRelease path slot s
  | .autostartStep => Sys2Proof.Machine.execAutostartStep s
  | .autostartLockWaitExpiry => Sys2Proof.Machine.execAutostartLockWaitExpiry s
  | .bringupTimeout => Sys2Proof.Machine.execBringupTimeout s
  | .standbyRequest path => Sys2Proof.Machine.execStandbyRequest path s
  | .packageWrite path data => Sys2Proof.Machine.execPackageWrite path data s
  | .packageVerify path => Sys2Proof.Machine.execPackageVerify path s
  | .packageVerifyDone => Sys2Proof.Machine.execPackageVerifyDone s
  | .packageInstall path => Sys2Proof.Machine.execPackageInstall path s
  | .packageInstallDone ok => Sys2Proof.Machine.execPackageInstallDone ok s
  | .packageDiscard path => Sys2Proof.Machine.execPackageDiscard path s
  | .engineUpdate e path bank => Sys2Proof.Machine.execEngineUpdate e path bank s
  | .engineLoadDone e ok => Sys2Proof.Machine.execEngineLoadDone e ok s
  | .engineRetire e path => Sys2Proof.Machine.execEngineRetire e path s
  | .pairMove path data => Sys2Proof.Machine.execPairMove path data s
  | .swapLap path lap => Sys2Proof.Machine.execSwapLap path lap s
  | .zflUnknownType k type seq payload => Sys2Proof.Machine.execZflUnknownType k type seq payload s
  | .fcsErrorFrame p => Sys2Proof.Machine.execFcsErrorFrame p s
  | .collision p => Sys2Proof.Machine.execCollision p s
  | .foldbackRecovery k => Sys2Proof.Machine.execFoldbackRecovery k s
  | .seqFltRoutePulseEnd => Sys2Proof.Machine.execSeqFltRoutePulseEnd s
  | .seqFltRise => Sys2Proof.Machine.execSeqFltRise s
  | .aonPowerUp pins => Sys2Proof.Machine.execAonPowerUp pins s
  | .supplyInRange rail => Sys2Proof.Machine.execSupplyInRange rail s
  | .watchdogReset => Sys2Proof.Machine.execWatchdogReset s

end Sys2Proof.Machine
end

