-- ==== Sys2Proof/Machine/Step.lean ====
section
/-! DEFINITION. One step: the command at the front of the queue, or, with none waiting, one LINE tick. -/

namespace Sys2Proof.Machine

/-- A step.
DESIGN CHOICE 1, 5 (notes/assumptions). -/
def step (s : State) : Host.Outcome State Fault Refusal :=
  match s.pending with
  | [] => idleStep s
  | c :: rest => exec c { s with pending := rest }

/-- A command put at the front of the queue.
DESIGN CHOICE 1 (notes/assumptions). -/
def State.withCommand (s : State) (c : Instr) : State := { s with pending := c :: s.pending }

/-- The state with the command that a word spells at the front of its queue; unchanged where it spells none.
DESIGN CHOICE 1 (notes/assumptions). -/
def State.withFetchWord (s : State) (nbits w : Nat) : State :=
  match Sys2Proof.decodeTableWord nbits w with
  | some c => s.withCommand c
  | none => s

end Sys2Proof.Machine
end

