-- ==== Sys2Proof/Safety.lean ====
section
/-! DEFINITION. What the claims are stated in: an accepted write, the agreement of the driven lines with the state, the
identities that the chapters state, and what a change may touch. -/

namespace Sys2Proof.Machine

/-- A write that passes every check, is not taken into the staging set of its path and does not wait for the end of a
brown-out warning (16 R411, R417, R421, 15 R386, 01 R24). -/
def Device.accepts (d : Device) (path : Nat) (o : Obj) (k : Nat) (bs : List Byte) : Prop :=
  d.mayWrite path o.index o.sub = true ∧ ((o.access = .rws ∧ o.apply = .L) → d.stagedOf path = none) ∧
    d.writeBad path o k bs = 0 ∧ (d.sys.brownOut = false ∨ mramWrite o k (o.kept (o.ty.decode bs)) = false)

/-- The end of an accepted write of class L or Q: an RWS value is stored, then the write is answered (16 R409, R421). -/
def Device.written (d : Device) (path : Nat) (o : Obj) (v : Int) : Device :=
  if o.access = .rws then (d.markHost o.key).storeAnswer [(o.key, v)] (some (path, o.index, o.sub)) true
  else d.answer path o.index o.sub 0 0 []

/-- A verified frame of a session comes from the MAC that is bound on its port, and the port hears it (15 R379–R381,
R388). -/
def Device.bound (d : Device) (s p mac : Nat) : Prop :=
  d.portHears p = true ∧ d.get (O.sessionState s) ≠ 0 ∧
    (((d.portHeard p).session s).macs.find? fun m => m.1 == p) = some (p, mac)

/-- The block after such a frame has been received and counted. -/
def Device.heard (d : Device) (p : Nat) : Device := (d.portHeard p).bump (O.netRxFrames p)

/-- An operation of an outstanding request that may start: the path is open, the operation has neither started nor ended,
and no other one holds it back (15 R392–R396). -/
def Device.mayStart (d : Device) (s seq i : Nat) (op : Op) : Prop :=
  d.pathOpen s = true ∧ ∃ r, d.opAt s seq i = some (r, ⟨op, false, none⟩) ∧ d.held s r i ⟨op, false, none⟩ = false

/-- ALERT_N, FAULT_N and SEQ_FLT_N stand as their conditions say, and so do the two objects that show them (17 R441, 14
R368, 12 R333). -/
def Device.linesAgree (d : Device) : Prop :=
  d.pins.alertN = !d.alertNow ∧ d.pins.faultN = !d.faultNow ∧ d.pins.seqFltN = !d.seqFltNow ∧
    d.flag O.faultNLevel = !d.faultNow ∧ d.flag O.seqFltDriving = d.seqFltNow

/-- The identity of the recorder, with RepeatsTotal the sum of the repeats of the records held (19 R482). -/
def Mram.counted (m : Mram) : Prop :=
  m.raised = m.held + m.repeats + m.frozen + m.refused ∧ m.repeats = (m.log.map Record.repeats).sum

/-- The identity of a pool (18 R468). -/
def Device.poolAgrees (d : Device) (p : Nat) : Prop :=
  d.poolFree p + d.poolAllocated p + d.poolInFlight p = d.poolTotal p

/-- The identity of the ledger (11 R287). -/
def Book.balanced (b : Book) : Prop := b.allot = b.total

/-- Every value of the register file but those at some addresses is what it was. -/
def Device.keeps (d d' : Device) (but : List Nat) : Prop :=
  ∀ o : Obj, o.key ∉ but → d'.get o = d.get o

/-- Everything that an event's report leaves alone: it changes its fault block, the recorder, ALERT_N and FAULT_N, what
goes out to the sessions, and objects (14 R356, R363, R368, 15 R399, 19 R477). -/
def Device.unreported (d : Device) :=
  ((d.sys, d.aon, d.tb, d.cells, d.feeds, d.links, d.gates, d.diodes, d.bar),
    (d.ports, d.slots, d.bus, d.seq, d.router, d.therm, d.hold, d.strings), d.ledger, d.mem, d.enf, d.dict, d.pf, d.eng)

/-- A change that only reports. -/
def Device.onlyReports (d e : Device) : Prop := e.unreported = d.unreported

/-- The addresses of the two objects that show a driven line. -/
def lineKeys : List Nat := [O.faultNLevel.key, O.seqFltDriving.key]

/-- The pins but the three driven lines. -/
def Pins.butLines (p : Pins) : Pins := { p with alertN := true, faultN := true, seqFltN := true }

end Sys2Proof.Machine
end

