-- ==== Sys2Proof/Certificates/Slice0/Obligations.lean ====
section
/-! DEFINITION. The statements for the provers: first what holds of the whole machine and of its parts, then, family by
family, the next state in full that each command answers where it applies. -/

open Sys2Proof Sys2Proof.Machine

/-- A step runs the command at the front of the queue; an empty queue lets one LINE tick pass (R27), and what hold-up has
due at the present stamp is ruled before the stamp goes on (R270). The tick on an empty queue is the model's own
(notes/assumptions/5.md). -/
def Obligations.StepRunsTheFirstCommand : Prop :=
  (∀ (c : Instr) (d : Device) (w : List Instr), step ⟨d, c :: w⟩ = exec c ⟨d, w⟩) ∧
  ∀ d : Device,
    (d.sys.coreRunning = true → d.tb.stamp % 65536 < 65535 →
      (d.hold.due = none → step ⟨d, []⟩ = .next ⟨{ d with tb := { d.tb with stamp := d.tb.stamp + 1 } }, []⟩) ∧
      ∀ u : HoldDue, d.hold.due = some u →
        step ⟨d, []⟩ = .next ⟨Device.linesFollow (Device.settle (
          ((d.modHold fun h => { h with due := none }).ruleNow u).modTb fun b => { b with stamp := d.tb.stamp + 1 })), []⟩) ∧
    ((d.sys.coreRunning = false ∨ d.tb.stamp % 65536 = 65535) →
      (d.hold.due = none → step ⟨d, []⟩ = .next ⟨d, []⟩) ∧
      (d.hold.due.isSome = true → step ⟨d, []⟩ = .next ⟨Device.linesFollow (Device.settle d), []⟩))

/-- Every command answers a next state, with the queue as it was (R25, R364). That a command whose condition is not
met has no effect is the model's own (notes/assumptions/2.md). -/
def Obligations.EveryCommandAnswersAndKeepsTheQueue : Prop :=
  ∀ (c : Instr) (d : Device) (w : List Instr), ∃ e : Device, exec c ⟨d, w⟩ = .next ⟨e, w⟩

/-- Reset is a unit as it leaves the factory, without its supplies (R28, R288, R497). The contents of MRAM are the
model's own (notes/assumptions/6.md). -/
def Obligations.ResetIsAUnitAsManufactured : Prop :=
  State.reset.pending = [] ∧ State.reset.dev.sys.vdd = false ∧ State.reset.dev.sys.vaon = false ∧
    State.reset.dev.sys.coreRunning = false ∧ State.reset.dev.pins = Pins.inert ∧ State.reset.dev.tb.stamp = 0 ∧
    State.reset.dev.ledger = Book.zero ∧ State.reset.dev.mram = Mram.factory ∧
    ∀ o : Obj, State.reset.dev.get o = o.dflt

/-- At reset the three open-drain lines agree with the state (R333, R368, R441). -/
def Obligations.LinesAgreeAtReset : Prop :=
  State.reset.dev.linesAgree

/-- Every step keeps ALERT_N, FAULT_N and SEQ_FLT_N in agreement with the state (R333, R334, R368, R441). -/
def Obligations.LinesAgreeAfterEveryStep : Prop :=
  ∀ s s' : State, s.dev.linesAgree → step s = .next s' → s'.dev.linesAgree

/-- The C entry of a block opens at its first class-C event and merges the later ones (R360). -/
def Obligations.ClassCEntryOpensAndMerges : Prop :=
  (∀ (d : Device) (b : Nat), b < d.faults.length → ((d.ackBlock b).fault b).cOpen = false) ∧
  (∀ (f : FaultBlock) (source code stamp : Nat) (params : List Byte), f.aHeld = false →
    (if f.seenStamp = stamp then f.seen else []).contains (source, 1) = false →
    (f.cOpen = false →
      (f.take 1 source code stamp params).1.cOpen = true ∧ (f.take 1 source code stamp params).1.cFirstStamp = stamp ∧
      (f.take 1 source code stamp params).1.cFirstCode = code ∧ (f.take 1 source code stamp params).1.cParams = params ∧
      (f.take 1 source code stamp params).1.cMerge = 1) ∧
    (f.cOpen = true →
      (f.take 1 source code stamp params).1.cOpen = true ∧
      (f.take 1 source code stamp params).1.cMerge = min 65535 (f.cMerge + 1) ∧
      (f.take 1 source code stamp params).1.cLastStamp = stamp ∧
      (f.take 1 source code stamp params).1.cFirstStamp = f.cFirstStamp ∧
      (f.take 1 source code stamp params).1.cFirstCode = f.cFirstCode ∧
      (f.take 1 source code stamp params).1.cParams = f.cParams)) ∧
  ∀ (d : Device) (b source code : Nat) (params : List Byte), b < d.faults.length →
    (d.raiseC b source code params).fault b = ((d.fault b).take 1 source code d.now params).1

/-- A class-B event escalates exactly when its source is listed with an earlier stamp (R356, R357, R358, R359). -/
def Obligations.ClassBEventEscalatesWhenListedBefore : Prop :=
  ∀ (f : FaultBlock) (source code stamp : Nat) (params : List Byte),
    (if f.seenStamp = stamp then f.seen else []).contains (source, 2) = false →
    (∀ st c : Nat, f.aHeld = false → (f.bSources.find? fun x => x.1 == source) = some (source, st, c) →
      (f.take 2 source code stamp params).2 = decide (st < stamp) ∧
      (f.take 2 source code stamp params).1.bSources = f.bSources) ∧
    (f.aHeld = false → (f.bSources.find? fun x => x.1 == source) = none →
      (f.take 2 source code stamp params).2 = false ∧
      (f.take 2 source code stamp params).1.bSources = f.bSources ++ [(source, stamp, code)] ∧
      (f.bSources = [] → (f.take 2 source code stamp params).1.bFirstStamp = stamp ∧
        (f.take 2 source code stamp params).1.bFirstCode = code ∧ (f.take 2 source code stamp params).1.bParams = params)) ∧
    (f.aHeld = true → (f.take 2 source code stamp params).2 = false ∧
      (f.take 2 source code stamp params).1.bSources = f.bSources)

/-- A lane without a Claim for IdleTime is noticed once until the next Claim (R467). -/
def Obligations.LaneIdleIsNoticedOnceUntilTheNextClaim : Prop :=
  (∀ (q : Fin 128) (d : Device) (w : List Instr), d.sys.coreRunning = true → d.get (O.idleTime q) ≠ 0 →
    (d.lane q).items ≠ [] → d.flag (O.laneIdle q) = false →
    exec (.laneIdle q) ⟨d, w⟩ = .next ⟨Device.linesFollow (Device.settle
      (((d.set (O.laneIdle q) 1).bump (O.idleNotices q)).raiseD 82 (0x100 + q) 0x0B07 [])), w⟩) ∧
  (∀ (q : Fin 128) (d : Device) (w : List Instr), (d.flag (O.laneIdle q) = true ∨ d.get (O.idleTime q) = 0) →
    exec (.laneIdle q) ⟨d, w⟩ = .next ⟨Device.linesFollow (Device.settle d), w⟩) ∧
  ∀ (d : Device) (q path : Nat), (d.claimNow q path).flag (O.laneIdle q) = false

/-- A fall of VDD makes every output inert and every object its default; MRAM and the AON domain stay (R367, R440,
R497, R523). -/
def Obligations.PowerOnResetMakesTheControllerInert : Prop :=
  ∀ (d : Device) (w : List Instr), d.sys.vdd = true →
    ∃ e : Device, exec .vddReset ⟨d, w⟩ = .next ⟨e, w⟩ ∧ e.sys.vdd = false ∧ e.sys.coreRunning = false ∧
      e.pins = Pins.inert ∧ (∀ o : Obj, e.get o = o.dflt) ∧ e.mram = d.mram ∧ e.aon = d.aon ∧ e.dict = Dict.reset ∧
      e.net = Net.reset ∧ e.mem = Mem.reset ∧ e.tb = Timebase.reset ∧ e.seq = Sequencer.reset

/-- The replay window takes each number once (R389). -/
def Obligations.ReplayWindowNeverTakesANumberTwice : Prop :=
  ∀ (d : Device) (s seq : Nat), 0 ≤ d.get (O.replayMask s) → d.seenSeq s seq = .fresh →
    (d.takeSeq s seq).seenSeq s seq ≠ .fresh ∧
    (∀ n : Nat, d.seenSeq s n ≠ .fresh → (d.takeSeq s seq).seenSeq s n ≠ .fresh) ∧
    (d.takeSeq s seq).getN (O.rxSeqHigh s) = max (d.getN (O.rxSeqHigh s)) seq ∧
    0 ≤ (d.takeSeq s seq).get (O.replayMask s)

/-- Every commit keeps the allotment equal to the sum of the entries (R287, R288, R293, R294, R295, R299, R306). -/
def Obligations.LedgerCommitsKeepTheBalance : Prop :=
  (∀ d : Device, d.ledger.balanced →
    (∀ v : Int, (d.offerNow v).ledger.balanced ∧ (d.adjustNow v).ledger.balanced ∧
      (d.adjustNow v).ledger.allot = d.ledger.allot + v) ∧
    (∀ (h id sender reason : Nat) (a : Int), (d.creditRefuse h id sender reason a).ledger.balanced ∧
      (d.creditTake h id sender a).ledger.balanced ∧
      (d.canCommit = true → (d.creditTake h id sender a).ledger.allot = d.ledger.allot + a)) ∧
    (∀ (h reason : Nat) (t : Transfer), (d.settleCommit h t).ledger.balanced ∧ (d.releaseCommit h t).ledger.balanced ∧
      (d.returnCredits t reason).ledger.balanced ∧
      (d.canTransfer = true → (d.settleCommit h t).ledger.allot = d.ledger.allot - t.amount)) ∧
    (∀ id action : Nat, (d.resolveNow id action).ledger.balanced) ∧
    (d.ledger.grants.length = 16 → d.serveGrants.ledger.balanced)) ∧
  (∀ (b : Book) (t : Int), b.balanced → (b.moveRc t).balanced ∧ (b.moveRh t).balanced) ∧
  ∀ (b : Book) (k : Nat) (g : Int), b.balanced → k < b.grants.length → (b.regrant k g).balanced

/-- A commit writes one record to the slot that is not the newest, with the next sequence (R289). -/
def Obligations.CommitWritesTheSlotThatIsNotTheNewest : Prop :=
  ∀ (d : Device) (kind : Nat) (xfer : List Byte),
    (d.commitLedger kind xfer).mram.ledgerRec =
      ⟨d.mram.ledgerRec.seq + 1, d.now, d.ledger, d.get O.powerOnCount, kind, xfer, false⟩ ∧
    (d.mram.newestLedger = some false → (d.commitLedger kind xfer).mram.ledA = d.mram.ledA ∧
      (d.commitLedger kind xfer).mram.newestLedger = some true) ∧
    (d.mram.newestLedger ≠ some false → (d.commitLedger kind xfer).mram.ledB = d.mram.ledB ∧
      (d.commitLedger kind xfer).mram.newestLedger = some false)

/-- The recorder's counters add up, and records held never change their events (R473, R477, R478, R479, R480, R482,
R487). -/
def Obligations.RecorderCountsEveryEventAndNeverChangesARecord : Prop :=
  (∀ (m : Mram) (frozen : Bool) (ev : Event),
    (m.counted → (m.takeTurn frozen ev).counted) ∧
    (m.log.map Record.ev) <:+ ((m.takeTurn frozen ev).log.map Record.ev) ∧
    (m.takeTurn frozen ev).held ≤ m.held + 1 ∧ (m.held ≤ 65536 → (m.takeTurn frozen ev).held ≤ 65536)) ∧
  ∀ (d : Device) (w : List Instr), d.mram.counted →
    d.recorderBack.mram.counted ∧ (∀ path : Nat, (d.clearNow path).mram.counted) ∧
      ∃ e : Device, exec .recordWrite ⟨d, w⟩ = .next ⟨e, w⟩ ∧ e.mram.counted

/-- Cells of a pool move between free, allocated and in flight, and none is lost (R463, R465, R466, R468, R470). -/
def Obligations.PoolCellsStayInTheirThreePlaces : Prop :=
  ∀ (d : Device) (p q path : Nat), p < 2 → q < 128 → d.mem.lanes.length = 128 → d.mem.free.length = 2 → d.poolOf q < 2 →
    d.poolAgrees p →
    (d.overwrite q).poolAgrees p ∧ (d.rewind q).poolAgrees p ∧ (d.releaseNow q).poolAgrees p ∧
      (d.laneFlush q).poolAgrees p ∧ ((d.lane q).claim = none → (d.claimNow q path).poolAgrees p)

/-- A staged write changes no value in force (R411, R417). -/
def Obligations.StagedWriteLeavesTheValuesInForce : Prop :=
  ∀ (index : BitVec 16) (sub : Byte) (data : List Byte) (stored : Bool) (o : Obj) (k : Nat) (l : List Pending) (d : Device)
    (w : List Instr),
    locate index.toNat sub.toNat = .obj o k → d.mayWrite 16 index.toNat sub.toNat = true → o.access = .rws → o.apply = .L →
    d.stagedOf 16 = some l → d.quiet = true →
    ∃ e : Device, exec (.objectWrite 16 index sub data stored) ⟨d, w⟩ = .next ⟨e, w⟩ ∧
      d.keeps e ([O.stagingOwner.key, O.stagedCount.key] ++ lineKeys) ∧
      (o.ty.lengthOk data.length = true → d.flag O.controllerClassA = false →
        o.ownBad k (o.kept (o.ty.decode data)) = false → (putPending l ⟨16, o.key, o.kept (o.ty.decode data)⟩).length ≤ 256 →
        ((putPending l ⟨16, o.key, o.kept (o.ty.decode data)⟩).map fun p => keySize p.key).sum ≤ 16384 →
        e.stagedOf 16 = some (putPending l ⟨16, o.key, o.kept (o.ty.decode data)⟩))

/-- A slot that has fired does not fire again at that angle of the lap (R44, R45, R46). -/
def Obligations.SlotFiresOnceAtItsAngle : Prop :=
  ∀ (d : Device) (n : Nat), d.tb.slots.length = 64 → n < 64 → d.slotFires n = true →
    (d.slotHardware n).slotFires n = false ∧ (d.slotHardware n).now = d.fireStamp n ∧ (d.slotHardware n).lap = d.lap ∧
    ((d.slotHardware n).tb.slots.getD n ⟨0, 0, none⟩).fires = (d.tb.slots.getD n ⟨0, 0, none⟩).fires + 1 ∧
    (8 ≤ n → bits (d.slotWordNow n) 25 1 = 1 → bits ((d.slotHardware n).slotWordNow n) 24 1 = 0)

/-- The class-A safe state of the controller holds every power output (R366, R367, R368, R441). -/
def Obligations.ClassASafeStateHoldsTheOutputs : Prop :=
  (∀ (d : Device) (b source code : Nat), d.flag O.controllerClassA = false →
    (∀ x ∈ (d.enterClassA b source code).pins.pwm, x = .mid) ∧ (∀ x ∈ (d.enterClassA b source code).pins.chPwm, x = .mid) ∧
    (∀ x ∈ (d.enterClassA b source code).pins.drven, x = false) ∧
    (∀ x ∈ (d.enterClassA b source code).pins.chDrven, x = false) ∧
    (∀ x ∈ (d.enterClassA b source code).pins.tgg, x = false) ∧
    (∀ x ∈ (d.enterClassA b source code).pins.seqEn, x = false) ∧
    (∀ x ∈ (d.enterClassA b source code).pins.zclkRun, x = false) ∧
    (∀ x ∈ (d.enterClassA b source code).pins.rstOut, x = true) ∧
    (d.enterClassA b source code).pins.faultN = false ∧ (d.enterClassA b source code).pins.alertN = false ∧
    (d.enterClassA b source code).flag O.controllerClassA = true ∧
    (d.enterClassA b source code).aon.classA = some ⟨b, source, code, d.now⟩) ∧
  ∀ (d : Device) (b source code : Nat), d.flag O.controllerClassA = true →
    d.enterClassA b source code = { d with sys := { d.sys with laterCauses := d.sys.laterCauses + 1 } }

/-- The decoder of the memories corrects every single symbol error (R450, R451). -/
def Obligations.DecoderCorrectsEverySingleSymbolError : Prop :=
  ∀ word : List Byte, word.length = 36 → (∀ i : Nat, i < 4 → syndrome word i = 0#8) →
    decodeWord word = .clean ∧
    ∀ (p : Nat) (e : Byte), p < 36 → e ≠ 0#8 → decodeWord (modAt word (35 - p) fun s => s ^^^ e) = .corrected p e

/-- Presence, insertion delay, fold-back, retry reset and diode turn-on touch their gate only (R156, R158, R159, R161,
R165, R167). -/
def Obligations.GateCommandsTouchOnlyTheirGate : Prop :=
  (∀ (k : Fin 16) (c : Instr) (d : Device) (w : List Instr),
    c = .insertDelayMet k ∨ c = .foldbackEntry k ∨ c = .foldbackRecovery k ∨ c = .tgRetryReset k ∨ c = .presenceQualified k →
    ∃ e : Device, exec c ⟨d, w⟩ = .next ⟨e, w⟩ ∧ e = { d with regs := e.regs, pins := e.pins, gates := e.gates } ∧
      d.keeps e ([(O.tgState k).key, (O.presence k).key, (O.tgRetryCount k).key] ++ lineKeys) ∧
      e.pins.butLines = d.pins.butLines ∧ (∀ j : Nat, j ≠ k.val → e.gates[j]? = d.gates[j]?)) ∧
  ∀ (g : Fin 6) (d : Device) (w : List Instr),
    ∃ e : Device, exec (.diodeTurnOn g) ⟨d, w⟩ = .next ⟨e, w⟩ ∧ e = { d with regs := e.regs, pins := e.pins } ∧
      d.keeps e ((O.conducting g).key :: lineKeys) ∧ { e.pins.butLines with gate := d.pins.gate } = d.pins.butLines ∧
      ∀ j : Nat, j ≠ g.val → e.pins.gate[j]? = d.pins.gate[j]?

/-- The end of a pulse and the zero-current comparator touch the cells of one feed only: their pulses, ripples, trims and
phase outputs, and the feed's count of rounds (R61, R64, R67, R69, R73). -/
def Obligations.PulseCommandsTouchOnlyTheirFeed : Prop :=
  ∀ (n : Fin 96) (dt : Nat) (iStart iEnd : Int) (c : Instr) (d : Device) (w : List Instr),
    c = .pulseEnd n dt iStart iEnd ∨ c = .zeroCurrentDetect n dt →
    ∃ e : Device, exec c ⟨d, w⟩ = .next ⟨e, w⟩ ∧
      e = { d with regs := e.regs, pins := e.pins, cells := e.cells, feeds := e.feeds, free := e.free } ∧
      { e.pins.butLines with pwm := d.pins.pwm } = d.pins.butLines ∧
      (d.feedOf n = none → d.keeps e lineKeys ∧ e.pins.pwm = d.pins.pwm ∧ e.cells = d.cells) ∧
      (∀ k : Nat, d.feedOf n ≠ some k → e.feeds[k]? = d.feeds[k]?) ∧
      ∀ k : Nat, d.feedOf n = some k →
        d.keeps e ([(O.limitedRounds k).key, (O.cappedRounds k).key] ++ ((d.pulsing k).map fun j => (O.balanceTrim j).key) ++ lineKeys) ∧
        ∀ j : Nat, (d.pulsing k).contains j = false →
          e.pins.pwm[j]? = d.pins.pwm[j]? ∧ (j ≠ n.val → e.cells[j]? = d.cells[j]?)

/-- Recovery, diode emulation, retry counts and the disagreement touch their objects only (R68, R70, R75, R255, R326).
-/
def Obligations.RegisterCommandsTouchOnlyTheirObject : Prop :=
  (∀ (c : Instr) (key : Nat) (d : Device) (w : List Instr),
    (∃ k : Fin 16, (c = .recoveryComplete k ∧ key = (O.ocState k).key) ∨ (c = .deEntry k ∧ key = (O.deActive k).key)) ∨
    (∃ r : Fin 24, c = .seqRetryCountReset (some r) ∧ key = (O.subtreeRetryCount r).key) ∨
    (c = .seqRetryCountReset none ∧ key = O.sequenceRetryCount.key) ∨
    (∃ n : Fin 4, c = .disagreeClear n ∧ key = (O.disagree n).key) →
    ∃ e : Device, exec c ⟨d, w⟩ = .next ⟨e, w⟩ ∧ e = { d with regs := e.regs, pins := e.pins } ∧ d.keeps e (key :: lineKeys) ∧
      e.pins.butLines = d.pins.butLines) ∧
  ∀ (k : Fin 16) (d : Device) (w : List Instr),
    ∃ e : Device, exec (.deExit k) ⟨d, w⟩ = .next ⟨e, w⟩ ∧ e = { d with regs := e.regs, pins := e.pins, feeds := e.feeds } ∧
      d.keeps e ((O.deActive k).key :: lineKeys) ∧ e.pins.butLines = d.pins.butLines ∧
      ∀ j : Nat, j ≠ k.val → e.feeds[j]? = d.feeds[j]?

/-- A gauge sample and a turn of the recorder touch only their own (R240, R241, R243, R256, R268, R477, R491). -/
def Obligations.GaugeAndRecorderTouchOnlyTheirOwn : Prop :=
  (∀ (n : Fin 4) (m : GaugeIn) (d : Device) (w : List Instr),
    ∃ e : Device, exec (.gaugeSample n m) ⟨d, w⟩ = .next ⟨e, w⟩ ∧
      e = { d with regs := e.regs, pins := e.pins, strings := e.strings, hold := e.hold, free := e.free } ∧
      d.keeps e ([(O.overloads n).key, (O.coulombIntegral n).key, (O.stringVoltage n).key, (O.chargeCurrent n).key] ++ lineKeys) ∧
      e.pins.butLines = d.pins.butLines ∧
      e.hold = { d.hold with vNow := e.hold.vNow, iA := e.hold.iA, iB := e.hold.iB, loadSum := e.hold.loadSum,
                             loadN := e.hold.loadN, lowRuns := e.hold.lowRuns } ∧
      ∀ j : Nat, j ≠ n.val → e.strings[j]? = d.strings[j]?) ∧
  ∀ (d : Device) (w : List Instr),
    ∃ e : Device, exec .recordWrite ⟨d, w⟩ = .next ⟨e, w⟩ ∧
      e = { d with regs := e.regs, pins := e.pins, mram := e.mram, recorder := e.recorder, pf := e.pf, free := e.free } ∧
      d.keeps e ([O.recordWrites.key, O.mramWrites.key, O.full.key] ++ lineKeys) ∧ e.pins.butLines = d.pins.butLines ∧
      e.mram = { d.mram with log := e.mram.log, repeats := e.mram.repeats, frozen := e.mram.frozen,
                             refused := e.mram.refused, raised := e.mram.raised } ∧
      ∀ j : Nat, (e.pf[j]?).map (fun x => { x with recordPos := none }) = (d.pf[j]?).map fun x => { x with recordPos := none }

/-- Power-on, resets and supplies take their effect (R14, R18, R20, R24, R170, R260, R432, R484, R497, R498, R520,
R523): for every state where the command applies, the next state in full; the queue is unchanged. -/
def Obligations.SupplyCommandsHaveTheirEffect : Prop :=
  (∀ (m : PowerUp) (d : Device) (w : List Instr),
      d.sys.vdd = false →
      d.sys.vaon = true →
      exec (.powerOn m) ⟨d, w⟩ = .next ⟨Device.linesFollow (Device.settle ({ d with aon := { d.aon with address := 0x68 + m.pins } }.powerOn m)), w⟩) ∧
  (∀ (d : Device) (w : List Instr),
      d.sys.vdd = true →
      exec (.vddReset) ⟨d, w⟩ = .next ⟨Device.linesFollow (Device.settle (d.intoReset (if d.sys.brownOut then 1 else 0))), w⟩) ∧
  (∀ (d : Device) (w : List Instr),
      d.sys.vaon = true →
      exec (.brownoutWarning) ⟨d, w⟩ = .next ⟨Device.linesFollow (Device.settle ({ d with sys := { d.sys with brownOut := true } })), w⟩) ∧
  (∀ (d : Device) (w : List Instr),
      d.sys.vaon = true →
      d.sys.brownOut = true →
      exec (.brownoutClear) ⟨d, w⟩ = .next ⟨Device.linesFollow (Device.settle (
          let d := { d with sys := { d.sys with brownOut := false } }
          d.when d.sys.coreRunning fun d => (d.storeDeferred.when (d.runs engGE) Device.writeBacksDue))), w⟩) ∧
  (∀ (d : Device) (w : List Instr),
      d.sys.vaon = true →
      exec (.aonLoss) ⟨d, w⟩ = .next ⟨Device.linesFollow (Device.settle (
          let d := d.intoReset 1
          { d with aon := Aon.reset, sys := { d.sys with vaon := false, brownOut := false } })), w⟩) ∧
  (∀ (pins : Fin 8) (d : Device) (w : List Instr),
      d.sys.vaon = false →
      exec (.aonPowerUp pins) ⟨d, w⟩ = .next ⟨Device.linesFollow (Device.settle ({ d with sys := { d.sys with vaon := true, brownOut := false }, aon := { Aon.reset with address := 0x68 + pins } })), w⟩) ∧
  (∀ (rail : Fin 5) (d : Device) (w : List Instr),
      d.sys.coreRunning = true →
      d.sys.outOfRange.contains (rail.val + 1) = false →
      exec (.supplyOutOfRange rail) ⟨d, w⟩ = .next ⟨Device.linesFollow (Device.settle (
          let d := { d with sys := { d.sys with outOfRange := (rail.val + 1) :: d.sys.outOfRange } }
          (d.supplyActs rail).raiseC 86 (rail.val + 1) 0x0C06 [])), w⟩) ∧
  (∀ (rail : Fin 5) (d : Device) (w : List Instr),
      exec (.supplyInRange rail) ⟨d, w⟩ = .next ⟨Device.linesFollow (Device.settle (
          let d := { d with sys := { d.sys with outOfRange := d.sys.outOfRange.filter fun r => r != rail.val + 1 } }
          d.when (d.sys.coreRunning && rail.val == 1) fun d => d.forAll (List.range 6) fun g d => d.gateRelease g 3)), w⟩) ∧
  (∀ (d : Device) (w : List Instr),
      d.sys.coreRunning = true →
      exec (.crystalFailure) ⟨d, w⟩ = .next ⟨Device.linesFollow (Device.settle (d.raiseA 86 0 0x0C05 [])), w⟩) ∧
  (∀ (d : Device) (w : List Instr),
      d.sys.coreRunning = true →
      exec (.gdLockstepMismatch) ⟨d, w⟩ = .next ⟨Device.linesFollow (Device.settle (d.raiseA 85 (engineSource 15) 0x0C01 [])), w⟩) ∧
  (∀ (d : Device) (w : List Instr),
      d.sys.coreRunning = true →
      exec (.aonRecalibration) ⟨d, w⟩ = .next ⟨Device.linesFollow (Device.settle ({ d with sys := { d.sys with aonCalibrated := true } })), w⟩) ∧
  (∀ (d : Device) (w : List Instr),
      d.sys.coreRunning = true →
      exec (.watchdogReset) ⟨d, w⟩ = .next ⟨Device.linesFollow (Device.settle (d.intoReset 2)), w⟩)

/-- The lap boundary and a firing slot take their effect (R27, R44, R45, R46, R48, R115, R174, R236, R256, R281, R291,
R468): for every state where the command applies, the next state in full; the queue is unchanged. -/
def Obligations.LapAndSlotCommandsHaveTheirEffect : Prop :=
  (∀ (m : LapData) (d : Device) (w : List Instr),
      d.sys.coreRunning = true →
      exec (.lapBoundary m) ⟨d, w⟩ = .next ⟨Device.linesFollow (Device.settle (
          let ended := d.lap
          let d := d.nextLap
          let d := d.when d.live fun d => d.swapDue.moveShadow
          let d := (d.loadSlots.lapAngle m).stringsLap m
          let d := ((d.lapMeans m ended).holdLap).lampsClassA
          let d := d.when d.live fun d =>
            d.forAll (List.range 16) fun k d => match m.trays[k]? with
              | some x => d.trayLap k x.1 x.2.1 x.2.2.1 x.2.2.2
              | none => d
          d.laneCheck.when d.scActive fun d => d.ledgerCheck)), w⟩) ∧
  (∀ (slot : Fin 64) (m : FireData) (d : Device) (w : List Instr),
      d.slotFires slot = true →
      exec (.slotFire slot m) ⟨d, w⟩ = .next ⟨Device.linesFollow (Device.settle (
          let d := d.slotHardware slot
          d.when d.live fun d => d.slotWork slot m)), w⟩) ∧
  (∀ (path : Fin 17) (slot : Fin 64) (word : BitVec 64) (d : Device) (w : List Instr),
      d.accepts path (O.slotWord slot) slot ((O.slotWord slot).ty.encode word.toNat) →
      8 ≤ slot.val →
      exec (.schedulerSlotWrite path slot word) ⟨d, w⟩ = .next ⟨Device.linesFollow (Device.settle ((d.set (O.slotWord slot) ((O.slotWord slot).kept word.toNat)).written path (O.slotWord slot) ((O.slotWord slot).kept word.toNat))), w⟩) ∧
  (∀ (path : Fin 17) (slot : Fin 64) (word : BitVec 64) (d : Device) (w : List Instr),
      d.mayWrite path (O.systemSlot slot).index 0 = true →
      slot.val < 8 →
      exec (.schedulerSlotWrite path slot word) ⟨d, w⟩ = .next ⟨Device.linesFollow (Device.settle (d.answer path (O.systemSlot slot).index 0 0x0601 0 [])), w⟩)

/-- Line samples and the timebase states take their effect (R31, R32, R33, R34, R36, R37, R38, R268, R282): for every
state where the command applies, the next state in full; the queue is unchanged. -/
def Obligations.LineCommandsHaveTheirEffect : Prop :=
  (∀ (k : Fin 2048) (a b c : LinePhase) (phi : BitVec 16) (t : Nat) (e : Device) (d : Device) (w : List Instr),
      t = d.lap * 65536 + 32 * k.val →
      d.sys.coreRunning = true →
      (match d.tb.lastSample with | some l => decide (l < k.val) | none => true) = true →
      d.now ≤ t →
      e = (d.toStamp t).modTb (fun x => { x with lastSample := some k.val, lineInputs := [a.v, b.v, c.v, a.i, b.i, c.i] }) →
      e.aeTracks = true →
      exec (.lineSample k a b c phi) ⟨d, w⟩ = .next ⟨Device.linesFollow (Device.settle (e.lineSample k (a.v - b.v) (b.v - c.v) (c.v - a.v) phi.toNat)), w⟩) ∧
  (∀ (k : Fin 2048) (a b c : LinePhase) (phi : BitVec 16) (t : Nat) (e : Device) (d : Device) (w : List Instr),
      t = d.lap * 65536 + 32 * k.val →
      d.sys.coreRunning = true →
      (match d.tb.lastSample with | some l => decide (l < k.val) | none => true) = true →
      d.now ≤ t →
      e = (d.toStamp t).modTb (fun x => { x with lastSample := some k.val, lineInputs := [a.v, b.v, c.v, a.i, b.i, c.i] }) →
      e.aeTracks = false →
      exec (.lineSample k a b c phi) ⟨d, w⟩ = .next ⟨Device.linesFollow (Device.settle (e)), w⟩) ∧
  (∀ (d : Device) (w : List Instr),
      d.aeTracks = true →
      d.tb.linePresent = true →
      1 ≤ d.tb.belowRun →
      d.getN O.lossDwell ≤ 32 * (d.tb.belowRun - 1) →
      exec (.lineLoss) ⟨d, w⟩ = .next ⟨Device.linesFollow (Device.settle (
          let st := d.get O.timebaseState
          let d := (d.modTb fun t => { t with linePresent := false, lapPresent := false }).bump O.lineLosses
          let d := d.when (st == 2 || st == 3) fun d =>
            (d.toTimebase 1).modTb fun t =>
              let f := if t.seenFreqs.isEmpty then t.freq else mean t.seenFreqs / 1000
              { t with freq := f, freqI := f }
          (d.returnCancel).dropout 1 d.now)), w⟩) ∧
  (∀ (d : Device) (w : List Instr),
      d.aeTracks = true →
      d.tb.linePresent = false →
      2048 ≤ d.tb.aboveRun →
      (d.tb.dcTest = true ∨ inLineRange d.tb.lapFreq = true) →
      exec (.linePresent) ⟨d, w⟩ = .next ⟨Device.linesFollow (Device.settle (
          let d := d.modTb fun t => { t with linePresent := true, freqs := [], qualFreqs := [] }
          d.when (!d.tb.dcTest && (d.get O.timebaseState == 0 || d.get O.timebaseState == 1)) Device.enterRelock)), w⟩) ∧
  (∀ (d : Device) (w : List Instr),
      d.aeTracks = true →
      d.get O.timebaseState = 1 →
      d.tb.holdFrom + d.getN O.holdoverLaps * 65536 ≤ d.now →
      exec (.holdoverExpired) ⟨d, w⟩ = .next ⟨Device.linesFollow (Device.settle (d.toTimebase 0)), w⟩) ∧
  (∀ (d : Device) (w : List Instr),
      d.aeTracks = true →
      d.get O.timebaseState = 2 →
      d.getN O.lockLaps * 2048 ≤ d.tb.lockRun →
      exec (.lockAchieved) ⟨d, w⟩ = .next ⟨Device.linesFollow (Device.settle (d.toTimebase 3)), w⟩) ∧
  (∀ (d : Device) (w : List Instr),
      d.aeTracks = true →
      d.get O.timebaseState = 3 →
      d.tb.linePresent = true →
      2048 ≤ d.tb.unlockRun →
      exec (.lockLost) ⟨d, w⟩ = .next ⟨Device.linesFollow (Device.settle ((Device.lockLostNow d))), w⟩) ∧
  (∀ (d : Device) (w : List Instr),
      d.aeTracks = true →
      16 ≤ d.tb.negRun →
      exec (.rotationChange) ⟨d, w⟩ = .next ⟨Device.linesFollow (Device.settle ((d.set O.rotation (1 - d.get O.rotation)).modTb fun t => { t with negRun := 0 })), w⟩)

/-- Deviations, dropouts and the return take their effect (R15, R42, R268, R269, R270, R271, R272, R275, R278, R279,
R282, R283): for every state where the command applies, the next state in full; the queue is unchanged. -/
def Obligations.HoldupCommandsHaveTheirEffect : Prop :=
  (∀ (d : Device) (w : List Instr),
      d.aeTracks = true →
      d.flag O.templateValid = true →
      d.tb.dev.isNone = true →
      d.getN O.devCount ≤ d.tb.outRun →
      exec (.devStart) ⟨d, w⟩ = .next ⟨Device.linesFollow (Device.settle (
          let x := runStamps (d.getN O.devCount) d.tb.outStamps
          let d := ((d.modTb fun t => { t with dev := some x, splitDev := true }).bump O.devStarts).edge 118
          d.returnCancel.holdDev x.1)), w⟩) ∧
  (∀ (x : Nat × Nat) (d : Device) (w : List Instr),
      d.tb.dev = some x →
      d.aeTracks = true →
      d.flag O.templateValid = true →
      d.getN O.devCount ≤ d.tb.inRun →
      exec (.devEnd) ⟨d, w⟩ = .next ⟨Device.linesFollow (Device.settle (
          let t := x.1 + d.getN O.confirmAngle
          let d := d.when (decide (t ≤ d.now)) fun d => d.dropout 0 t
          let y := runStamps (d.getN O.devCount) d.tb.inStamps
          let d := (d.devEnds y.2).modTb fun b => { b with dev := none, devEnd := some y }
          d.edge 119)), w⟩) ∧
  (∀ (x : Nat × Nat) (d : Device) (w : List Instr),
      d.tb.dev = some x →
      (d.holdActs = true ∨ d.coreWaits = true) →
      (x.1 + d.getN O.confirmAngle) / 65536 ≤ d.lap →
      exec (.confirmAngleExpiry) ⟨d, w⟩ = .next ⟨Device.linesFollow (Device.settle (
          (d.toStamp (max d.now (x.1 + d.getN O.confirmAngle))).dropout 0 (x.1 + d.getN O.confirmAngle))), w⟩) ∧
  (∀ (d : Device) (w : List Instr),
      d.flag O.busArmed = true →
      d.busBelow = true →
      exec (.busDropout) ⟨d, w⟩ = .next ⟨Device.linesFollow (Device.settle (d.dropout 2 d.now)), w⟩) ∧
  (∀ (d : Device) (w : List Instr),
      d.returnMay = true →
      exec (.returnCommit) ⟨d, w⟩ = .next ⟨Device.linesFollow (Device.settle ((Device.returnCommit d))), w⟩) ∧
  (∀ (d : Device) (w : List Instr),
      d.holdActs = true →
      d.get O.holdupState = 2 →
      d.hold.returnLap + d.getN O.returnLaps + d.hold.returnPaused ≤ d.lap →
      exec (.returnTimeout) ⟨d, w⟩ = .next ⟨Device.linesFollow (Device.settle (d.returnEnds O.returnsTimedOut 0x0607)), w⟩)

/-- PMBus transactions, probes and rectifier timers take their effect (R180, R184, R185, R186, R188, R189, R202, R203,
R205, R209): for every state where the command applies, the next state in full; the queue is unchanged. -/
def Obligations.PmbusCommandsHaveTheirEffect : Prop :=
  (∀ (p : Fin 4) (sda : Sda) (reply : Reply) (j : Job) (d : Device) (w : List Instr),
      (d.port p).busy = some j →
      d.sys.coreRunning = true →
      exec (.pmbusTransactionDone p sda reply) ⟨d, w⟩ = .next ⟨Device.linesFollow (Device.settle (
          if sda = .stuck then d.pbStuck p
          else
            let d := (d.when (sda == .freed) fun d => d.pbRecovered p).emit (.pmbus p (d.getN (O.address j.slot)) j.code j.data)
            match reply with
            | .nack a => d.pbError p j a
            | .pec => d.pbError p j false
            | .ok bs => ((d.pbEnd p).pbResult j (some bs)).pbNext p)), w⟩) ∧
  (∀ (p : Fin 4) (sclLow : Bool) (j : Job) (d : Device) (w : List Instr),
      (d.port p).busy = some j →
      d.sys.coreRunning = true →
      exec (.pmbusClockTimeout p sclLow) ⟨d, w⟩ = .next ⟨Device.linesFollow (Device.settle (
          let d := (d.bump (O.clockTimeouts p)).raiseD (74 + p) 0 0x0403 []
          let d := (d.emit (.pmbus p (d.getN (O.address j.slot)) j.code j.data)).pbError p j false
          d.when sclLow fun d => d.pbStuck p)), w⟩) ∧
  (∀ (p : Fin 4) (sda : Sda) (d : Device) (w : List Instr),
      d.sys.coreRunning = true →
      d.stuck p = true →
      sda ≠ .stuck →
      exec (.pmbusStuckRetry p sda) ⟨d, w⟩ = .next ⟨Device.linesFollow (Device.settle (
          let d := (d.when (sda == .freed) fun d => d.pbRecovered p).set (O.pbPortState p) 0
          d.when (d.flag O.rectEnable) fun d =>
            (((slotsOf p).filter fun r => d.rectSt r != 11).foldl Device.pbIdentify d).pbNext p)), w⟩) ∧
  (∀ (r : Fin 32) (d : Device) (w : List Instr),
      d.portMay (portOf r) = true →
      d.flag (O.slotEnable r) = true →
      (d.rectSt r = 0 ∨ d.rectSt r = 2) →
      exec (.rectProbe r) ⟨d, w⟩ = .next ⟨Device.linesFollow (d.pbPut r 0x98 false [] .probe), w⟩) ∧
  (∀ (r : Fin 32) (d : Device) (w : List Instr),
      d.scActive = true →
      d.flag O.rectEnable = true →
      d.rectSt r = 4 →
      d.stuck (portOf r) = false →
      (d.slot r).since + d.getN O.addSettleLaps ≤ d.lap →
      exec (.rectAddTimeout r) ⟨d, w⟩ = .next ⟨Device.linesFollow (Device.settle (d.rectFault r .addTimeout)), w⟩) ∧
  (∀ (r : Fin 32) (d : Device) (w : List Instr),
      d.scActive = true →
      d.flag O.rectEnable = true →
      d.rectSt r = 6 →
      (d.slot r).rampDone = false →
      d.stuck (portOf r) = false →
      (d.slot r).since + d.getN O.shedRampLaps ≤ d.lap →
      exec (.rectShedRampEnd r) ⟨d, w⟩ = .next ⟨Device.linesFollow (
          let d := d.modSlot r fun x => { x with rampDone := true }
          if d.bus.place5 = [] then d.place true r (d.get O.shedOffset) else d), w⟩) ∧
  (∀ (r : Fin 32) (d : Device) (w : List Instr),
      d.scActive = true →
      d.flag O.rectEnable = true →
      d.rectSt r = 8 →
      (d.slot r).since + d.getN O.rectRetryDelay ≤ d.lap →
      exec (.rectRetryDelayEnd r) ⟨d, w⟩ = .next ⟨Device.linesFollow (((d.pbOrder r 0x03 []).setRect r 3).set (O.retryCount r) (d.get (O.retryCount r) + 1)), w⟩)

/-- Accepted writes of tracking, template, hold-up and the rectifier enables take their effect (R28, R34, R41, R189,
R192, R205, R208, R285, R361, R409, R411, R421): for every state where the command applies, the next state in full;
the queue is unchanged. -/
def Obligations.LineAndRectifierWritesHaveTheirEffect : Prop :=
  (∀ (path : Fin 17) (d : Device) (w : List Instr),
      d.accepts path O.lineTrackEnable 0 (O.lineTrackEnable.ty.encode 1) →
      d.get O.lineTrackEnable ≠ 1 →
      exec (.lineTrackEnable path) ⟨d, w⟩ = .next ⟨Device.linesFollow (Device.settle (((d.set O.lineTrackEnable 1).trackOn).written path O.lineTrackEnable 1)), w⟩) ∧
  (∀ (path : Fin 17) (d : Device) (w : List Instr),
      d.accepts path O.lineTrackEnable 0 (O.lineTrackEnable.ty.encode 0) →
      d.get O.lineTrackEnable ≠ 0 →
      exec (.lineTrackDisable path) ⟨d, w⟩ = .next ⟨Device.linesFollow (Device.settle (((d.set O.lineTrackEnable 0).trackOff).written path O.lineTrackEnable 0)), w⟩) ∧
  (∀ (path : Fin 17) (d : Device) (w : List Instr),
      d.accepts path O.templateReset 0 (O.templateReset.ty.encode 1) →
      exec (.templateReset path) ⟨d, w⟩ = .next ⟨Device.linesFollow (Device.settle ((d.templateReset).written path O.templateReset 1)), w⟩) ∧
  (∀ (path : Fin 17) (on : Bool) (d : Device) (w : List Instr),
      d.accepts path O.holdupEnable 0 (O.holdupEnable.ty.encode (b2i on)) →
      exec (.holdupEnable path on) ⟨d, w⟩ = .next ⟨Device.linesFollow (Device.settle (
          let e := (d.set O.holdupEnable (b2i on)).when (!on && d.hold.restarts) fun d =>
            d.dropPlaces.modHold fun h => { h with restarts := false }
          e.written path O.holdupEnable (b2i on))), w⟩) ∧
  (∀ (path : Fin 17) (d : Device) (w : List Instr),
      d.accepts path O.rectEnable 0 (O.rectEnable.ty.encode 1) →
      d.get O.rectEnable ≠ 1 →
      exec (.rectEnable path) ⟨d, w⟩ = .next ⟨Device.linesFollow (Device.settle (((d.set O.rectEnable 1).rectEnableNow).written path O.rectEnable 1)), w⟩) ∧
  (∀ (path : Fin 17) (d : Device) (w : List Instr),
      d.accepts path O.rectEnable 0 (O.rectEnable.ty.encode 0) →
      d.get O.rectEnable ≠ 0 →
      exec (.rectDisable path) ⟨d, w⟩ = .next ⟨Device.linesFollow (Device.settle (((d.set O.rectEnable 0).rectDisableNow).written path O.rectEnable 0)), w⟩) ∧
  (∀ (r : Fin 32) (path : Fin 17) (d : Device) (w : List Instr),
      d.accepts path (O.slotEnable r) r ((O.slotEnable r).ty.encode 1) →
      exec (.slotEnable r path) ⟨d, w⟩ = .next ⟨Device.linesFollow (Device.settle (((d.set (O.slotEnable r) 1).slotEnableNow r).written path (O.slotEnable r) 1)), w⟩) ∧
  (∀ (r : Fin 32) (path : Fin 17) (d : Device) (w : List Instr),
      d.accepts path (O.slotEnable r) r ((O.slotEnable r).ty.encode 0) →
      d.get (O.slotEnable r) ≠ 0 →
      exec (.slotDisable r path) ⟨d, w⟩ = .next ⟨Device.linesFollow (Device.settle (((d.set (O.slotEnable r) 0).slotDisableNow r).written path (O.slotEnable r) 0)), w⟩) ∧
  (∀ (b : Bool) (path : Fin 17) (d : Device) (w : List Instr),
      d.accepts path (if b then O.groupEnableB else O.groupEnableA) 0 ((if b then O.groupEnableB else O.groupEnableA).ty.encode 1) →
      exec (.groupEnable b path) ⟨d, w⟩ = .next ⟨Device.linesFollow (Device.settle (((d.set (if b then O.groupEnableB else O.groupEnableA) 1).groupEnableNow b).written path (if b then O.groupEnableB else O.groupEnableA) 1)), w⟩) ∧
  (∀ (b : Bool) (path : Fin 17) (d : Device) (w : List Instr),
      d.accepts path (if b then O.groupEnableB else O.groupEnableA) 0 ((if b then O.groupEnableB else O.groupEnableA).ty.encode 0) →
      exec (.groupDisable b path) ⟨d, w⟩ = .next ⟨Device.linesFollow (Device.settle ((d.set (if b then O.groupEnableB else O.groupEnableA) 0).written path (if b then O.groupEnableB else O.groupEnableA) 0)), w⟩) ∧
  (∀ (r : Fin 32) (path : Fin 17) (d : Device) (w : List Instr),
      d.accepts path (O.rectAck r) r ((O.rectAck r).ty.encode 1) →
      exec (.rectAck r path) ⟨d, w⟩ = .next ⟨Device.linesFollow (Device.settle (((d.rectAckNow r).releaseAck (42 + r)).written path (O.rectAck r) 1)), w⟩)

/-- Triggers, pulses and diode emulation take their effect (R53, R61, R62, R64, R67, R68, R69, R70, R72, R73): for
every state where the command applies, the next state in full; the queue is unchanged. -/
def Obligations.PulseCommandsHaveTheirEffect : Prop :=
  (∀ (k : Fin 16) (dt : Nat) (rearmed : List Nat) (d : Device) (w : List Instr),
      d.switches k = true →
      exec (.triggerFire k dt rearmed) ⟨d, w⟩ = .next ⟨Device.linesFollow (d.triggerFire k dt rearmed), w⟩) ∧
  (∀ (n : Fin 96) (dt : Nat) (iStart iEnd : Int) (k : Nat) (p : Pulse) (e : Device) (d : Device) (w : List Instr),
      d.feedOf n = some k →
      e = d.ripple k dt →
      (e.cell n).pulse = some p →
      p.cut = none →
      p.measured = false →
      p.fall ≤ p.age →
      exec (.pulseEnd n dt iStart iEnd) ⟨d, w⟩ = .next ⟨Device.linesFollow (
          (e.modCell n fun c => { c with pulse := some { p with measured := true } }).countRise k n p.on iStart iEnd), w⟩) ∧
  (∀ (n : Fin 96) (dt k : Nat) (p : Pulse) (e : Device) (d : Device) (w : List Instr),
      d.feedOf n = some k →
      e = d.ripple k dt →
      (e.cell n).pulse = some p →
      p.cut = none →
      p.rise + nsToEu (e.get (O.leadingBlank k)) ≤ p.age →
      p.age < p.fall →
      exec (.currentLimitTrip n dt) ⟨d, w⟩ = .next ⟨Device.linesFollow (Device.settle (
          let capped := (e.cell n).capped
          let d := (e.modCell n fun c => { c with pulse := some { p with cut := some p.age }, rearmed := false }).bump (O.limitedPulses n)
          let d := d.markRound k p.round fun r => { r with capped := r.capped || capped, limited := r.limited || !capped }
          let d := (d.setPwm n (if p.hl = 0 then .low else .mid)).pulseOver k p.round
          d.when (!capped) fun d => d.overCurrent k)), w⟩) ∧
  (∀ (n : Fin 96) (dt k : Nat) (p : Pulse) (e : Device) (d : Device) (w : List Instr),
      d.feedOf n = some k →
      e = d.ripple k dt →
      e.switches k = true →
      e.deActs k = true →
      (e.pulsing k).contains n.val = true →
      (e.cell n).pulse = some p →
      p.fall ≤ p.age →
      (e.cell n).lowOff = false →
      exec (.zeroCurrentDetect n dt) ⟨d, w⟩ = .next ⟨Device.linesFollow (
          if p.age < p.low then e.modCell n fun c => { c with pulse := some { p with zero := true } }
          else e.when (p.age == p.low || decide (p.low + 96 ≤ p.age)) fun d =>
            (d.setPwm n .mid).modCell n fun c => { c with lowOff := true }), w⟩) ∧
  (∀ (k : Fin 16) (dt : Nat) (rearmed : List Nat) (d : Device) (w : List Instr),
      d.switches k = true →
      d.deActs k = true →
      d.get (O.floorFreq k) ≠ 0 →
      exec (.floorPulse k dt rearmed) ⟨d, w⟩ = .next ⟨Device.linesFollow (
          let d := (d.ripple k dt).rearm rearmed
          if roundQ (9600000000 / (d.get (O.floorFreq k) : Rat)) ≤ ((d.feed k).sinceFire : Int) then
            match d.freeCell k with
            | some n => d.startPulse k n (nsToEu (d.get (O.onTimeMin k)))
            | none => d
          else d), w⟩) ∧
  (∀ (k : Fin 16) (d : Device) (w : List Instr),
      d.switches k = true →
      d.flag (O.deEnable k) = true →
      (d.feed k).es.isNone = true →
      d.perActive k * 10 < (d.get (O.deEntry k) : Rat) →
      exec (.deEntry k) ⟨d, w⟩ = .next ⟨Device.linesFollow (d.setFlag (O.deActive k) true), w⟩) ∧
  (∀ (k : Fin 16) (d : Device) (w : List Instr),
      d.switches k = true →
      (d.feed k).forcedDe = false →
      (d.get (O.deExit k) : Rat) < d.perActive k * 10 →
      exec (.deExit k) ⟨d, w⟩ = .next ⟨Device.linesFollow (
          (d.setFlag (O.deActive k) false).modFeed k fun f =>
            { f with resumeDe := false, es := f.es.map fun e => { e with wasDe := false } }), w⟩)

/-- Hiccup, pre-start test and cell faults take their effect (R74, R75, R76, R77, R78, R79, R80, R81, R82): for every
state where the command applies, the next state in full; the queue is unchanged. -/
def Obligations.CellFaultCommandsHaveTheirEffect : Prop :=
  (∀ (k : Fin 16) (d : Device) (w : List Instr),
      d.leRuns k = true →
      d.feedSt k = 4 →
      d.get (O.ocState k) = 0 →
      d.get (O.hiccupRounds k) ≤ (d.feed k).limitedRun →
      exec (.hiccupEntry k) ⟨d, w⟩ = .next ⟨Device.linesFollow (Device.settle (
          let d := (d.feedSafe k).modFeed k fun f => { f with limitedRun := 0 }
          let d := ((d.set (O.ocState k) 1).set (O.feedState k) 6).bump (O.hiccups k)
          ((d.setFlag (O.reached k) false).edge (80 + k)).raiseD k 0 0x0104 [])), w⟩) ∧
  (∀ (k : Fin 16) (d : Device) (w : List Instr),
      d.leRuns k = true →
      d.feedSt k = 6 →
      d.get (O.ocState k) = 1 →
      exec (.hiccupRestart k) ⟨d, w⟩ = .next ⟨Device.linesFollow ((d.set (O.ocState k) 2).enterPretest k false), w⟩) ∧
  (∀ (k : Fin 16) (d : Device) (w : List Instr),
      d.leRuns k = true →
      d.feedSt k = 4 →
      d.get (O.ocState k) = 2 →
      exec (.recoveryComplete k) ⟨d, w⟩ = .next ⟨Device.linesFollow (d.set (O.ocState k) 0), w⟩) ∧
  (∀ (k : Fin 16) (d : Device) (w : List Instr),
      d.leRuns k = true →
      exec (.prestartTestPass k) ⟨d, w⟩ = .next ⟨Device.linesFollow (Device.settle (
          if d.feedSt k = 2 then d.softStart k
          else if d.feedSt k = 4 then (d.cellsReturn k true).updateCapacity k
          else d)), w⟩) ∧
  (∀ (k : Fin 16) (positions : BitVec 12) (d : Device) (w : List Instr),
      d.live = true →
      (d.feedSt k = 2 ∨ d.feedSt k = 4) →
      exec (.prestartTestFail k positions) ⟨d, w⟩ = .next ⟨Device.linesFollow (Device.settle (
          let bad := (d.inTest k).filter fun j => positions.getLsbD j
          if bad.isEmpty then d
          else
            let m : Int := bad.foldl (fun m j => setBit m j) 0
            let d := ((d.set (O.hsTestFail k) m).latchFeed k 4).set (O.feedState k) 8
            let d := (d.tgFeedFaulted k).holdA k 0 0x0106
            ((d.takeEvent k 0 0x0106 3 (leBytes 2 m) false).1).updateFaultN)), w⟩) ∧
  (∀ (n : Fin 96) (k : Nat) (d : Device) (w : List Instr),
      d.feedOf n = some k →
      d.leRuns k = true →
      d.cellSt n ≠ 0 →
      d.cellSt n ≠ 7 →
      8 ≤ (d.cell n).noRise →
      exec (.openPhase n) ⟨d, w⟩ = .next ⟨Device.linesFollow (Device.settle (d.retire k n false)), w⟩) ∧
  (∀ (n : Fin 96) (k : Nat) (d : Device) (w : List Instr),
      d.feedOf n = some k →
      d.leRuns k = true →
      d.cellSt n ≠ 0 →
      d.cellSt n ≠ 7 →
      3 ≤ (d.cell n).rangeRun →
      exec (.imonRangeFault n) ⟨d, w⟩ = .next ⟨Device.linesFollow (Device.settle (d.retire k n false)), w⟩) ∧
  (∀ (k : Fin 16) (l : List (Rat × List (Nat × Rat))) (d : Device) (w : List Instr),
      (d.feed k).sums = l →
      d.leRuns k = true →
      16 ≤ l.length →
      (d.feed k).sumSuspended = false →
      exec (.sumCheckJudgement k) ⟨d, w⟩ = .next ⟨Device.linesFollow (Device.settle (
          let m := mean (l.map fun s => s.1)
          let devs := (d.switching k).map fun n => (n, sumDeviation l n)
          let d := d.modFeed k fun f => { f with sums := [] }
          match largestDev devs with
          | some (n, x) =>
            if 0 < x * m ∧ |m| / 2 ≤ |x| then d.retire k n true
            else ((d.setBitOf (O.faultCause k) 7).modFeed k fun f => { f with sumSuspended := true }).raiseB k 0 0x0108 []
          | none => d)), w⟩) ∧
  (∀ (k : Fin 16) (mean : Int) (d : Device) (w : List Instr),
      d.leRuns k = true →
      d.get (O.retiredMask k) ≠ 0 →
      (d.feed k).capacityLimit = false →
      d.get (O.capacity k) * 100 < mean →
      exec (.capacityLimit k mean) ⟨d, w⟩ = .next ⟨Device.linesFollow (
          let d := (d.modFeed k fun f => { f with capacityLimit := true }).raiseD k 0 0x010B []
          d.capNotice k), w⟩)

/-- Feed samples, starts, shedding and drains take their effect (R87, R94, R95, R96, R97, R100, R101, R102, R106,
R107, R111, R113): for every state where the command applies, the next state in full; the queue is unchanged. -/
def Obligations.FeedCommandsHaveTheirEffect : Prop :=
  (∀ (k : Fin 16) (dt : Nat) (vfb : List (Int × Int)) (iF : List Int) (vbus : Int) (imon : List (List Int)) (d : Device) (w : List Instr),
      d.sys.coreRunning = true →
      exec (.loopSample k dt vfb iF vbus imon) ⟨d, w⟩ = .next ⟨Device.linesFollow (
          let d := (d.ripple k dt).takeSamples k vfb iF vbus imon
          d.when (d.leRuns k) fun d => d.loopSample k), w⟩) ∧
  (∀ (k : Fin 16) (d : Device) (w : List Instr),
      d.leRuns k = true →
      (d.feedSt k = 3 ∨ d.feedSt k = 4) →
      (d.feed k).settling = true →
      d.flag (O.reached k) = false →
      exec (.reached k) ⟨d, w⟩ = .next ⟨Device.linesFollow (
          let start := d.feedSt k == 3
          let now := d.now
          let d := (d.setFlag (O.reached k) true).set (O.feedState k) 4
          let d := d.when start fun d => d.modFeed k fun f => { f with runFrom := now }
          let d := d.when start fun d => d.forAll (d.feedCells k) fun n d =>
            d.when (d.cell n).waiting fun d =>
              (d.set (O.cellState n) 2).modCell n fun c => { c with waiting := false }
          d.reachedNotice k), w⟩) ∧
  (∀ (k : Fin 16) (d : Device) (w : List Instr),
      d.leRuns k = true →
      d.flag (O.shedEnable k) = true →
      d.feedSt k = 4 →
      d.get (O.ocState k) = 0 →
      d.get (O.minPhases k) < d.get (O.activePhases k) →
      (d.feed k).es.isNone = true →
      (d.feed k).draining.isNone = true →
      (d.feed k).drainBack.isEmpty = true →
      d.dwellSince k (d.feed k).cappedStamp = true →
      d.dwellSince k (d.feed k).esStamp = true →
      d.perActive k * 10 < (d.get (O.shedLevel k) : Rat) →
      exec (.shedStart k) ⟨d, w⟩ = .next ⟨Device.linesFollow (
          match ((d.listed k).filter fun n => d.cellSt n == 3).getLast? with
          | some n =>
            ((d.set (O.cellState n) 4).modCell n fun c => { c with drained := 0 }).modFeed k fun f =>
              { f with draining := some n }
          | none => d), w⟩) ∧
  (∀ (k : Fin 16) (d : Device) (w : List Instr),
      d.leRuns k = true →
      (d.feed k).es.isNone = true →
      exec (.drainComplete k) ⟨d, w⟩ = .next ⟨Device.linesFollow (
          let f := d.feed k
          match f.drainBack, f.draining with
          | n :: r, _ =>
            d.when (decide (d.get (O.drainCycles k) ≤ ((d.cell n).drained : Int)) && !(d.cell n).busy) fun d =>
              (d.parkCell k n).modFeed k fun f => { f with drainBack := r }
          | [], some n =>
            d.when (decide (d.get (O.drainCycles k) ≤ ((d.cell n).drained : Int)) && !(d.cell n).busy) fun d =>
              let d := (d.parkCell k n).set (O.cellState n) 5
              ((d.modFeed k fun f => { f with draining := none }).recount k).bump (O.shedCount k)
          | [], none => d), w⟩) ∧
  (∀ (k : Fin 16) (d : Device) (w : List Instr),
      d.leRuns k = true →
      d.feedSt k = 4 →
      (d.get (O.addLevel k) : Rat) < d.perActive k * 10 →
      exec (.phaseAdd k) ⟨d, w⟩ = .next ⟨Device.linesFollow (
          match (d.feedCells k).find? fun n => d.cellSt n == 5 with
          | some n =>
            ((d.commitActive k n).modFeed k fun f =>
              { f with drainBack := f.drainBack.filter fun b => b != n
                       es := f.es.map fun e => { e with parked := e.parked.filter fun b => b != n } }).recount k
          | none => d), w⟩) ∧
  (∀ (k : Fin 16) (es : StepEs) (d : Device) (w : List Instr),
      (d.feed k).es = some es →
      d.leRuns k = true →
      es.windowEnd ≤ d.now →
      exec (.stepEsWindowClose k) ⟨d, w⟩ = .next ⟨Device.linesFollow (d.stepFalse k), w⟩) ∧
  (∀ (k : Fin 16) (d : Device) (w : List Instr),
      d.leRuns k = true →
      d.feedSt k = 5 →
      (d.feed k).order.isNone = true →
      (d.feed k).vset = (d.feed k).vtgt →
      exec (.stopComplete k) ⟨d, w⟩ = .next ⟨Device.linesFollow (Device.settle (((d.feedSafe k).setDrven k false).set (O.feedState k) 0)), w⟩)

/-- Feed faults and the bus restart take their effect (R111, R112, R114, R356, R358): for every state where the
command applies, the next state in full; the queue is unchanged. -/
def Obligations.FeedFaultCommandsHaveTheirEffect : Prop :=
  (∀ (k : Fin 16) (d : Device) (w : List Instr),
      d.leRuns k = true →
      (d.feedSt k = 2 ∨ d.feedSt k = 3) →
      exec (.startTimeout k) ⟨d, w⟩ = .next ⟨Device.linesFollow (Device.settle (d.latchB k 5 0x0109)), w⟩) ∧
  (∀ (k : Fin 16) (d : Device) (w : List Instr),
      d.switches k = true →
      2 ≤ (d.feed k).ovRun →
      exec (.outputOv k) ⟨d, w⟩ = .next ⟨Device.linesFollow (Device.settle (d.latchB k 0 0x0101)), w⟩) ∧
  (∀ (k : Fin 16) (d : Device) (w : List Instr),
      d.leRuns k = true →
      (d.feed k).uvRun = true →
      d.feedSt k = 4 →
      d.get (O.ocState k) = 0 →
      d.notCapped k = true →
      exec (.outputUv k) ⟨d, w⟩ = .next ⟨Device.linesFollow (Device.settle (d.latchB k 1 0x0102)), w⟩) ∧
  (∀ (k : Fin 16) (d : Device) (w : List Instr),
      d.leRuns k = true →
      d.feedSt k ≠ 0 →
      d.feedSt k ≠ 7 →
      d.feedSt k ≠ 8 →
      3 ≤ (d.feed k).senseRun →
      exec (.senseOpen k) ⟨d, w⟩ = .next ⟨Device.linesFollow (Device.settle (d.latchB k 2 0x0103)), w⟩) ∧
  (∀ (k : Fin 16) (d : Device) (w : List Instr),
      d.leRuns k = true →
      2 ≤ d.feedSt k →
      d.feedSt k ≤ 6 →
      4 ≤ (d.feed k).busRun →
      exec (.busOutOfRange k) ⟨d, w⟩ = .next ⟨Device.linesFollow (Device.settle (
          let d := (((d.feedSafe k).endHiccup k).setBitOf (O.faultCause k) 6)
          let d := if d.flag (O.feedEnable k) then d.set (O.feedState k) 1 else (d.setDrven k false).set (O.feedState k) 0
          (d.setFlag (O.reached k) false).raiseD k 0 0x010A [])), w⟩) ∧
  (∀ (k : Fin 16) (d : Device) (w : List Instr),
      d.leRuns k = true →
      d.feedSt k = 1 →
      (d.get (O.busRestart k) : Rat) ≤ (d.feed k).vbus * 1000 →
      (d.feed k).vbus ≤ 60 →
      exec (.busRestart k) ⟨d, w⟩ = .next ⟨Device.linesFollow (d.enterPretest k false), w⟩)

/-- Accepted writes of feed and cell objects take their effect (R56, R57, R82, R95, R112, R113, R146, R409, R411,
R414, R421): for every state where the command applies, the next state in full; the queue is unchanged. -/
def Obligations.FeedWritesHaveTheirEffect : Prop :=
  (∀ (n : Fin 96) (path : Fin 17) (d : Device) (w : List Instr),
      d.accepts path (O.readmit n) n ((O.readmit n).ty.encode 1) →
      exec (.readmit n path) ⟨d, w⟩ = .next ⟨Device.linesFollow (Device.settle ((d.readmitNow n).written path (O.readmit n) 1)), w⟩) ∧
  (∀ (k : Fin 16) (path : Fin 17) (map : List Byte) (d : Device) (w : List Instr),
      d.accepts path (O.phaseMap k) k map →
      exec (.phaseMapWrite k path map) ⟨d, w⟩ = .next ⟨Device.linesFollow (Device.settle (((d.set (O.phaseMap k) (ofLe map)).mapApplied k (d.feedCells k)).written path (O.phaseMap k) (ofLe map))), w⟩) ∧
  (∀ (k : Fin 16) (path : Fin 17) (d : Device) (w : List Instr),
      d.accepts path (O.feedEnable k) k ((O.feedEnable k).ty.encode 1) →
      exec (.feedEnable k path) ⟨d, w⟩ = .next ⟨Device.linesFollow (Device.settle (((d.set (O.feedEnable k) 1).feedStart k).written path (O.feedEnable k) 1)), w⟩) ∧
  (∀ (k : Fin 16) (path : Fin 17) (d : Device) (w : List Instr),
      d.accepts path (O.feedEnable k) k ((O.feedEnable k).ty.encode 0) →
      exec (.feedDisable k path) ⟨d, w⟩ = .next ⟨Device.linesFollow (Device.settle (((d.set (O.feedEnable k) 0).feedStop k).written path (O.feedEnable k) 0)), w⟩) ∧
  (∀ (k : Fin 16) (path : Fin 17) (mv : BitVec 16) (d : Device) (w : List Instr),
      d.accepts path (O.targetVoltage k) k ((O.targetVoltage k).ty.encode mv.toNat) →
      exec (.targetVoltageWrite k path mv) ⟨d, w⟩ = .next ⟨Device.linesFollow (Device.settle (((d.set (O.targetVoltage k) mv.toNat).targetNow k mv.toNat).written path (O.targetVoltage k) mv.toNat)), w⟩) ∧
  (∀ (k : Fin 16) (path : Fin 17) (on : Bool) (d : Device) (w : List Instr),
      d.accepts path (O.linkEnable k) k ((O.linkEnable k).ty.encode (b2i on)) →
      exec (.zflLinkEnableWrite k path on) ⟨d, w⟩ = .next ⟨Device.linesFollow (Device.settle (((d.set (O.linkEnable k) (b2i on)).linkEnableNow k on).written path (O.linkEnable k) (b2i on))), w⟩)

/-- Frames of a tray take their effect (R126, R129, R136, R137, R138, R139, R140, R141, R142, R143, R147): for every
state where the command applies, the next state in full; the queue is unchanged. -/
def Obligations.LinkFramesHaveTheirEffect : Prop :=
  (∀ (k : Fin 16) (seq : Byte) (payload : List Byte) (d : Device) (w : List Instr),
      d.get (O.linkState k) = 2 →
      d.live = true →
      badOffset 4 [(2, 0xFC), (3, 0xFF)] payload = none →
      (((d.rxFrame k).link k).last.map fun a => a.1) ≠ some seq.toNat →
      (d.rxFrame k).voltageRefusal k (ofLe (payload.take 2)) ((payload.getD 2 0).toNat % 4) = none →
      exec (.zflSetVoltage k seq payload) ⟨d, w⟩ = .next ⟨Device.linesFollow (
          ((d.rxFrame k).answerNew k seq.toNat 0x10 payload 0x01 [0x10, 0]).orderTarget k (ofLe (payload.take 2)) ((payload.getD 2 0).toNat % 4)
            (some seq.toNat)), w⟩) ∧
  (∀ (k : Fin 16) (seq : Byte) (payload : List Byte) (r : Nat) (x : Int) (d : Device) (w : List Instr),
      d.get (O.linkState k) = 2 →
      d.live = true →
      badOffset 4 [(2, 0xFC), (3, 0xFF)] payload = none →
      (((d.rxFrame k).link k).last.map fun a => a.1) ≠ some seq.toNat →
      (d.rxFrame k).voltageRefusal k (ofLe (payload.take 2)) ((payload.getD 2 0).toNat % 4) = some (r, x) →
      exec (.zflSetVoltage k seq payload) ⟨d, w⟩ = .next ⟨Device.linesFollow ((d.rxFrame k).refuseNew k seq.toNat 0x10 payload r x), w⟩) ∧
  (∀ (k : Fin 16) (seq : Byte) (payload : List Byte) (d : Device) (w : List Instr),
      d.get (O.linkState k) = 2 →
      d.live = true →
      badOffset 4 [(1, 0xFF)] payload = none →
      (((d.rxFrame k).link k).last.map fun a => a.1) ≠ some seq.toNat →
      exec (.zflHint k seq payload) ⟨d, w⟩ = .next ⟨Device.linesFollow (
          let d := d.rxFrame k
          let us := (payload.getD 0 0).toNat
          let step := ofLe ((payload.drop 2).take 2)
          if us < 2 ∨ 200 < us ∨ step < 1 ∨ 60000 < step then
            (d.refuseNew k seq.toNat 0x11 payload 0x02 d.freeVal).used
          else
            let d := d.answerNew k seq.toNat 0x11 payload 0x01 [0x11, 0]
            if d.stepMay k then d.stepStart k us step else d.bump (O.ignoredHints k)), w⟩) ∧
  (∀ (k : Fin 16) (seq : Byte) (payload : List Byte) (d : Device) (w : List Instr),
      d.get (O.linkState k) = 2 →
      d.live = true →
      badOffset 2 [(1, 0xFF)] payload = none →
      (((d.rxFrame k).link k).last.map fun a => a.1) ≠ some seq.toNat →
      exec (.zflQuery k seq payload) ⟨d, w⟩ = .next ⟨Device.linesFollow (
          let d := d.rxFrame k
          let item := (payload.getD 0 0).toNat
          let ans := match d.queryItem k item with
            | some v => leBytes 1 item ++ [0] ++ leBytes 4 v
            | none => leBytes 1 item ++ [2] ++ leBytes 4 0
          d.answerNew k seq.toNat 0x12 payload 0x05 ans), w⟩) ∧
  (∀ (k : Fin 16) (seq : Byte) (payload : List Byte) (d : Device) (w : List Instr),
      d.get (O.linkState k) ≠ 0 →
      d.live = true →
      payload = [] →
      exec (.zflIdle k seq payload) ⟨d, w⟩ = .next ⟨Device.linesFollow ((d.rxFrame k).sweepTurn k true), w⟩) ∧
  (∀ (k : Fin 16) (seq : Byte) (payload : List Byte) (n : Notice) (d : Device) (w : List Instr),
      d.get (O.linkState k) = 2 →
      d.live = true →
      badOffset 2 [(1, 0xFE)] payload = none →
      ((d.rxFrame k).link k).outstanding = some n →
      n.seq = seq.toNat →
      n.kind = (payload.getD 0 0).toNat →
      exec (.zflTrayAck k seq payload) ⟨d, w⟩ = .next ⟨Device.linesFollow (((d.rxFrame k).modLink k fun l => { l with outstanding := none }).pumpNotices k), w⟩) ∧
  (∀ (k : Fin 16) (type seq : Byte) (payload : List Byte) (d : Device) (w : List Instr),
      d.live = true →
      d.get (O.linkState k) = 2 →
      [0x01#8, 0x10#8, 0x11#8, 0x12#8, 0x13#8].contains type = false →
      exec (.zflUnknownType k type seq payload) ⟨d, w⟩ = .next ⟨Device.linesFollow ((d.rxFrame k).refuse k seq.toNat type.toNat 0x08 type.toNat), w⟩) ∧
  (∀ (k : Fin 16) (d : Device) (w : List Instr),
      d.live = true →
      d.get (O.linkState k) ≠ 0 →
      exec (.zflCorruptFrame k) ⟨d, w⟩ = .next ⟨Device.linesFollow (Device.settle ((d.bump (O.crcErrors k)).missTurn k)), w⟩)

/-- Turns, notices and training of a link take their effect (R129, R131, R136, R146, R147): for every state where the
command applies, the next state in full; the queue is unchanged. -/
def Obligations.LinkCommandsHaveTheirEffect : Prop :=
  (∀ (k : Fin 16) (d : Device) (w : List Instr),
      d.live = true →
      d.get (O.linkState k) = 2 →
      exec (.zflAlert k) ⟨d, w⟩ = .next ⟨Device.linesFollow (d.sendGrant k), w⟩) ∧
  (∀ (k : Fin 16) (d : Device) (w : List Instr),
      d.live = true →
      d.get (O.linkState k) = 2 →
      exec (.zflBeat k) ⟨d, w⟩ = .next ⟨Device.linesFollow (d.sendGrant k), w⟩) ∧
  (∀ (k : Fin 16) (d : Device) (w : List Instr),
      d.live = true →
      d.get (O.linkState k) ≠ 0 →
      exec (.zflTurnMissed k) ⟨d, w⟩ = .next ⟨Device.linesFollow (Device.settle (d.missTurn k)), w⟩) ∧
  (∀ (k : Fin 16) (d : Device) (w : List Instr),
      d.live = true →
      d.get (O.linkState k) = 2 →
      exec (.zflNoticeTimeout k) ⟨d, w⟩ = .next ⟨Device.linesFollow (Device.settle (
          match (d.link k).outstanding with
          | none => d
          | some n =>
            if (n.tries : Int) < d.get (O.noticeRetries k) then
              ((d.modLink k fun l => { l with outstanding := some { n with tries := n.tries + 1 } }).sendZfl k n.kind n.seq
                n.payload).sendGrant k
            else d.linkLoss k)), w⟩) ∧
  (∀ (k : Fin 16) (d : Device) (w : List Instr),
      d.live = true →
      d.flag (O.linkEnable k) = true →
      d.tgSt k = 5 →
      d.get (O.linkState k) = 0 →
      exec (.zflTrainingStart k) ⟨d, w⟩ = .next ⟨Device.linesFollow (
          let d := (d.set (O.linkState k) 1).modPins fun p => { p with zclkRun := modAt p.zclkRun k fun _ => true }
          if d.get (O.samplePhaseOverride k) = 0xFF then d.sweepStart k
          else d.linkUp k (d.getN (O.samplePhaseOverride k))), w⟩) ∧
  (∀ (k : Fin 16) (tap : Fin 16) (d : Device) (w : List Instr),
      d.sweepDone k = true →
      chooseTap (goodTaps (d.link k).sweep) = some tap.val →
      exec (.zflTrainingComplete k tap) ⟨d, w⟩ = .next ⟨Device.linesFollow (d.linkUp k tap), w⟩) ∧
  (∀ (k : Fin 16) (d : Device) (w : List Instr),
      d.sweepDone k = true →
      (chooseTap (goodTaps (d.link k).sweep)).isNone = true →
      exec (.zflTrainingRetry k) ⟨d, w⟩ = .next ⟨Device.linesFollow (d.sweepStart k), w⟩)

/-- Presence, inrush, foldback and trips of a tray gate take their effect (R155, R157, R158, R159, R160, R161, R162,
R163, R164, R173, R176): for every state where the command applies, the next state in full; the queue is unchanged. -/
def Obligations.TrayGateCommandsHaveTheirEffect : Prop :=
  (∀ (k : Fin 16) (d : Device) (w : List Instr),
      d.live = true →
      d.tgSt k = 1 →
      exec (.presenceQualified k) ⟨d, w⟩ = .next ⟨Device.linesFollow ((d.setFlag (O.presence k) true).presenceAnew k), w⟩) ∧
  (∀ (k : Fin 16) (d : Device) (w : List Instr),
      d.live = true →
      d.tgSt k ≠ 1 →
      exec (.presenceQualified k) ⟨d, w⟩ = .next ⟨Device.linesFollow (d.setFlag (O.presence k) true), w⟩) ∧
  (∀ (k : Fin 16) (d : Device) (w : List Instr),
      d.sys.coreRunning = true →
      exec (.presenceLoss k) ⟨d, w⟩ = .next ⟨Device.linesFollow (Device.settle (
          let d := (((d.setFlag (O.presence k) false).setFlag (O.tgRetrying k) false).set (O.tgRetryCount k) 0).edge (96 + k)
          d.when (d.tgSt k != 7 && d.tgSt k != 0) fun d => (d.tgOpen k 1).modGate k fun g => { g with delayMet := false })), w⟩) ∧
  (∀ (k : Fin 16) (d : Device) (w : List Instr),
      d.live = true →
      d.tgSt k = 2 →
      exec (.insertDelayMet k) ⟨d, w⟩ = .next ⟨Device.linesFollow ((d.set (O.tgState k) 3).modGate k fun g => { g with delayMet := true }), w⟩) ∧
  (∀ (k : Fin 16) (d : Device) (w : List Instr),
      d.live = true →
      d.tgSt k = 3 →
      d.tgMayClose k = true →
      exec (.inrushStart k) ⟨d, w⟩ = .next ⟨Device.linesFollow (d.tgInrush k), w⟩) ∧
  (∀ (k : Fin 16) (samples : List (Int × BitVec 12 × BitVec 12)) (d : Device) (w : List Instr),
      d.live = true →
      d.tgSt k = 4 →
      exec (.inrushDone k samples) ⟨d, w⟩ = .next ⟨Device.linesFollow (
          let l := fitSamples samples
          let fit := trayFit l
          let cap : Int := match fit with
            | some (c, _) => satU 32 (quant (c * 1000000))
            | none => 0xFFFFFFFF
          let leak : Int := match fit with
            | some (_, g) => satU 16 (quant (g * 12 * 1000))
            | none => 0xFFFF
          let e := inrushEnergyOf samples
          let d := (((d.set (O.tgState k) 5).set (O.inrushEnergy k) e).set (O.trayCapacitance k) cap).set
            (O.trayLeakage k) leak
          let d := ((d.stampAt (O.lastCloseStamp k)).setFlag (O.tgRetrying k) false).modGate k fun g =>
            { g with foldback := false, closedLap := false, cable := none, onRes := none, fit := fitSums l }
          let d := (d.set (O.cableResistance k) 0xFFFF).set (O.gateOnResistance k) 0xFFFF
          d.raiseD (16 + k) 0 0x0303 (leBytes 4 e ++ leBytes 4 cap ++ leBytes 2 leak)), w⟩) ∧
  (∀ (m : Inrush) (d : Device) (w : List Instr),
      d.live = true →
      d.tgSt m.k = 4 →
      exec (.inrushTimeout m) ⟨d, w⟩ = .next ⟨Device.linesFollow (Device.settle ((d.set (O.inrushEnergy m.k) (inrushEnergyOf m.samples)).tgTrip m.k 2)), w⟩) ∧
  (∀ (k : Fin 16) (d : Device) (w : List Instr),
      d.live = true →
      (d.tgSt k = 4 ∨ d.tgSt k = 5) →
      exec (.tgShort k) ⟨d, w⟩ = .next ⟨Device.linesFollow (Device.settle (d.tgTrip k 0)), w⟩) ∧
  (∀ (k : Fin 16) (d : Device) (w : List Instr),
      d.live = true →
      d.tgSt k = 5 →
      exec (.foldbackEntry k) ⟨d, w⟩ = .next ⟨Device.linesFollow (d.modGate k fun g => { g with foldback := true }), w⟩) ∧
  (∀ (k : Fin 16) (d : Device) (w : List Instr),
      d.live = true →
      d.tgSt k = 5 →
      (d.gate k).foldback = true →
      exec (.foldbackTimeout k) ⟨d, w⟩ = .next ⟨Device.linesFollow (Device.settle (d.tgTrip k 1)), w⟩) ∧
  (∀ (k : Fin 16) (d : Device) (w : List Instr),
      d.live = true →
      d.tgSt k = 5 →
      exec (.foldbackRecovery k) ⟨d, w⟩ = .next ⟨Device.linesFollow (d.modGate k fun g => { g with foldback := false }), w⟩) ∧
  (∀ (k : Fin 16) (window : Bool) (d : Device) (w : List Instr),
      ((window = true ∧ d.tgWindowLost k = true) ∨ (window = false ∧ d.tgFeedLost k = true)) →
      (d.tgSt k = 4 ∨ d.tgSt k = 5) →
      exec (.tgOpenNoTrip k window) ⟨d, w⟩ = .next ⟨Device.linesFollow ((d.tgOpen k 3).setFlag (O.tgRetrying k) false), w⟩) ∧
  (∀ (k : Fin 16) (d : Device) (w : List Instr),
      d.live = true →
      d.tgSt k = 6 →
      exec (.cooldownEnd k) ⟨d, w⟩ = .next ⟨Device.linesFollow (if d.tgMayClose k then d.tgInrush k else (d.set (O.tgState k) 3).setFlag (O.tgRetrying k) false), w⟩) ∧
  (∀ (k : Fin 16) (d : Device) (w : List Instr),
      d.live = true →
      d.tgSt k = 5 →
      exec (.tgRetryReset k) ⟨d, w⟩ = .next ⟨Device.linesFollow (d.set (O.tgRetryCount k) 0), w⟩)

/-- Accepted writes of tray gates and diode gates take their effect (R157, R160, R163, R165, R167, R171, R361, R409,
R411, R414, R421): for every state where the command applies, the next state in full; the queue is unchanged. -/
def Obligations.GateWritesHaveTheirEffect : Prop :=
  (∀ (k : Fin 16) (path : Fin 17) (d : Device) (w : List Instr),
      d.accepts path (O.tgAck k) k ((O.tgAck k).ty.encode 1) →
      exec (.tgAck k path) ⟨d, w⟩ = .next ⟨Device.linesFollow (Device.settle (((d.tgAckNow k).releaseAck (16 + k)).written path (O.tgAck k) 1)), w⟩) ∧
  (∀ (k : Fin 16) (path : Fin 17) (d : Device) (w : List Instr),
      d.accepts path (O.tgEnable k) k ((O.tgEnable k).ty.encode 1) →
      d.get (O.tgEnable k) ≠ 1 →
      exec (.tgEnable k path) ⟨d, w⟩ = .next ⟨Device.linesFollow (Device.settle (((d.set (O.tgEnable k) 1).tgEnableNow k).written path (O.tgEnable k) 1)), w⟩) ∧
  (∀ (k : Fin 16) (path : Fin 17) (d : Device) (w : List Instr),
      d.accepts path (O.tgEnable k) k ((O.tgEnable k).ty.encode 0) →
      d.get (O.tgEnable k) ≠ 0 →
      exec (.tgDisable k path) ⟨d, w⟩ = .next ⟨Device.linesFollow (Device.settle (((d.set (O.tgEnable k) 0).tgDisableNow k).written path (O.tgEnable k) 0)), w⟩) ∧
  (∀ (g : Fin 6) (path : Fin 17) (vak : Int) (e : Device) (d : Device) (w : List Instr),
      e = { d with diodes := modAt d.diodes g fun x => { x with vak := some ((vak : Rat) / 1000) } } →
      e.accepts path (O.gateRequest g) g [1] →
      e.get (O.gateRequest g) ≠ 1 →
      exec (.gateRequestDiode g path vak) ⟨d, w⟩ = .next ⟨Device.linesFollow (Device.settle (
          let e := ((e.set (O.gateRequest g) 1).requestDiode g).written path (O.gateRequest g) 1
          { e with diodes := modAt e.diodes g fun x => { x with vak := none } })), w⟩) ∧
  (∀ (g : Fin 6) (path : Fin 17) (d : Device) (w : List Instr),
      d.accepts path (O.gateRequest g) g ((O.gateRequest g).ty.encode 0) →
      d.get (O.gateRequest g) ≠ 0 →
      exec (.gateRequestOff g path) ⟨d, w⟩ = .next ⟨Device.linesFollow (Device.settle (((d.set (O.gateRequest g) 0).requestOff g).written path (O.gateRequest g) 0)), w⟩) ∧
  (∀ (g : Fin 6) (path : Fin 17) (d : Device) (w : List Instr),
      d.accepts path (O.gateAck g) g ((O.gateAck g).ty.encode 1) →
      exec (.gateAck g path) ⟨d, w⟩ = .next ⟨Device.linesFollow (Device.settle (((d.gateAckNow g).releaseAck (32 + g)).written path (O.gateAck g) 1)), w⟩)

/-- Precharge, reverse turn-off and faults of a diode gate take their effect (R166, R167, R171, R172, R175): for every
state where the command applies, the next state in full; the queue is unchanged. -/
def Obligations.DiodeGateCommandsHaveTheirEffect : Prop :=
  (∀ (g : Fin 6) (d : Device) (w : List Instr),
      d.gatePowered = true →
      d.get (O.gateMode g) = 1 →
      exec (.prechargeDone g) ⟨d, w⟩ = .next ⟨Device.linesFollow (d.enterDiode g), w⟩) ∧
  (∀ (g : Fin 6) (d : Device) (w : List Instr),
      d.gatePowered = true →
      d.get (O.gateMode g) = 1 →
      exec (.prechargeTimeout g) ⟨d, w⟩ = .next ⟨Device.linesFollow (Device.settle (d.gateFaultB g 2)), w⟩) ∧
  (∀ (g : Fin 6) (d : Device) (w : List Instr),
      d.gatePowered = true →
      d.get (O.gateMode g) = 2 →
      d.flag (O.conducting g) = true →
      exec (.reverseTurnOff g) ⟨d, w⟩ = .next ⟨Device.linesFollow (Device.settle (
          let d := (d.setFlag (O.conducting g) false).bump (O.reverseOffs g)
          (d.setDrive g (if d.gatePreBiased g then .preBias else .reverseHold)).edge (112 + g))), w⟩) ∧
  (∀ (g : Fin 6) (d : Device) (w : List Instr),
      d.gatePowered = true →
      d.get (O.gateMode g) = 2 →
      (d.flag (O.conducting g) = false ∨ d.drive g = .preBias) →
      exec (.diodeTurnOn g) ⟨d, w⟩ = .next ⟨Device.linesFollow ((d.setFlag (O.conducting g) true).setDrive g (if d.gatePreBiased g then .full else .regulating)), w⟩) ∧
  (∀ (g : Fin 6) (d : Device) (w : List Instr),
      d.gatePowered = true →
      d.get (O.gateMode g) = 2 →
      d.flag (O.conducting g) = true →
      exec (.dropFault g) ⟨d, w⟩ = .next ⟨Device.linesFollow (Device.settle (d.gateFaultB g 0)), w⟩) ∧
  (∀ (g : Fin 6) (d : Device) (w : List Instr),
      d.gatePowered = true →
      d.flag (O.conducting g) = false →
      d.get (O.gateMode g) ≠ 1 →
      exec (.bankShorted g) ⟨d, w⟩ = .next ⟨Device.linesFollow (Device.settle (d.gateFaultB g 1)), w⟩) ∧
  (∀ (step : Int) (m : BarStep) (d : Device) (w : List Instr),
      d.live = true →
      d.get O.bbStepMin * 100 ≤ |step| →
      exec (.busBarMeasure step m) ⟨d, w⟩ = .next ⟨Device.linesFollow (
          let first := d.get O.bbSteps = 0
          let r0 := if first then Config.freeRat d.free else d.bar.resistance
          let d := d.when (decide first) Device.used
          let r : Rat := quot ((m.dv : Rat) * 1000) (m.di : Rat)
          let r1 := r0 + (r - r0) / 8
          let d := { d with bar := ⟨r1⟩ }.bump O.bbSteps
          d.when (decide (4 ≤ d.get O.bbSteps)) fun d => d.set O.busBarResistance (satU 16 (quant r1))), w⟩)

/-- Identity, removal and the charger of a string take their effect (R215, R216, R217, R219, R220, R221, R222): for
every state where the command applies, the next state in full; the queue is unchanged. -/
def Obligations.StringCommandsHaveTheirEffect : Prop :=
  (∀ (x : StringWires) (d : Device) (w : List Instr),
      d.live = true →
      d.strSt x.n = 1 →
      thermIn x.sth = true →
      400000 ≤ x.sid →
      x.sid ≤ 1400000 →
      exec (.stringQualified x) ⟨d, w⟩ = .next ⟨Device.linesFollow (d.strQualified x.n), w⟩) ∧
  (∀ (n : Fin 4) (sync : Byte) (rest : List Byte) (d : Device) (w : List Instr),
      d.live = true →
      (d.str n).reading = true →
      exec (.identityReadDone n sync rest) ⟨d, w⟩ = .next ⟨Device.linesFollow (Device.settle (
          match validIdentity (sync :: rest) with
          | some i =>
            if d.strSt n = 2 then d.identified n i
            else if d.get (O.stringIdentity n) = i then d.modStr n fun x => { x with reading := false, fails := 0 }
            else (d.strRemoved n).strQualified n
          | none =>
            let f := (d.str n).fails + 1
            if 3 ≤ f ∧ (d.str n).anonymous = false ∨ 3 ≤ f ∧ d.strSt n = 2 then d.identified n 0
            else d.modStr n fun x => { x with reading := false, fails := f })), w⟩) ∧
  (∀ (n : Fin 4) (d : Device) (w : List Instr),
      d.live = true →
      2 ≤ d.strSt n →
      (d.str n).reading = false →
      exec (.identityReread n) ⟨d, w⟩ = .next ⟨Device.linesFollow ((d.modStr n fun x => { x with reading := true }).emit (.note 215 [n])), w⟩) ∧
  (∀ (x : StringWires) (d : Device) (w : List Instr),
      d.live = true →
      2 ≤ d.strSt x.n →
      (thermIn x.sth = false ∨ ((d.str x.n).reading = false ∧ (1600000 < x.sid ∨ x.sid < 200000))) →
      exec (.stringRemoval x) ⟨d, w⟩ = .next ⟨Device.linesFollow (Device.settle (d.strRemoved x.n)), w⟩) ∧
  (∀ (n : Fin 4) (dt : Nat) (i : ChargerCurrent) (mean : Option Int) (d : Device) (w : List Instr),
      d.chargerMay n = true →
      (d.chargerRamp n dt mean).chargerTriggers n dt ((i.fire : Rat) / 1000) = true →
      exec (.chargerFire n dt i mean) ⟨d, w⟩ = .next ⟨Device.linesFollow (
          let r := d.chargerRamp n dt mean
          let peak := decide (d.get O.chargerPeakLimit * 100 < i.peak)
          let d := (r.when peak fun d => d.bump (O.peakLimited n)).emit (.note 220 [n, r.chargerEu n])
          d.modPins fun p => { p with chPwm := modAt p.chPwm n fun _ => if i.low < 500 then .mid else .low
                                      chDrven := modAt p.chDrven n fun _ => true }), w⟩) ∧
  (∀ (o : ChargerOutput) (d : Device) (w : List Instr),
      d.sys.coreRunning = true →
      (d.get (O.cellCount o.n) * d.get (O.chargerOvCell o.n) * 1000 < o.chvo ∨
        (o.chvo < 5000000 ∧ d.pins.chDrven.getD o.n false = true ∧ 0 < (d.str o.n).iset)) →
      exec (.chargerWindowTrip o) ⟨d, w⟩ = .next ⟨Device.linesFollow ((d.chargerOff o.n).modStr o.n fun x => { x with tripped := decide (2 ≤ d.strSt o.n) }), w⟩) ∧
  (∀ (n : Fin 4) (d : Device) (w : List Instr),
      d.live = true →
      (d.str n).tripped = true →
      2 ≤ d.strSt n →
      exec (.chargerFault n) ⟨d, w⟩ = .next ⟨Device.linesFollow (Device.settle (
          (((d.modStr n fun x => { x with tripped := false, ir := 0, iset := 0 }).set (O.chargeSetpoint n) 0).stringFault n 0).raiseB
            (strBlock n) 1 0x0502 [1])), w⟩) ∧
  (∀ (n : Fin 4) (d : Device) (w : List Instr),
      d.geRuns = true →
      d.charging n = true →
      5 ≤ (d.str n).watch.sense →
      exec (.chargerSenseFault n) ⟨d, w⟩ = .next ⟨Device.linesFollow (Device.settle (((d.chargeStop n).stringFault n 1).raiseB (strBlock n) 1 0x0502 [2])), w⟩)

/-- The charge states of a string take their effect (R227, R228, R229, R230, R233, R234, R237, R253): for every state
where the command applies, the next state in full; the queue is unchanged. -/
def Obligations.ChargeCommandsHaveTheirEffect : Prop :=
  (∀ (n : Fin 4) (d : Device) (w : List Instr),
      d.geRuns = true →
      d.strSt n = 4 →
      40000 ≤ (d.str n).watch.qualify →
      exec (.qualifyPass n) ⟨d, w⟩ = .next ⟨Device.linesFollow (d.enterCharge n 5), w⟩) ∧
  (∀ (n : Fin 4) (d : Device) (w : List Instr),
      d.geRuns = true →
      d.strSt n = 4 →
      minutes (d.get (O.qualifyTimeout n)) ≤ d.elapsedNow n →
      exec (.qualifyTimeout n) ⟨d, w⟩ = .next ⟨Device.linesFollow (Device.settle (((d.chargeStop n).stringFault n 2).raiseB (strBlock n) 1 0x0502 [4])), w⟩) ∧
  (∀ (n : Fin 4) (v : Int) (therm : List Int) (d : Device) (w : List Instr),
      d.geRuns = true →
      d.strSt n = 5 →
      exec (.chargeEndEvaluation n v therm) ⟨d, w⟩ = .next ⟨Device.linesFollow (
          let x := d.str n
          let d := d.modStr n fun x => { x with sinceReset := x.sinceReset + 1, evals := x.evals + 1 }
          if d.chargePaused n = true then d
          else if x.skip ≠ 0 then d.modStr n fun x => { x with skip := x.skip - 1 }
          else
            let d := d.evaluate n ((v : Rat) / 1000000 / d.nCells n) ((d.meanTemp therm).getD x.temp)
            let c := d.endCriteria n
            let b := d.backupCauses n
            if b ≠ 0 then d.backupNow n (c + b)
            else if c ≠ 0 then (d.set (O.endCause n) c).enterCharge n 6
            else d), w⟩) ∧
  (∀ (n : Fin 4) (causes : BitVec 4) (d : Device) (w : List Instr),
      d.geRuns = true →
      (d.strSt n = 5 ∨ d.strSt n = 6) →
      causes &&& BitVec.ofInt 4 (d.backupCauses n) ≠ 0 →
      exec (.backupStop n causes) ⟨d, w⟩ = .next ⟨Device.linesFollow (d.backupNow n (d.backupCauses n)), w⟩) ∧
  (∀ (n : Fin 4) (d : Device) (w : List Instr),
      d.geRuns = true →
      d.strSt n = 6 →
      minutes (d.get (O.topoffTime n)) ≤ d.elapsedNow n →
      exec (.topoffEnd n) ⟨d, w⟩ = .next ⟨Device.linesFollow (
          let d := (d.modStr n fun x => { x with restDue := none }).anchor n 1 1 (1 / 100)
          d.enterCharge n 7), w⟩) ∧
  (∀ (n : Fin 4) (d : Device) (w : List Instr),
      d.geRuns = true →
      d.strSt n = 7 →
      (d.get (O.rechargeCharge n) * 360000000 ≤ (d.str n).qMaintain - (d.str n).qInt ∨ 60 ≤ (d.str n).watch.low) →
      exec (.recharge n) ⟨d, w⟩ = .next ⟨Device.linesFollow (d.enterCharge n 5), w⟩) ∧
  (∀ (n : Fin 4) (d : Device) (w : List Instr),
      d.geRuns = true →
      d.present n = true →
      d.get (O.cutoffTime n) ≤ ((d.str n).watch.cut : Int) →
      exec (.cutoff n) ⟨d, w⟩ = .next ⟨Device.linesFollow (
          let d := d.modStr n fun x => { x with watch := { x.watch with cut := 0, release := 0 } }
          ((d.setFlag (O.cutoffHold n) true).strGatePolicy n).raiseD (strBlock n) 0 0x0504 []), w⟩) ∧
  (∀ (n : Fin 4) (d : Device) (w : List Instr),
      d.geRuns = true →
      d.flag (O.cutoffHold n) = true →
      40000 ≤ (d.str n).watch.release →
      exec (.cutoffRelease n) ⟨d, w⟩ = .next ⟨Device.linesFollow ((d.setFlag (O.cutoffHold n) false).strGatePolicy n), w⟩)

/-- Accepted writes of string and charge objects take their effect (R218, R219, R227, R237, R261, R361, R409, R411,
R414, R421): for every state where the command applies, the next state in full; the queue is unchanged. -/
def Obligations.StringWritesHaveTheirEffect : Prop :=
  (∀ (n : Fin 4) (path : Fin 17) (d : Device) (w : List Instr),
      d.accepts path (O.stringAck n) n ((O.stringAck n).ty.encode 1) →
      exec (.stringAck n path) ⟨d, w⟩ = .next ⟨Device.linesFollow (Device.settle (((d.stringAckNow n).releaseAck (38 + n)).written path (O.stringAck n) 1)), w⟩) ∧
  (∀ (n : Fin 4) (path : Fin 17) (d : Device) (w : List Instr),
      d.accepts path (O.stringEnable n) n ((O.stringEnable n).ty.encode 1) →
      d.get (O.stringEnable n) ≠ 1 →
      exec (.stringEnable n path) ⟨d, w⟩ = .next ⟨Device.linesFollow (Device.settle (((d.set (O.stringEnable n) 1).stringEnableNow n).written path (O.stringEnable n) 1)), w⟩) ∧
  (∀ (n : Fin 4) (path : Fin 17) (d : Device) (w : List Instr),
      d.accepts path (O.stringEnable n) n ((O.stringEnable n).ty.encode 0) →
      d.get (O.stringEnable n) ≠ 0 →
      exec (.stringDisable n path) ⟨d, w⟩ = .next ⟨Device.linesFollow (Device.settle (((d.set (O.stringEnable n) 0).stringDisableNow n).written path (O.stringEnable n) 0)), w⟩) ∧
  (∀ (path : Fin 17) (on : Bool) (d : Device) (w : List Instr),
      d.accepts path O.chargeEnable 0 (O.chargeEnable.ty.encode (b2i on)) →
      exec (.chargeEnable path on) ⟨d, w⟩ = .next ⟨Device.linesFollow (Device.settle (((d.set O.chargeEnable (b2i on)).when (!on) Device.chargeDisableNow).written path O.chargeEnable (b2i on))), w⟩) ∧
  (∀ (n : Fin 4) (path : Fin 17) (d : Device) (w : List Instr),
      d.accepts path (O.forgetLearned n) n ((O.forgetLearned n).ty.encode 1) →
      exec (.forgetLearned n path) ⟨d, w⟩ = .next ⟨Device.linesFollow (Device.settle ((d.forgetNow n).written path (O.forgetLearned n) 1)), w⟩)

/-- Gauge samples, filter steps and anchors take their effect (R240, R241, R242, R243, R248, R249, R251, R253, R254,
R255): for every state where the command applies, the next state in full; the queue is unchanged. -/
def Obligations.GaugeCommandsHaveTheirEffect : Prop :=
  (∀ (n : Fin 4) (m : GaugeIn) (d : Device) (w : List Instr),
      d.sys.coreRunning = true →
      exec (.gaugeSample n m) ⟨d, w⟩ = .next ⟨Device.linesFollow (d.gaugeSample n m), w⟩) ∧
  (∀ (n : Fin 4) (d : Device) (w : List Instr),
      d.live = true →
      8 ≤ (d.str n).overRun →
      exec (.shuntOverloadEvent n) ⟨d, w⟩ = .next ⟨Device.linesFollow (d.raiseC (strBlock n) 0 0x0507 []), w⟩) ∧
  (∀ (v0 v1 v2 v3 : Int) (d : Device) (w : List Instr),
      d.geRuns = true →
      exec (.kalmanStep v0 v1 v2 v3) ⟨d, w⟩ = .next ⟨Device.linesFollow (d.forAll (List.range 4) fun n d => d.when (d.present n) fun d => d.kalmanStep n (sel n [v0, v1, v2, v3])), w⟩) ∧
  (∀ (n : Fin 4) (old new : Int) (di r : Rat) (d : Device) (w : List Instr),
      d.geRuns = true →
      d.present n = true →
      (d.str n).watch.currentStep = some di →
      r = ((new - old : Int) : Rat) / 1000000 / di →
      (d.get O.rStepMin : Rat) / 10 ≤ |di| →
      0 < r →
      r ≤ 4 * d.rs n →
      exec (.resistanceStep n old new) ⟨d, w⟩ = .next ⟨Device.linesFollow (
          let r25 := r / d.resFactor n
          let d := d.modStr n fun x =>
            { x with r25 := x.r25 + (r25 - x.r25) / 16, resLearned := true, watch := { x.watch with sinceStep := 0 } }
          ((d.bump (O.resistanceUpdates n)).set (O.learnedSource n) 2).gaugeShow n), w⟩) ∧
  (∀ (n : Fin 4) (v : Int) (d : Device) (w : List Instr),
      d.geRuns = true →
      d.present n = true →
      (d.str n).rested = false →
      d.fullAnchored n = false →
      d.get O.restTime * 240000 ≤ ((d.str n).watch.rest : Int) →
      exec (.restAnchor n v) ⟨d, w⟩ = .next ⟨Device.linesFollow (d.modStr n fun x => { x with restDue := some ((v : Rat) / 1000000) }), w⟩) ∧
  (∀ (n : Fin 4) (d : Device) (w : List Instr),
      d.geRuns = true →
      d.present n = true →
      d.flag (O.disagree n) = false →
      (d.get O.disagreeLimit : Rat) / 10000 < d.disagreement n →
      exec (.disagreeSet n) ⟨d, w⟩ = .next ⟨Device.linesFollow ((d.setFlag (O.disagree n) true).raiseD (strBlock n) 0 0x0506 []), w⟩) ∧
  (∀ (n : Fin 4) (d : Device) (w : List Instr),
      d.geRuns = true →
      d.flag (O.disagree n) = true →
      d.disagreement n < (d.get O.disagreeLimit : Rat) / 20000 →
      exec (.disagreeClear n) ⟨d, w⟩ = .next ⟨Device.linesFollow (d.setFlag (O.disagree n) false), w⟩)

/-- Credit messages of an open peer session take their effect (R288, R297, R298, R299, R300, R301, R304, R313, R388,
R389): for every state where the command applies, the next state in full; the queue is unchanged. -/
def Obligations.CreditMessagesHaveTheirEffect : Prop :=
  (∀ (fr : FrameIn) (sender receiver : BitVec 16) (id : BitVec 64) (amount : BitVec 32) (e : Device) (d : Device) (w : List Instr),
      d.get (O.sessionState fr.session) = 2 →
      d.bound fr.session fr.port fr.mac.toNat →
      (d.heard fr.port).seenSeq fr.session fr.seq.toNat = .fresh →
      e = (d.heard fr.port).takeSeq fr.session fr.seq.toNat →
      e.creditHeard fr.session = true →
      exec (.creditOffer fr sender receiver id amount) ⟨d, w⟩ = .next ⟨Device.linesFollow (Device.settle (
          Device.exhausted (
            if e.fromGiver sender.toNat id.toNat then
              let d := e.when (receiver.toNat != e.getN O.shelfId) fun d => d.bump O.badMessages
              match d.transfer id.toNat with
              | some t => d.answerDup fr.session (if t.st = 7 then 3 else 2) t
              | none =>
                match d.offerReason sender.toNat receiver.toNat id.toNat amount.toNat with
                | 0 => d.creditTake fr.session id.toNat sender.toNat amount.toNat
                | r => d.creditRefuse fr.session id.toNat sender.toNat r amount.toNat
            else e.bump O.badMessages) fr.session)), w⟩) ∧
  (∀ (fr : FrameIn) (sender receiver : BitVec 16) (id : BitVec 64) (e : Device) (d : Device) (w : List Instr),
      d.get (O.sessionState fr.session) = 2 →
      d.bound fr.session fr.port fr.mac.toNat →
      (d.heard fr.port).seenSeq fr.session fr.seq.toNat = .fresh →
      e = (d.heard fr.port).takeSeq fr.session fr.seq.toNat →
      e.creditHeard fr.session = true →
      exec (.creditAccept fr sender receiver id) ⟨d, w⟩ = .next ⟨Device.linesFollow (Device.settle (
          Device.exhausted (
            e.message (e.fromTaker sender.toNat id.toNat) receiver fun d =>
              match d.transfer id.toNat with
              | some t =>
                if t.inOut then d.settleCommit fr.session t
                else if t.st = 3 ∨ t.st = 4 then d.answerDup fr.session 4 t
                else d
              | none => d) fr.session)), w⟩) ∧
  (∀ (fr : FrameIn) (sender receiver : BitVec 16) (id : BitVec 64) (reason : BitVec 16) (e : Device) (d : Device) (w : List Instr),
      d.get (O.sessionState fr.session) = 2 →
      d.bound fr.session fr.port fr.mac.toNat →
      (d.heard fr.port).seenSeq fr.session fr.seq.toNat = .fresh →
      e = (d.heard fr.port).takeSeq fr.session fr.seq.toNat →
      e.creditHeard fr.session = true →
      exec (.creditRefuse fr sender receiver id reason) ⟨d, w⟩ = .next ⟨Device.linesFollow (Device.settle (
          Device.exhausted (
            e.message (e.fromTaker sender.toNat id.toNat) receiver fun d =>
              match d.transfer id.toNat with
              | some t => if t.inOut then d.returnCredits t reason.toNat else d
              | none => d) fr.session)), w⟩) ∧
  (∀ (fr : FrameIn) (sender receiver : BitVec 16) (id : BitVec 64) (e : Device) (d : Device) (w : List Instr),
      d.get (O.sessionState fr.session) = 2 →
      d.bound fr.session fr.port fr.mac.toNat →
      (d.heard fr.port).seenSeq fr.session fr.seq.toNat = .fresh →
      e = (d.heard fr.port).takeSeq fr.session fr.seq.toNat →
      e.creditHeard fr.session = true →
      exec (.creditSettle fr sender receiver id) ⟨d, w⟩ = .next ⟨Device.linesFollow (Device.settle (
          Device.exhausted (
            e.message (e.fromGiver sender.toNat id.toNat) receiver fun d =>
              match d.transfer id.toNat with
              | some t =>
                if t.st = 5 then d.releaseCommit fr.session t
                else if t.st = 6 then d.answerDup fr.session 5 t
                else d.raiseC 79 0 0x0705 (leBytes 8 t.id)
              | none => d.raiseC 79 0 0x0705 (leBytes 8 id.toNat)) fr.session)), w⟩) ∧
  (∀ (fr : FrameIn) (sender receiver : BitVec 16) (id : BitVec 64) (e : Device) (d : Device) (w : List Instr),
      d.get (O.sessionState fr.session) = 2 →
      d.bound fr.session fr.port fr.mac.toNat →
      (d.heard fr.port).seenSeq fr.session fr.seq.toNat = .fresh →
      e = (d.heard fr.port).takeSeq fr.session fr.seq.toNat →
      e.creditHeard fr.session = true →
      exec (.creditClose fr sender receiver id) ⟨d, w⟩ = .next ⟨Device.linesFollow (Device.settle (
          Device.exhausted (
            e.message (e.fromTaker sender.toNat id.toNat) receiver fun d =>
              match d.transfer id.toNat with
              | some t =>
                let now := d.now
                d.when (t.giver && t.st == 3 && d.canCommit) fun d => d.modTransfer t.id fun x => { x with st := 4, stamp := now }
              | none => d) fr.session)), w⟩) ∧
  (∀ (fr : FrameIn) (sender receiver : BitVec 16) (id : BitVec 64) (amount : BitVec 32) (e : Device) (d : Device) (w : List Instr),
      d.get (O.sessionState fr.session) = 2 →
      d.bound fr.session fr.port fr.mac.toNat →
      (d.heard fr.port).seenSeq fr.session fr.seq.toNat = .fresh →
      e = (d.heard fr.port).takeSeq fr.session fr.seq.toNat →
      e.creditHeard fr.session = true →
      exec (.creditWithdraw fr sender receiver id amount) ⟨d, w⟩ = .next ⟨Device.linesFollow (Device.settle (
          Device.exhausted (
            e.message (e.fromGiver sender.toNat id.toNat) receiver fun d =>
              match d.transfer id.toNat with
              | some t => d.answerDup fr.session (if t.st = 7 then 3 else 2) t
              | none => d.creditRefuse fr.session id.toNat sender.toNat 6 amount.toNat) fr.session)), w⟩)

/-- Accepted writes of the ledger take their effect (R288, R291, R297, R299, R306, R411): for every state where the
command applies, the next state in full; the queue is unchanged. -/
def Obligations.CreditWritesHaveTheirEffect : Prop :=
  (∀ (path : Fin 17) (data : List Byte) (d : Device) (w : List Instr),
      d.accepts path O.transferOffer 0 data →
      exec (.transferOffer path data) ⟨d, w⟩ = .next ⟨Device.linesFollow (Device.settle ((d.offerNow (ofLe data)).written path O.transferOffer (ofLe data))), w⟩) ∧
  (∀ (path : Fin 17) (id : BitVec 64) (d : Device) (w : List Instr),
      d.accepts path O.transferWithdraw 0 (O.transferWithdraw.ty.encode id.toNat) →
      exec (.transferWithdraw path id) ⟨d, w⟩ = .next ⟨Device.linesFollow (Device.settle ((d.withdrawNow id.toNat).written path O.transferWithdraw id.toNat)), w⟩) ∧
  (∀ (path : Fin 17) (id : BitVec 64) (d : Device) (w : List Instr),
      d.accepts path O.escrowResolve 0 (leBytes 8 id.toNat ++ [0, 0, 0, 0]) →
      exec (.escrowReturn path id) ⟨d, w⟩ = .next ⟨Device.linesFollow (Device.settle ((d.resolveNow id.toNat 0).written path O.escrowResolve (ofLe (leBytes 8 id.toNat ++ [0, 0, 0, 0])))), w⟩) ∧
  (∀ (path : Fin 17) (id : BitVec 64) (d : Device) (w : List Instr),
      d.accepts path O.escrowResolve 0 (leBytes 8 id.toNat ++ [1, 0, 0, 0]) →
      exec (.escrowSettle path id) ⟨d, w⟩ = .next ⟨Device.linesFollow (Device.settle ((d.resolveNow id.toNat 1).written path O.escrowResolve (ofLe (leBytes 8 id.toNat ++ [1, 0, 0, 0])))), w⟩) ∧
  (∀ (path : Fin 17) (id : BitVec 64) (d : Device) (w : List Instr),
      d.accepts path O.escrowResolve 0 (leBytes 8 id.toNat ++ [2, 0, 0, 0]) →
      exec (.escrowRelease path id) ⟨d, w⟩ = .next ⟨Device.linesFollow (Device.settle ((d.resolveNow id.toNat 2).written path O.escrowResolve (ofLe (leBytes 8 id.toNat ++ [2, 0, 0, 0])))), w⟩) ∧
  (∀ (path : Fin 17) (id : BitVec 64) (d : Device) (w : List Instr),
      d.accepts path O.escrowResolve 0 (leBytes 8 id.toNat ++ [3, 0, 0, 0]) →
      exec (.escrowDrop path id) ⟨d, w⟩ = .next ⟨Device.linesFollow (Device.settle ((d.resolveNow id.toNat 3).written path O.escrowResolve (ofLe (leBytes 8 id.toNat ++ [3, 0, 0, 0])))), w⟩) ∧
  (∀ (path : Fin 17) (amount : BitVec 32) (d : Device) (w : List Instr),
      d.accepts path O.ledgerAdjust 0 (O.ledgerAdjust.ty.encode amount.toInt) →
      exec (.ledgerAdjust path amount) ⟨d, w⟩ = .next ⟨Device.linesFollow (Device.settle ((d.adjustNow amount.toInt).written path O.ledgerAdjust amount.toInt)), w⟩) ∧
  (∀ (path : Fin 17) (d : Device) (w : List Instr),
      d.accepts path O.ledgerAck 0 (O.ledgerAck.ty.encode 1) →
      exec (.ledgerAck path) ⟨d, w⟩ = .next ⟨Device.linesFollow (Device.settle ((d.ledgerAckNow).written path O.ledgerAck 1)), w⟩)

/-- Rails start, qualify, fall, stop and are retried as the rules say (R316, R318, R319, R320, R322, R323, R324, R325,
R326, R338): for every state where the command applies, the next state in full; the queue is unchanged. -/
def Obligations.RailCommandsHaveTheirEffect : Prop :=
  (∀ (r : Fin 24) (d : Device) (w : List Instr),
      d.scActive = true →
      d.railSt r = 1 →
      ((d.preds r).all fun p => d.railSt p == 4) = true →
      exec (.railStart r) ⟨d, w⟩ = .next ⟨Device.linesFollow (Device.settle (((d.set (O.chatterCount r) 0).setRail r 2).railEnable r true)), w⟩) ∧
  (∀ (r : Fin 24) (d : Device) (w : List Instr),
      d.live = true →
      d.get (O.railKind r) ≠ 0 →
      d.flag (O.pgLevel r) = false →
      d.feedGood r = true →
      exec (.pgRise r) ⟨d, w⟩ = .next ⟨Device.linesFollow (Device.settle (
          let d := d.setFlag (O.pgLevel r) true
          d.when (d.scActive && (d.railSt r == 2 || d.railSt r == 5)) fun d => d.setRail r 3)), w⟩) ∧
  (∀ (r : Fin 24) (d : Device) (w : List Instr),
      d.scActive = true →
      d.railSt r = 3 →
      d.flag (O.pgLevel r) = true →
      exec (.railQualified r) ⟨d, w⟩ = .next ⟨Device.linesFollow (Device.settle ((d.setRail r 4).seqProgress)), w⟩) ∧
  (∀ (r : Fin 24) (d : Device) (w : List Instr),
      d.live = true →
      d.get (O.railKind r) ≠ 0 →
      d.flag (O.pgLevel r) = true →
      ((d.railFeed r).isNone = true ∨ d.feedGood r = false) →
      exec (.pgFall r) ⟨d, w⟩ = .next ⟨Device.linesFollow (Device.settle (
          let d := d.setFlag (O.pgLevel r) false
          if d.scActive then d.pgFallen r
          else ((d.modRail r fun x => { x with up := false, fell := true }).modSeq fun q =>
            { q with gdFalls := q.gdFalls + 1 }).updateRst)), w⟩) ∧
  (∀ (r : Fin 24) (d : Device) (w : List Instr),
      d.scActive = true →
      (d.railSt r = 2 ∨ d.railSt r = 3 ∨ d.railSt r = 5) →
      d.srcRetrying r = false →
      (d.rail r).down = false →
      exec (.pgTimeout r) ⟨d, w⟩ = .next ⟨Device.linesFollow (Device.settle (d.railFail r (if (d.rail r).held then 2 else 0))), w⟩) ∧
  (∀ (r : Fin 24) (d : Device) (w : List Instr),
      d.scActive = true →
      (d.rail r).down = true →
      ((d.dependants r).all fun q => d.railSt q == 0) = true →
      exec (.railStopStep r) ⟨d, w⟩ = .next ⟨Device.linesFollow (Device.settle (
          let early := d.railSt r == 2 || d.railSt r == 3
          let d := ((d.when early fun d => d.downFailure r).setRail r 6).railEnable r false
          d.when ((d.railFeed r).isNone && !(d.flag (O.pgLevel r))) fun d => d.railOff r)), w⟩) ∧
  (∀ (r : Fin 24) (d : Device) (w : List Instr),
      d.scActive = true →
      d.railSt r = 6 →
      exec (.dischargeTimeout r) ⟨d, w⟩ = .next ⟨Device.linesFollow (Device.settle ((((d.setBitOf (O.railFailCause r) 4).bump O.dischargeTimeouts).seqEvent (0x0400 + r)).railOff r)), w⟩) ∧
  (∀ (r : Fin 24) (d : Device) (w : List Instr),
      d.scActive = true →
      d.get O.seqState = 3 →
      d.seq.retries.contains r.val = true →
      ((d.subtree r).all fun q => d.railSt q == 0) = true →
      exec (.retryDelayEnd (some r)) ⟨d, w⟩ = .next ⟨Device.linesFollow (Device.settle (d.railsUp (d.subtree r))), w⟩) ∧
  (∀ (d : Device) (w : List Instr),
      d.scActive = true →
      d.get O.seqState = 4 →
      d.allOff = true →
      exec (.retryDelayEnd none) ⟨d, w⟩ = .next ⟨Device.linesFollow (Device.settle ((d.modSeq fun q => { q with delayDone := true }).seqRetryStart)), w⟩) ∧
  (∀ (r : Fin 24) (d : Device) (w : List Instr),
      d.scActive = true →
      ((d.subtree r).all fun q => d.railSt q == 4) = true →
      exec (.seqRetryCountReset (some r)) ⟨d, w⟩ = .next ⟨Device.linesFollow (d.set (O.subtreeRetryCount r) 0), w⟩) ∧
  (∀ (d : Device) (w : List Instr),
      d.scActive = true →
      d.get O.seqState = 2 →
      exec (.seqRetryCountReset none) ⟨d, w⟩ = .next ⟨Device.linesFollow (d.set O.sequenceRetryCount 0), w⟩)

/-- The shared fault line and the reset outputs take their effect (R322, R323, R325, R331, R332, R333, R334, R335,
R337, R361, R411): for every state where the command applies, the next state in full; the queue is unchanged. -/
def Obligations.SequencerLineCommandsHaveTheirEffect : Prop :=
  (∀ (d : Device) (w : List Instr),
      d.live = true →
      d.flag O.seqFltEnable = true →
      d.flag O.seqFltLine = true →
      exec (.seqFltLow) ⟨d, w⟩ = .next ⟨Device.linesFollow (Device.settle (
          let own := d.seq.drive
          let d := ((d.setFlag O.seqFltLine false).seqEvent 0).edge 123
          let st := d.getN O.seqState
          if own || !d.scActive then d
          else if st = 5 then d.driveFlt true
          else d.when (st == 1 || st == 2 || st == 3 || st == 4 || st == 7) Device.sharedShutdown)), w⟩) ∧
  (∀ (d : Device) (w : List Instr),
      d.live = true →
      d.flag O.seqFltEnable = true →
      d.flag O.seqFltLine = false →
      exec (.seqFltRise) ⟨d, w⟩ = .next ⟨Device.linesFollow (Device.settle (((d.setFlag O.seqFltLine true).modSeq fun q => { q with stuckSaid := false, released := false }).seqEvent 0)), w⟩) ∧
  (∀ (d : Device) (w : List Instr),
      d.scActive = true →
      d.flag O.seqFltEnable = true →
      d.flag O.seqFltLine = true →
      exec (.seqFltReleaseMet) ⟨d, w⟩ = .next ⟨Device.linesFollow (Device.settle (
          match d.getN O.seqState with
          | 7 =>
            if (d.get O.seqFltRestart = 1 ∧ d.flag O.seqEnable = true) ∨ d.seq.armed = true then d.seqStart
            else d.setSeqState 0
          | 4 => (d.modSeq fun q => { q with releaseDone := true }).seqRetryStart
          | _ => d)), w⟩) ∧
  (∀ (d : Device) (w : List Instr),
      d.scActive = true →
      d.flag O.seqFltEnable = true →
      d.flag O.seqFltLine = false →
      d.seq.drive = false →
      d.seq.released = true →
      d.seq.stuckSaid = false →
      exec (.seqFltStuck) ⟨d, w⟩ = .next ⟨Device.linesFollow ((d.modSeq fun q => { q with stuckSaid := true }).raiseC 78 0 0x0804 []), w⟩) ∧
  (∀ (d : Device) (w : List Instr),
      d.seq.routePulse = true →
      exec (.seqFltRoutePulseEnd) ⟨d, w⟩ = .next ⟨Device.linesFollow (
          (d.modSeq fun q => { q with routePulse := false, released := q.released || !q.drive }).updateSeqFlt), w⟩) ∧
  (∀ (i : Fin 8) (d : Device) (w : List Instr),
      d.live = true →
      d.rstCond i = true →
      exec (.rstStretchDone i) ⟨d, w⟩ = .next ⟨Device.linesFollow (d.setRst i false), w⟩) ∧
  (∀ (path : Fin 17) (d : Device) (w : List Instr),
      d.accepts path O.seqEnable 0 (O.seqEnable.ty.encode 1) →
      exec (.seqPowerUp path) ⟨d, w⟩ = .next ⟨Device.linesFollow (Device.settle (((d.set O.seqEnable 1).seqUpNow).written path O.seqEnable 1)), w⟩) ∧
  (∀ (path : Fin 17) (d : Device) (w : List Instr),
      d.accepts path O.seqEnable 0 (O.seqEnable.ty.encode 0) →
      exec (.seqPowerDown path) ⟨d, w⟩ = .next ⟨Device.linesFollow (Device.settle (((d.set O.seqEnable 0).seqDownNow).written path O.seqEnable 0)), w⟩) ∧
  (∀ (path : Fin 17) (d : Device) (w : List Instr),
      d.accepts path O.seqAck 0 (O.seqAck.ty.encode 1) →
      exec (.seqAck path) ⟨d, w⟩ = .next ⟨Device.linesFollow (Device.settle ((d.seqAckNow.releaseAck 78).written path O.seqAck 1)), w⟩)

/-- Window decisions, router timers and their writes take their effect (R343, R344, R345, R347, R348, R349, R351,
R409, R411): for every state where the command applies, the next state in full; the queue is unchanged. -/
def Obligations.WindowCommandsHaveTheirEffect : Prop :=
  (∀ (tick : Fin 22) (codes : List Int) (d : Device) (w : List Instr),
      d.sys.coreRunning = true →
      exec (.windowDecision tick codes) ⟨d, w⟩ = .next ⟨Device.linesFollow (Device.settle (
          d.forAll ((List.range 64).filter fun u => d.flag (O.unitEnable u) && d.get (O.tickSource u) == (tick : Nat) &&
            d.get (O.input u) != 0xFF) fun u d => d.windowDecide u (codes.getD u 0))), w⟩) ∧
  (∀ (j : Fin 4) (d : Device) (w : List Instr),
      d.sys.coreRunning = true →
      d.flag (O.timerRunning j) = true →
      exec (.routerTimerExpiry j) ⟨d, w⟩ = .next ⟨Device.linesFollow (Device.settle ((d.setFlag (O.timerRunning j) false).edge (124 + j))), w⟩) ∧
  (∀ (j : Fin 4) (d : Device) (w : List Instr),
      exec (.evoPulseEnd j) ⟨d, w⟩ = .next ⟨Device.linesFollow (d.modPins fun p => { p with evo := modAt p.evo j fun _ => false }), w⟩) ∧
  (∀ (u : Fin 64) (path : Fin 17) (d : Device) (w : List Instr),
      d.accepts path (O.clear u) u ((O.clear u).ty.encode 1) →
      exec (.windowClear u path) ⟨d, w⟩ = .next ⟨Device.linesFollow (Device.settle ((d.windowClear u).written path (O.clear u) 1)), w⟩) ∧
  (∀ (path : Fin 17) (mask : BitVec 64) (d : Device) (w : List Instr),
      d.accepts path O.latchClearMask 0 (O.latchClearMask.ty.encode mask.toNat) →
      exec (.latchClearMaskWrite path mask) ⟨d, w⟩ = .next ⟨Device.linesFollow (Device.settle ((d.latchClear mask.toNat).written path O.latchClearMask mask.toNat)), w⟩) ∧
  (∀ (u : Fin 8) (path : Fin 17) (flags : Byte) (d : Device) (w : List Instr),
      d.accepts path (O.edgeClear u) u ((O.edgeClear u).ty.encode flags.toNat) →
      exec (.edgeClear u path flags) ⟨d, w⟩ = .next ⟨Device.linesFollow (Device.settle ((d.edgeClearNow u flags.toNat).written path (O.edgeClear u) flags.toNat)), w⟩) ∧
  (∀ (u : Fin 64) (path : Fin 17) (hold : Bool) (d : Device) (w : List Instr),
      d.accepts path (O.routeHold u) u ((O.routeHold u).ty.encode (b2i hold)) →
      exec (.routeHold u path hold) ⟨d, w⟩ = .next ⟨Device.linesFollow (Device.settle (((d.set (O.routeHold u) (b2i hold)).routeHoldNow u (d.flag (O.routeHold u))).written path (O.routeHold u) (b2i hold))), w⟩) ∧
  (∀ (path : Fin 17) (d : Device) (w : List Instr),
      d.accepts path O.routerEnable 0 (O.routerEnable.ty.encode 1) →
      exec (.routerEnable path) ⟨d, w⟩ = .next ⟨Device.linesFollow (Device.settle ((d.set O.routerEnable 1).written path O.routerEnable 1)), w⟩)

/-- Fault acknowledgement and the thermal events take their effect (R361, R366, R368, R370, R371, R372, R373, R411):
for every state where the command applies, the next state in full; the queue is unchanged. -/
def Obligations.FaultAndThermalCommandsHaveTheirEffect : Prop :=
  (∀ (b : Fin 96) (path : Fin 17) (d : Device) (w : List Instr),
      d.accepts path (O.faultAck b) b ((O.faultAck b).ty.encode 1) →
      exec (.faultAck b path) ⟨d, w⟩ = .next ⟨Device.linesFollow (Device.settle ((d.ackBlock b).written path (O.faultAck b) 1)), w⟩) ∧
  (∀ (d : Device) (w : List Instr),
      exec (.faultNPulseEnd) ⟨d, w⟩ = .next ⟨Device.linesFollow ({ d with faultPulse := false }.updateFaultN), w⟩) ∧
  (∀ (sample : Option Int) (d : Device) (w : List Instr),
      d.sys.coreRunning = true →
      d.runs engGD = true →
      exec (.thermalSample sample) ⟨d, w⟩ = .next ⟨Device.linesFollow (Device.settle (
          let v : Option Rat := match sample with
            | some x => if x < -60000 ∨ 160000 < x then none else some ((x : Rat) / 1000)
            | none => none
          match v with
          | none =>
            let d := { d with therm := { d.therm with badRun := d.therm.badRun + 1, goodRun := 0 } }
            if d.therm.badRun = 16 ∧ d.flag O.sensorFault = false then
              (({ d with therm := { d.therm with samples := [] } }.setFlag O.sensorFault true).setBand 3).raiseB 84 0 0x0905 []
            else d
          | some t =>
            let d := { d with therm := { d.therm with
              samples := (t :: d.therm.samples).take 2000, badRun := 0, goodRun := d.therm.goodRun + 1 } }
            if d.flag O.sensorFault then
              if 1000 ≤ d.therm.goodRun then
                ({ d with therm := { d.therm with chosen := false } }.setFlag O.sensorFault false).takeTj
              else d
            else d.when (decide (16 ≤ d.therm.samples.length)) Device.takeTj)), w⟩) ∧
  (∀ (d : Device) (w : List Instr),
      d.sys.coreRunning = true →
      d.runs engGD = true →
      d.flag O.sensorFault = false →
      d.therm.samples.length = 2000 →
      exec (.riseRateEvaluation) ⟨d, w⟩ = .next ⟨Device.linesFollow (Device.settle (
          let r := mean (d.therm.samples.take 1000) - mean (d.therm.samples.drop 1000)
          let w : Rat := d.get O.riseWarn
          let d := d.set O.riseRate (satS 16 (quant (r * 10)))
          let d := if w < r ∧ d.therm.armed = true then
              ({ d with therm := { d.therm with armed := false } }.bump O.riseWarnings).raiseD 84 0 0x0904 []
            else if r < w / 2 then { d with therm := { d.therm with armed := true } }
            else d
          let hot := decide ((d.get O.riseShutdown : Rat) < r)
          let said := d.therm.rising
          let d := { d with therm := { d.therm with rising := hot } }
          d.when (hot && !said) fun d => d.raiseA 84 0 0x0902 [])), w⟩) ∧
  (∀ (d : Device) (w : List Instr),
      d.sys.vdd = true →
      exec (.thermalShutdown) ⟨d, w⟩ = .next ⟨Device.linesFollow (Device.settle (d.raiseA 84 1 0x0902 [])), w⟩) ∧
  (∀ (d : Device) (w : List Instr),
      d.sys.coreRunning = true →
      d.flag O.controllerClassA = true →
      d.get O.classABlock = 84 →
      d.get O.classACode = 0x0902 →
      exec (.thermalCoreStop) ⟨d, w⟩ = .next ⟨Device.linesFollow ({ d with sys := { d.sys with coreRunning := false, standby := 2 } }), w⟩)

/-- Opening and closing of sessions takes its effect (R380, R381, R387, R388, R389, R390, R400, R403): for every state
where the command applies, the next state in full; the queue is unchanged. -/
def Obligations.SessionCommandsHaveTheirEffect : Prop :=
  (∀ (p : Fin 2) (mac : BitVec 48) (slot mode : Byte) (nonce : List Byte) (tag : OpenTag) (key : List Byte) (d : Device) (w : List Instr),
      d.portHears p = true →
      (d.portHeard p).slotKey slot.toNat = some key →
      tag.verified = true →
      (d.heard p).openCopy slot.toNat (fit 16 nonce) = false →
      exec (.iopOpen p mac slot mode nonce tag) ⟨d, w⟩ = .next ⟨Device.linesFollow (Device.settle ((d.heard p).openSession p mac.toNat slot.toNat mode key (fit 16 nonce))), w⟩) ∧
  (∀ (p : Fin 2) (mac : BitVec 48) (slot mode : Byte) (nonce : List Byte) (tag : OpenTag) (key : List Byte) (d : Device) (w : List Instr),
      d.portHears p = true →
      (d.portHeard p).slotKey slot.toNat = some key →
      tag.verified = false →
      exec (.iopOpen p mac slot mode nonce tag) ⟨d, w⟩ = .next ⟨Device.linesFollow (Device.settle (((d.portHeard p).tagError p tag.second).bump O.openFailures)), w⟩) ∧
  (∀ (p : Fin 2) (mac : BitVec 48) (slot mode : Byte) (nonce : List Byte) (tag : OpenTag) (d : Device) (w : List Instr),
      d.portHears p = true →
      (d.portHeard p).slotKey slot.toNat = none →
      exec (.iopOpen p mac slot mode nonce tag) ⟨d, w⟩ = .next ⟨Device.linesFollow (Device.settle ((d.portHeard p).bump O.openFailures)), w⟩) ∧
  (∀ (h : Fin 16) (p : Fin 2) (mac : BitVec 48) (id : BitVec 32) (result mode : Byte) (nonceC nonceH : List Byte) (d : Device) (w : List Instr),
      d.bound h p mac.toNat →
      (d.heard p).get (O.sessionState h) = 1 →
      ((d.heard p).session h).opener = true →
      fit 16 nonceH = ((d.heard p).session h).nonce →
      result = 0 →
      exec (.iopOpenAck h p mac id result mode nonceC nonceH) ⟨d, w⟩ = .next ⟨Device.linesFollow (Device.settle (
          let d := d.heard p
          let x := d.session h
          let slot := d.getN (O.sessionKeySlot h)
          let key := sessionKey ((d.slotKey slot).getD []) x.nonce (fit 16 nonceC) id.toNat
          let d := d.modSession h fun x => { x with key := key, port := p }
          let dual : Nat := if mode.getLsbD 1 then 2 else 0
          let d := (d.set (O.sessionId h) id.toNat).set (O.sessionMode h) (b2i (mode.getLsbD 0) + dual + 4)
          (d.sendNew h 3 []).sessionOpens h)), w⟩) ∧
  (∀ (h : Fin 16) (p : Fin 2) (mac : BitVec 48) (d : Device) (w : List Instr),
      (d.session h).opener = false →
      d.bound h p mac.toNat →
      (d.heard p).seenSeq h 1 = .fresh →
      ((d.heard p).takeSeq h 1).get (O.sessionState h) = 1 →
      exec (.iopConfirm h p mac) ⟨d, w⟩ = .next ⟨Device.linesFollow (Device.settle ((((d.heard p).takeSeq h 1).sessionOpens h).exhausted h)), w⟩) ∧
  (∀ (h : Fin 16) (p : Fin 2) (mac : BitVec 48) (d : Device) (w : List Instr),
      (d.session h).opener = false →
      d.bound h p mac.toNat →
      (d.heard p).seenSeq h 1 = .duplicate →
      exec (.iopConfirm h p mac) ⟨d, w⟩ = .next ⟨Device.linesFollow (Device.settle (((d.heard p).bump (O.sessionDuplicates h)).bump (O.portDuplicates p))), w⟩) ∧
  (∀ (h : Fin 16) (p : Fin 2) (mac : BitVec 48) (seq : BitVec 32) (reason : Byte) (d : Device) (w : List Instr),
      d.get (O.sessionState h) = 2 →
      d.bound h p mac.toNat →
      (d.heard p).seenSeq h seq.toNat = .fresh →
      exec (.iopClose h p mac seq reason) ⟨d, w⟩ = .next ⟨Device.linesFollow (Device.settle ((((d.heard p).takeSeq h seq.toNat).freeSession h).exhausted h)), w⟩) ∧
  (∀ (h : Fin 16) (d : Device) (w : List Instr),
      d.get (O.sessionState h) = 1 →
      exec (.sessionConfirmTimeout h) ⟨d, w⟩ = .next ⟨Device.linesFollow (Device.settle (d.freeSession h)), w⟩) ∧
  (∀ (h : Fin 16) (d : Device) (w : List Instr),
      d.get (O.sessionState h) = 2 →
      ((d.session h).requests.any fun r => r.ops.any fun o => o.op.isWait && o.started && o.result.isNone) = false →
      exec (.sessionIdleClose h) ⟨d, w⟩ = .next ⟨Device.linesFollow (Device.settle (d.closeSession h 2)), w⟩) ∧
  (∀ (i : Fin 16) (ports : List Nat) (key : List Byte) (c : Device) (e : Nat) (d : Device) (w : List Instr),
      (([0, 1] : List Nat).filter fun p => d.portHears p && d.connected p && d.applied p) = ports →
      ports ≠ [] →
      d.peerSet i = true →
      d.get O.shelfId < d.get (O.peerShelfId i) →
      d.get (O.peerSession i) = 0xFF →
      d.slotKey (d.getN (O.peerKeySlot i)) = some key →
      (d.forAll (List.range 16) fun s d => d.when ((d.session s).opener && (d.session s).peer == some i.val && d.get (O.sessionState s) == 1) fun d => d.freeSession s) = c →
      c.freeEntry = some e →
      exec (.peerSessionOpen i) ⟨d, w⟩ = .next ⟨Device.linesFollow (Device.settle (
          let slot := d.getN (O.peerKeySlot i)
          let nh := fit 16 (Config.randomBytes c.free 16)
          let x := { Session.reset with peer := some i.val, opener := true, port := ports.getD 0 0, nonce := nh
                                        macs := [(0, c.peerMac i 0), (1, c.peerMac i 1)] }
          let d := c.used.enterSession e 0 slot 6 x
          d.forAll ports fun p d => d.sendFrame p (d.peerMac i p) key 1 0 0 0 (leBytes 1 slot ++ [2, 0, 0] ++ nh))), w⟩)

/-- Requests, their operations and notifications take their effect (R389, R390, R391, R392, R393, R394, R395, R396,
R397, R399): for every state where the command applies, the next state in full; the queue is unchanged. -/
def Obligations.RequestCommandsHaveTheirEffect : Prop :=
  (∀ (h : Fin 16) (p : Fin 2) (mac : BitVec 48) (seq : BitVec 32) (fence retry soon : Bool) (body : List Byte) (d : Device) (w : List Instr),
      d.get (O.sessionState h) = 2 →
      d.bound h p mac.toNat →
      (d.heard p).seenSeq h seq.toNat = .fresh →
      exec (.iopRequest h p mac seq fence retry soon body) ⟨d, w⟩ = .next ⟨Device.linesFollow (Device.settle ((((d.heard p).takeSeq h seq.toNat).acceptRequest h seq.toNat fence body).exhausted h)), w⟩) ∧
  (∀ (h : Fin 16) (p : Fin 2) (mac : BitVec 48) (seq : BitVec 32) (fence retry soon : Bool) (body : List Byte) (d : Device) (w : List Instr),
      d.get (O.sessionState h) = 2 →
      d.bound h p mac.toNat →
      (d.heard p).seenSeq h seq.toNat = .duplicate →
      retry = true →
      exec (.iopRequest h p mac seq fence retry soon body) ⟨d, w⟩ = .next ⟨Device.linesFollow (Device.settle (((d.heard p).bump (O.sessionDuplicates h)).retryRequest h seq.toNat soon)), w⟩) ∧
  (∀ (h : Fin 16) (seq : BitVec 32) (i : Fin 16) (ix : BitVec 16) (sb : Byte) (d : Device) (w : List Instr),
      d.mayStart h seq.toNat i (.read ix sb) →
      exec (.opRead h seq i) ⟨d, w⟩ = .next ⟨Device.linesFollow (Device.settle ((d.readObject h ix.toNat sb.toNat).2.2.opDone h seq.toNat i (d.readObject h ix.toNat sb.toNat).1 (d.readObject h ix.toNat sb.toNat).2.1)), w⟩) ∧
  (∀ (h : Fin 16) (seq : BitVec 32) (i : Fin 16) (stored : Bool) (ix : BitVec 16) (sb : Byte) (v : List Byte) (d : Device) (w : List Instr),
      d.mayStart h seq.toNat i (.write ix sb v) →
      exec (.opWrite h seq i stored) ⟨d, w⟩ = .next ⟨Device.linesFollow (Device.settle ((d.modOp h seq.toNat i fun o => { o with started := true }).writeObject h ix.toNat sb.toNat v stored)), w⟩) ∧
  (∀ (h : Fin 16) (seq : BitVec 32) (i : Fin 16) (d : Device) (w : List Instr),
      d.mayStart h seq.toNat i .nop →
      exec (.opNop h seq i) ⟨d, w⟩ = .next ⟨Device.linesFollow (Device.settle (d.opDone h seq.toNat i 0 [])), w⟩) ∧
  (∀ (h : Fin 16) (seq : BitVec 32) (i : Fin 16) (ix : BitVec 16) (sb : Byte) (c m t : BitVec 32) (d : Device) (w : List Instr),
      d.mayStart h seq.toNat i (.wait ix sb c m t) →
      d.waitBad ix.toNat sb.toNat t = 0 →
      exec (.opWait h seq i) ⟨d, w⟩ = .next ⟨Device.linesFollow (Device.settle ((d.modOp h seq.toNat i fun o => { o with started := true }).waitEnds h seq.toNat i)), w⟩) ∧
  (∀ (h : Fin 16) (seq : BitVec 32) (i : Fin 16) (ix : BitVec 16) (sb : Byte) (c m t : BitVec 32) (d : Device) (w : List Instr),
      d.mayStart h seq.toNat i (.wait ix sb c m t) →
      d.waitBad ix.toNat sb.toNat t ≠ 0 →
      exec (.opWait h seq i) ⟨d, w⟩ = .next ⟨Device.linesFollow (Device.settle (d.opDone h seq.toNat i (d.waitBad ix.toNat sb.toNat t) [])), w⟩) ∧
  (∀ (h : Fin 16) (seq : BitVec 32) (i : Fin 16) (r : Req) (ix : BitVec 16) (sb : Byte) (c m t : BitVec 32) (d : Device) (w : List Instr),
      d.pathOpen h = true →
      d.opAt h seq.toNat i = some (r, ⟨.wait ix sb c m t, true, none⟩) →
      (d.readObject h ix.toNat sb.toNat).1 = 0 →
      waitMet (d.readObject h ix.toNat sb.toNat).2.1 c m = true →
      exec (.waitComplete h seq i) ⟨d, w⟩ = .next ⟨Device.linesFollow (Device.settle ((d.readObject h ix.toNat sb.toNat).2.2.opDone h seq.toNat i 0 (d.readObject h ix.toNat sb.toNat).2.1)), w⟩) ∧
  (∀ (h : Fin 16) (seq : BitVec 32) (i : Fin 16) (r : Req) (ix : BitVec 16) (sb : Byte) (c m t : BitVec 32) (d : Device) (w : List Instr),
      d.pathOpen h = true →
      d.opAt h seq.toNat i = some (r, ⟨.wait ix sb c m t, true, none⟩) →
      (match ownerBlock ix.toNat with | some b => d.retryingNow b | none => false) = false →
      exec (.waitTimeout h seq i) ⟨d, w⟩ = .next ⟨Device.linesFollow (Device.settle ((d.readObject h ix.toNat sb.toNat).2.2.opDone h seq.toNat i 0x0815 (d.readObject h ix.toNat sb.toNat).2.1)), w⟩) ∧
  (∀ (h : Fin 16) (p : Fin 2) (mac : BitVec 48) (seq acked : BitVec 32) (d : Device) (w : List Instr),
      d.get (O.sessionState h) = 2 →
      d.bound h p mac.toNat →
      (d.heard p).seenSeq h seq.toNat = .fresh →
      exec (.iopNotifyAck h p mac seq acked) ⟨d, w⟩ = .next ⟨Device.linesFollow (Device.settle (((((d.heard p).takeSeq h seq.toNat).modSession h fun x => { x with unacked := x.unacked.filter fun n => n.seq != acked.toNat }).pumpNotify h).exhausted h)), w⟩) ∧
  (∀ (h : Fin 16) (seq : BitVec 32) (d : Device) (w : List Instr),
      d.get (O.sessionState h) = 2 →
      exec (.notifyRetry h seq) ⟨d, w⟩ = .next ⟨Device.linesFollow (Device.settle (
          match (d.session h).unacked.find? fun n => n.seq == seq.toNat with
          | some n =>
            if (n.tries : Int) < d.get O.notifyRetries then
              (d.modSession h fun x =>
                { x with unacked := x.unacked.map fun n => if n.seq = seq.toNat then { n with tries := n.tries + 1 } else n }).sendIop
                  h 0x20 2 n.seq n.body
            else
              ((d.modSession h fun x => { x with unacked := x.unacked.filter fun n => n.seq != seq.toNat }).bump
                (O.notifyDropped h)).pumpNotify h
          | none => d)), w⟩)

/-- Events of a field port take their effect (R378, R379, R381, R382, R383, R384): for every state where the command
applies, the next state in full; the queue is unchanged. -/
def Obligations.PortCommandsHaveTheirEffect : Prop :=
  (∀ (p : Fin 2) (second : Nat) (d : Device) (w : List Instr),
      d.portHears p = true →
      exec (.iopBadFrame p second) ⟨d, w⟩ = .next ⟨Device.linesFollow (Device.settle ((d.portHeard p).tagError p second)), w⟩) ∧
  (∀ (p : Fin 2) (d : Device) (w : List Instr),
      d.portHears p = true →
      exec (.foreignFrame p) ⟨d, w⟩ = .next ⟨Device.linesFollow (Device.settle ((d.portHeard p).bump (O.foreignFrames p))), w⟩) ∧
  (∀ (p : Fin 2) (d : Device) (w : List Instr),
      d.portHears p = true →
      exec (.fcsErrorFrame p) ⟨d, w⟩ = .next ⟨Device.linesFollow (Device.settle (d.bump (O.fcsErrors p))), w⟩) ∧
  (∀ (p : Fin 2) (d : Device) (w : List Instr),
      d.portHears p = true →
      exec (.collision p) ⟨d, w⟩ = .next ⟨Device.linesFollow (Device.settle (
          let d := d.bump (O.collisions p)
          let x := d.netPort p
          d.when x.measuring fun d =>
            if x.repeated then d.modNetPort p fun x => { x with measuring := false }
            else (d.modNetPort p fun x => { x with repeated := true }).emit (.medium p 382))), w⟩) ∧
  (∀ (p : Fin 2) (d : Device) (w : List Instr),
      d.portHears p = true →
      1 ≤ (d.netPort p).id →
      (d.netPort p).id ≤ 31 →
      (d.netPort p).fellBack = false →
      exec (.beaconLoss p) ⟨d, w⟩ = .next ⟨Device.linesFollow (Device.settle (((d.modNetPort p fun x => { x with fellBack := true }).bump (O.beaconLosses p)).portUpdate p)), w⟩) ∧
  (∀ (p : Fin 2) (d : Device) (w : List Instr),
      d.portHears p = true →
      (d.netPort p).fellBack = true →
      exec (.beaconReceived p) ⟨d, w⟩ = .next ⟨Device.linesFollow (Device.settle ((d.modNetPort p fun x => { x with fellBack := false }).portUpdate p)), w⟩) ∧
  (∀ (p : Fin 2) (d : Device) (w : List Instr),
      d.portHears p = true →
      (d.netPort p).silent = false →
      exec (.portSilent p) ⟨d, w⟩ = .next ⟨Device.linesFollow (Device.settle ((d.modNetPort p fun x => { x with silent := true }).portUpdate p)), w⟩) ∧
  (∀ (p : Fin 2) (echo : Option Nat) (fault : Fin 3) (d : Device) (w : List Instr),
      d.portHears p = true →
      (d.netPort p).measuring = true →
      exec (.segmentMeasureDone p echo fault) ⟨d, w⟩ = .next ⟨Device.linesFollow (Device.settle (
          let d := d.modNetPort p fun x => { x with measuring := false }
          (d.set (O.segmentLength p) (match echo with
            | some t => d.segmentDistance p t
            | none => 0xFFFF)).set (O.segmentFault p) fault)), w⟩)

/-- Accepted writes of keys, rights, clock and segment take their effect (R382, R386, R401, R409, R411, R421): for
every state where the command applies, the next state in full; the queue is unchanged. -/
def Obligations.NetworkWritesHaveTheirEffect : Prop :=
  (∀ (p : Fin 2) (path : Fin 17) (d : Device) (w : List Instr),
      d.accepts path (O.segmentMeasure p) p ((O.segmentMeasure p).ty.encode 1) →
      exec (.segmentMeasure p path) ⟨d, w⟩ = .next ⟨Device.linesFollow (Device.settle ((d.segmentStart p).written path (O.segmentMeasure p) 1)), w⟩) ∧
  (∀ (path : Fin 17) (pair : List Byte) (d : Device) (w : List Instr),
      d.accepts path O.wallClockSync 0 pair →
      exec (.wallClockSync path pair) ⟨d, w⟩ = .next ⟨Device.linesFollow (Device.settle (({ d with net := { d.net with syncPair := leBytes 16 (ofLe pair) } }).written path O.wallClockSync (ofLe pair))), w⟩) ∧
  (∀ (slot : Fin 8) (path : Fin 17) (key : List Byte) (d : Device) (w : List Instr),
      d.accepts path (O.key slot) slot key →
      exec (.keyWrite slot path key) ⟨d, w⟩ = .next ⟨Device.linesFollow (Device.settle ((d.keyNow slot (some (leBytes 32 (ofLe key)))).written path (O.key slot) (ofLe key))), w⟩) ∧
  (∀ (slot : Fin 8) (path : Fin 17) (d : Device) (w : List Instr),
      d.accepts path (O.keyClear slot) slot ((O.keyClear slot).ty.encode 1) →
      exec (.keyClear slot path) ⟨d, w⟩ = .next ⟨Device.linesFollow (Device.settle ((d.keyNow slot none).written path (O.keyClear slot) 1)), w⟩) ∧
  (∀ (slot : Fin 8) (path : Fin 17) (rights : BitVec 16) (d : Device) (w : List Instr),
      d.accepts path (O.rights slot) slot ((O.rights slot).ty.encode rights.toNat) →
      exec (.rightsWrite slot path rights) ⟨d, w⟩ = .next ⟨Device.linesFollow (Device.settle (((d.set (O.rights slot) rights.toNat).closeSlot slot).written path (O.rights slot) rights.toNat)), w⟩)

/-- Object writes, staging, fences and the factory restore take their effect (R24, R395, R408, R411, R414, R416, R417,
R418, R419, R421, R424, R427): for every state where the command applies, the next state in full; the queue is
unchanged. -/
def Obligations.DictionaryCommandsHaveTheirEffect : Prop :=
  (∀ (path : Fin 17) (index : BitVec 16) (sub : Byte) (data : List Byte) (stored : Bool) (o : Obj) (k : Nat) (d : Device) (w : List Instr),
      locate index.toNat sub.toNat = .obj o k →
      o.index = index.toNat →
      o.sub = sub.toNat →
      d.accepts path o k data →
      o.apply ≠ .A →
      exec (.objectWrite path index sub data stored) ⟨d, w⟩ = .next ⟨Device.linesFollow (Device.settle (d.writeNow path o k data stored)), w⟩) ∧
  (∀ (path : Fin 17) (index : BitVec 16) (sub : Byte) (data : List Byte) (stored : Bool) (o : Obj) (k : Nat) (d : Device) (w : List Instr),
      locate index.toNat sub.toNat = .obj o k →
      o.index = index.toNat →
      o.sub = sub.toNat →
      d.accepts path o k data →
      o.apply = .A →
      exec (.objectWrite path index sub data stored) ⟨d, w⟩ = .next ⟨Device.linesFollow (Device.settle ((d.enqueue ⟨path, o.key, o.kept (o.ty.decode data)⟩).answer path index.toNat sub.toNat 0 1 [])), w⟩) ∧
  (∀ (path : Fin 17) (index : BitVec 16) (sub : Byte) (data : List Byte) (stored : Bool) (o : Obj) (k : Nat) (d : Device) (w : List Instr),
      locate index.toNat sub.toNat = .obj o k →
      o.index = index.toNat →
      o.sub = sub.toNat →
      d.mayWrite path o.index o.sub = true →
      ((o.access = .rws ∧ o.apply = .L) → d.stagedOf path = none) →
      d.writeBad path o k data = 0 →
      o.apply ≠ .A →
      d.sys.brownOut = true →
      mramWrite o k (o.kept (o.ty.decode data)) = true →
      exec (.objectWrite path index sub data stored) ⟨d, w⟩ = .next ⟨Device.linesFollow (Device.settle (d.deferWrite (.write path o.key data))), w⟩) ∧
  (∀ (path : Fin 17) (index : BitVec 16) (sub : Byte) (data : List Byte) (stored : Bool) (o : Obj) (k : Nat) (l : List Pending) (d : Device) (w : List Instr),
      locate index.toNat sub.toNat = .obj o k →
      d.mayWrite path index.toNat sub.toNat = true →
      o.access = .rws →
      o.apply = .L →
      d.stagedOf path = some l →
      exec (.objectWrite path index sub data stored) ⟨d, w⟩ = .next ⟨Device.linesFollow (Device.settle (d.stageWrite path o k data l)), w⟩) ∧
  (∀ (path : Fin 17) (d : Device) (w : List Instr),
      d.accepts path O.commit 0 (O.commit.ty.encode 1) →
      d.dict.staged = none →
      exec (.stagingBegin path) ⟨d, w⟩ = .next ⟨Device.linesFollow (Device.settle ((d.setStaged (some (path.val, []))).answer path 0x1F10 0 0 0 [])), w⟩) ∧
  (∀ (path : Fin 17) (l : List Pending) (d : Device) (w : List Instr),
      d.accepts path O.commit 0 (O.commit.ty.encode 2) →
      d.stagedOf path = some l →
      exec (.stagingCommit path) ⟨d, w⟩ = .next ⟨Device.linesFollow (Device.settle (d.commitNow path l true)), w⟩) ∧
  (∀ (path : Fin 17) (l : List Pending) (d : Device) (w : List Instr),
      d.accepts path O.commit 0 (O.commit.ty.encode 3) →
      d.stagedOf path = some l →
      exec (.stagingDiscard path) ⟨d, w⟩ = .next ⟨Device.linesFollow (Device.settle (d.discardNow.answer path 0x1F10 0 0 0 [])), w⟩) ∧
  (∀ (d : Device) (w : List Instr),
      d.sys.coreRunning = true →
      d.dict.staged.isSome = true →
      exec (.stagingTimeout) ⟨d, w⟩ = .next ⟨Device.linesFollow (Device.settle ((Device.discardNow d))), w⟩) ∧
  (∀ (path : Fin 17) (value : Byte) (d : Device) (w : List Instr),
      d.accepts path O.fence 0 (O.fence.ty.encode value.toNat) →
      exec (.fence path value) ⟨d, w⟩ = .next ⟨Device.linesFollow (Device.settle ((d).written path O.fence value.toNat)), w⟩) ∧
  (∀ (path : Fin 17) (value : Byte) (d : Device) (w : List Instr),
      d.accepts path O.snapshotFence 0 (O.snapshotFence.ty.encode value.toNat) →
      exec (.snapshotCapture path value) ⟨d, w⟩ = .next ⟨Device.linesFollow (Device.settle ((d.capture path).written path O.snapshotFence value.toNat)), w⟩) ∧
  (∀ (path : Fin 17) (value : BitVec 32) (d : Device) (w : List Instr),
      d.accepts path O.factoryRestore 0 (O.factoryRestore.ty.encode value.toNat) →
      d.restoreRefused = false →
      exec (.factoryRestore path value) ⟨d, w⟩ = .next ⟨Device.linesFollow (Device.settle (d.restoreNow path true)), w⟩)

/-- The management port and its window take their effect (R434, R435, R436, R437, R438, R441, R442, R443, R444, R500):
for every state where the command applies, the next state in full; the queue is unchanged. -/
def Obligations.ManagementCommandsHaveTheirEffect : Prop :=
  (∀ (data : List Byte) (d : Device) (w : List Instr),
      d.sys.vaon = true →
      (d.sys.coreRunning = true ∨ d.sys.standby = 2) →
      exec (.mgmtWriteTransaction data) ⟨d, w⟩ = .next ⟨Device.linesFollow (Device.settle (d.mgmtWrite data)), w⟩) ∧
  (∀ (ns : Nat) (m : PowerUp) (d : Device) (w : List Instr),
      d.sys.standby = 1 →
      exec (.mgmtWake ns m) ⟨d, w⟩ = .next ⟨Device.linesFollow (Device.settle (
          let old := d.mgmt
          let d := { d with aon := { d.aon with wakes := capTo 32 (d.aon.wakes + 1) } }.wakeUp ns m
          { d with mgmt := { d.mgmt with pointer := old.pointer, alertCause := old.alertCause ||| d.mgmt.alertCause
                                         alertMask := old.alertMask } }.alert 6)), w⟩) ∧
  (∀ (d : Device) (w : List Instr),
      d.sys.standby = 1 →
      exec (.wakeFailure) ⟨d, w⟩ = .next ⟨Device.linesFollow (Device.settle ({ d with aon := { d.aon with wakeFailures := capTo 16 (d.aon.wakeFailures + 1) } })), w⟩) ∧
  (∀ (d : Device) (w : List Instr),
      d.sys.vaon = true →
      exec (.mgmtStuckRelease) ⟨d, w⟩ = .next ⟨Device.linesFollow (Device.settle ({ d with aon := { d.aon with stuckReleases := capTo 16 (d.aon.stuckReleases + 1) } })), w⟩) ∧
  (∀ (d : Device) (w : List Instr),
      d.pathOpen 16 = true →
      d.mgmt.winState = 1 →
      d.mgmt.winOp = 1 →
      d.mgmt.result = none →
      exec (.windowOpRead) ⟨d, w⟩ = .next ⟨Device.linesFollow (Device.settle (
          let r := d.readObject 16 d.mgmt.winIndex d.mgmt.winSub
          { r.2.2 with mgmt := { r.2.2.mgmt with started := true, result := some (r.1, 0, r.2.1, d.now) } })), w⟩) ∧
  (∀ (stored : Bool) (d : Device) (w : List Instr),
      d.pathOpen 16 = true →
      d.mgmt.winState = 1 →
      d.mgmt.winOp = 2 →
      d.mgmt.started = false →
      exec (.windowOpWrite stored) ⟨d, w⟩ = .next ⟨Device.linesFollow (Device.settle (
          let m := d.mgmt
          let d := { d with mgmt := { m with started := true } }
          if 1 ≤ m.winLen ∧ m.winLen ≤ 1024 then d.writeObject 16 m.winIndex m.winSub (m.data.take m.winLen) stored
          else d.answer 16 m.winIndex m.winSub 0x0809 0 [])), w⟩) ∧
  (∀ (d : Device) (w : List Instr),
      d.sys.coreRunning = true →
      d.runs engNE = true →
      d.mgmt.winState = 1 →
      exec (.windowOpDone) ⟨d, w⟩ = .next ⟨Device.linesFollow (Device.settle (
          match d.mgmt.result with
          | some r => d.windowDone r 2
          | none => d)), w⟩) ∧
  (∀ (mask : BitVec 16) (d : Device) (w : List Instr),
      d.sys.vaon = true →
      d.sys.coreRunning = true →
      exec (.alertCauseClear mask) ⟨d, w⟩ = .next ⟨Device.linesFollow (Device.settle ({ d with mgmt := d.mgmt.putByte 4 (BitVec.ofNat 8 mask.toNat) }.updateAlert)), w⟩) ∧
  (∀ (d : Device) (w : List Instr),
      d.live = true →
      d.runs 15 = true →
      exec (.fastStatusRefresh) ⟨d, w⟩ = .next ⟨Device.linesFollow (Device.settle ({ d with mgmt := { d.mgmt with page := fit 256 d.statusPage, refreshes := (d.mgmt.refreshes + 1) % 2 ^ 32 } })), w⟩)

/-- DDR4 states, refresh and patrol take their effect (R448, R449, R451, R452, R453, R454, R455): for every state
where the command applies, the next state in full; the queue is unchanged. -/
def Obligations.MemoryCommandsHaveTheirEffect : Prop :=
  (∀ (ok : Bool) (d : Device) (w : List Instr),
      d.sys.coreRunning = true →
      d.get O.ddrState = 1 →
      exec (.ddrTrainingDone ok) ⟨d, w⟩ = .next ⟨Device.linesFollow (Device.settle (
          let d := d.bump O.trainings
          if ok then
            let b := d.get O.band
            let d := (d.set O.trainedBand b).setDdr 2
            let d := d.modMem fun m => { m with caRun := 0, rdOff := 0, wrOff := 0, patrolDdr := 0 }
            d.when (d.flag O.pfEnable && d.runs engBE) Device.pfArm
          else d.setDdr 3)), w⟩) ∧
  (∀ (d : Device) (w : List Instr),
      d.sys.coreRunning = true →
      (d.get O.ddrState = 3 ∨ d.get O.ddrState = 4) →
      exec (.ddrTrainingRetry) ⟨d, w⟩ = .next ⟨Device.linesFollow (Device.settle (d.setDdr 1)), w⟩) ∧
  (∀ (again : Bool) (d : Device) (w : List Instr),
      d.sys.coreRunning = true →
      d.get O.ddrState = 2 →
      exec (.caParityError again) ⟨d, w⟩ = .next ⟨Device.linesFollow (Device.settle (
          let n := if again then d.mem.caRun + 1 else 1
          let d := d.modMem fun m => { m with caRun := n }
          if n ≤ 3 then (d.bump O.caParityRetries).emit (.note 449 [n]) else d.setDdr 4)), w⟩) ∧
  (∀ (mram : Bool) (upset : List Byte) (holds : Region) (inSecond : Nat) (d : Device) (w : List Instr),
      d.sys.coreRunning = true →
      (mram = true ∨ d.get O.ddrState = 2) →
      exec (.patrolScrub mram upset holds inSecond) ⟨d, w⟩ = .next ⟨Device.linesFollow (Device.settle (
          let i := if mram then d.mem.patrolMram else d.mem.patrolDdr
          let n := if mram then mramBursts else (ddrBytes (d.get O.memDensity) / 64).toNat
          let next := patrolNext i n
          let d := d.modMem fun m => if mram then { m with patrolMram := next.1 } else { m with patrolDdr := next.1 }
          let d := d.when next.2 fun d => d.bump (if mram then O.mramScrubPasses else O.patrolPasses)
          let r := if regionLies holds mram (i * 64) then holds else .other
          d.burstRead mram (i * 64) (d.burstSeen r upset) r inSecond)), w⟩) ∧
  (∀ (d : Device) (w : List Instr),
      d.sys.coreRunning = true →
      d.get O.ddrState = 2 →
      exec (.ddrRefresh) ⟨d, w⟩ = .next ⟨Device.linesFollow (Device.settle (
          let fast := d.flag O.refreshFast || decide (2 ≤ d.get O.band)
          let o := d.phyOffsets
          (d.modMem fun m => { m with refi := if fast then 3900 else 7800, rdOff := o.1, wrOff := o.2 }).emit (.note 454 [0]))), w⟩) ∧
  (∀ (d : Device) (w : List Instr),
      d.sys.coreRunning = true →
      d.get O.ddrState = 2 →
      exec (.zqCalibration) ⟨d, w⟩ = .next ⟨Device.linesFollow (Device.settle (d.emit (.note 454 [1]))), w⟩)

/-- Pushes, claims, releases, flushes and idle notices take their effect (R461, R462, R463, R464, R465, R466, R467,
R470): for every state where the command applies, the next state in full; the queue is unchanged. -/
def Obligations.LaneCommandsHaveTheirEffect : Prop :=
  (∀ (q : Fin 128) (path : Fin 17) (data : List Byte) (d : Device) (w : List Instr),
      d.accepts path (O.pushSegment q) q data →
      exec (.pushSegment q path data) ⟨d, w⟩ = .next ⟨Device.linesFollow (Device.settle ((d.segmentNow q path data).written path (O.pushSegment q) (ofLe data))), w⟩) ∧
  (∀ (q : Fin 128) (path : Fin 17) (d : Device) (w : List Instr),
      d.accepts path (O.claim q) q ((O.claim q).ty.encode 1) →
      exec (.laneClaim q path) ⟨d, w⟩ = .next ⟨Device.linesFollow (Device.settle ((d.claimNow q path).written path (O.claim q) 1)), w⟩) ∧
  (∀ (q : Fin 128) (path : Fin 17) (seq : BitVec 32) (d : Device) (w : List Instr),
      d.accepts path (O.release q) q ((O.release q).ty.encode seq.toNat) →
      exec (.laneRelease q path seq) ⟨d, w⟩ = .next ⟨Device.linesFollow (Device.settle ((d.releaseNow q).written path (O.release q) seq.toNat)), w⟩) ∧
  (∀ (q : Fin 128) (path : Fin 17) (d : Device) (w : List Instr),
      d.accepts path (O.laneEnable q) q ((O.laneEnable q).ty.encode 0) →
      exec (.laneFlush q path) ⟨d, w⟩ = .next ⟨Device.linesFollow (Device.settle (((d.set (O.laneEnable q) 0).laneFlush q).written path (O.laneEnable q) 0)), w⟩) ∧
  (∀ (q : Fin 128) (d : Device) (w : List Instr),
      d.sys.coreRunning = true →
      d.get (O.idleTime q) ≠ 0 →
      (d.lane q).items.isEmpty = false →
      d.flag (O.laneIdle q) = false →
      exec (.laneIdle q) ⟨d, w⟩ = .next ⟨Device.linesFollow (Device.settle (((d.setFlag (O.laneIdle q) true).bump (O.idleNotices q)).raiseD 82 (0x100 + q) 0x0B07 [])), w⟩)

/-- The recorder, its freeze and its clear take their effect (R477, R478, R480, R481, R482, R485, R486, R487): for
every state where the command applies, the next state in full; the queue is unchanged. -/
def Obligations.RecorderCommandsHaveTheirEffect : Prop :=
  (∀ (d : Device) (w : List Instr),
      d.sys.coreRunning = true →
      d.runs engBE = true →
      d.sys.brownOut = false →
      exec (.recordWrite) ⟨d, w⟩ = .next ⟨Device.linesFollow ((Device.recordTurn d)), w⟩) ∧
  (∀ (path : Fin 17) (d : Device) (w : List Instr),
      d.accepts path O.freeze 0 (O.freeze.ty.encode 1) →
      exec (.freeze path) ⟨d, w⟩ = .next ⟨Device.linesFollow (Device.settle (((d.set O.freeze 1).freezeNow).written path O.freeze 1)), w⟩) ∧
  (∀ (path : Fin 17) (d : Device) (w : List Instr),
      d.accepts path O.freeze 0 (O.freeze.ty.encode 0) →
      exec (.unfreeze path) ⟨d, w⟩ = .next ⟨Device.linesFollow (Device.settle (((d.set O.freeze 0).unfreeze).written path O.freeze 0)), w⟩) ∧
  (∀ (d : Device) (w : List Instr),
      d.sys.coreRunning = true →
      d.flag O.frozen = true →
      exec (.freezeTimeout) ⟨d, w⟩ = .next ⟨Device.linesFollow (Device.settle (d.unfreeze.raiseD 83 0 0x000B [])), w⟩) ∧
  (∀ (path : Fin 17) (key : List Byte) (d : Device) (w : List Instr),
      d.accepts path O.clearKey 0 key →
      exec (.clearKeyWrite path key) ⟨d, w⟩ = .next ⟨Device.linesFollow (Device.settle ((d.clearKeyNow key).written path O.clearKey (ofLe key))), w⟩) ∧
  (∀ (path : Fin 17) (d : Device) (w : List Instr),
      d.accepts path O.clearRequest 0 (O.clearRequest.ty.encode 1) →
      exec (.clearRequest path) ⟨d, w⟩ = .next ⟨Device.linesFollow (Device.settle ((d.clearRequestNow).written path O.clearRequest 1)), w⟩) ∧
  (∀ (path : Fin 17) (mac : List Byte) (d : Device) (w : List Instr),
      d.accepts path O.clearResponse 0 mac →
      exec (.clearResponse path mac) ⟨d, w⟩ = .next ⟨Device.linesFollow (Device.settle ((d.clearNow path).written path O.clearResponse (ofLe mac))), w⟩) ∧
  (∀ (d : Device) (w : List Instr),
      exec (.clearChallengeExpiry) ⟨d, w⟩ = .next ⟨Device.linesFollow (d.setChallenge none), w⟩)

/-- Photo-finish frames, triggers and slots take their effect (R488, R489, R490, R491, R492, R411): for every state
where the command applies, the next state in full; the queue is unchanged. -/
def Obligations.PhotoFinishCommandsHaveTheirEffect : Prop :=
  (∀ (words : List Nat) (d : Device) (w : List Instr),
      d.sys.coreRunning = true →
      d.runs engBE = true →
      d.get O.ddrState = 2 →
      exec (.pfFrame words) ⟨d, w⟩ = .next ⟨Device.linesFollow (
          let i := d.getN O.liveSlot
          let now := d.now
          let f := (now, ((words ++ List.replicate 64 0).take (d.pfSlot i).channels.length).map fun w => w % 4096)
          match d.getN O.pfState with
          | 1 =>
            let n := d.getN O.pfPreFrames
            d.modPf i fun x => { x with pre := (x.pre ++ [f]).drop (x.pre.length + 1 - n) }
          | 2 => d.when (decide ((d.pfSlot i).post.length < d.getN O.pfPostFrames)) fun d =>
              d.modPf i fun x => { x with post := x.post ++ [f] }
          | _ => d), w⟩) ∧
  (∀ (d : Device) (w : List Instr),
      d.sys.coreRunning = true →
      d.runs engBE = true →
      d.get O.pfState = 2 →
      d.getN O.pfPostFrames ≤ (d.pfSlot (d.getN O.liveSlot)).post.length →
      exec (.pfCaptureFrozen) ⟨d, w⟩ = .next ⟨Device.linesFollow (Device.settle (
          let i := d.getN O.liveSlot
          let d := (((d.modPf i fun x => { x with state := 3 }).bump O.captures).set O.pfState 0).set O.liveSlot 0xFF
          d.when (d.flag O.pfEnable && d.flag O.pfAutoRearm) Device.pfArm)), w⟩) ∧
  (∀ (path : Fin 17) (d : Device) (w : List Instr),
      d.accepts path O.pfTrigger 0 (O.pfTrigger.ty.encode 1) →
      exec (.pfTrigger path) ⟨d, w⟩ = .next ⟨Device.linesFollow (Device.settle ((d.pfTriggerNow).written path O.pfTrigger 1)), w⟩) ∧
  (∀ (path : Fin 17) (d : Device) (w : List Instr),
      d.accepts path O.pfEnable 0 (O.pfEnable.ty.encode 1) →
      d.get O.pfEnable ≠ 1 →
      exec (.pfEnable path) ⟨d, w⟩ = .next ⟨Device.linesFollow (Device.settle (((d.set O.pfEnable 1).pfEnabled).written path O.pfEnable 1)), w⟩) ∧
  (∀ (path : Fin 17) (d : Device) (w : List Instr),
      d.accepts path O.pfEnable 0 (O.pfEnable.ty.encode 0) →
      d.get O.pfEnable ≠ 0 →
      exec (.pfDisable path) ⟨d, w⟩ = .next ⟨Device.linesFollow (Device.settle (((d.set O.pfEnable 0).pfDisabled).written path O.pfEnable 0)), w⟩) ∧
  (∀ (path : Fin 17) (slot : Byte) (d : Device) (w : List Instr),
      d.accepts path O.pfRelease 0 (O.pfRelease.ty.encode slot.toNat) →
      exec (.pfRelease path slot) ⟨d, w⟩ = .next ⟨Device.linesFollow (Device.settle ((d.pfReleaseNow slot.toNat).written path O.pfRelease slot.toNat)), w⟩)

/-- Autostart, standby and packages take their effect (R364, R411, R419, R500, R501, R502, R505, R506): for every
state where the command applies, the next state in full; the queue is unchanged. -/
def Obligations.StartCommandsHaveTheirEffect : Prop :=
  (∀ (d : Device) (w : List Instr),
      (d.autostarting = true ∨ d.lastStep = true) →
      exec (.autostartStep) ⟨d, w⟩ = .next ⟨Device.linesFollow (Device.settle (
          let d := if d.eng.applied then d else d.applyStep
          d.when (d.autostarting && d.stepEnds) Device.nextStep)), w⟩) ∧
  (∀ (d : Device) (w : List Instr),
      d.autostarting = true →
      d.get O.autostartStep = 3 →
      d.eng.applied = true →
      d.lineReady = false →
      (d.eng.waitFromLap : Int) + d.get O.lockWaitLaps ≤ d.lap →
      exec (.autostartLockWaitExpiry) ⟨d, w⟩ = .next ⟨Device.linesFollow (Device.settle (
          let d := d.used.raiseD 80 0 (d.freeVal % 65536).toNat []
          (d.modEng fun e => { e with lockExpired := true }).nextStep)), w⟩) ∧
  (∀ (d : Device) (w : List Instr),
      d.sys.coreRunning = true →
      d.flag O.seqRetrying = false →
      exec (.bringupTimeout) ⟨d, w⟩ = .next ⟨Device.linesFollow (Device.settle (d.autostartFail 1)), w⟩) ∧
  (∀ (path : Fin 17) (d : Device) (w : List Instr),
      d.accepts path O.standbyRequest 0 (O.standbyRequest.ty.encode 1) →
      exec (.standbyRequest path) ⟨d, w⟩ = .next ⟨Device.linesFollow (Device.settle ((d.answer path 0xA050 1 0 0 []).standbyNow)), w⟩) ∧
  (∀ (path : Fin 17) (data : List Byte) (d : Device) (w : List Instr),
      d.accepts path O.packageWrite 0 data →
      exec (.packageWrite path data) ⟨d, w⟩ = .next ⟨Device.linesFollow (Device.settle ((d.pieceNow data).written path O.packageWrite (ofLe data))), w⟩) ∧
  (∀ (path : Fin 17) (d : Device) (w : List Instr),
      d.accepts path O.packageVerify 0 (O.packageVerify.ty.encode 1) →
      exec (.packageVerify path) ⟨d, w⟩ = .next ⟨Device.linesFollow (Device.settle (d.verifyNow path)), w⟩) ∧
  (∀ (d : Device) (w : List Instr),
      d.sys.coreRunning = true →
      exec (.packageVerifyDone) ⟨d, w⟩ = .next ⟨Device.linesFollow (Device.settle (d.verifyDone)), w⟩) ∧
  (∀ (path : Fin 17) (d : Device) (w : List Instr),
      d.accepts path O.packageInstall 0 (O.packageInstall.ty.encode 1) →
      exec (.packageInstall path) ⟨d, w⟩ = .next ⟨Device.linesFollow (Device.settle (d.installNow path)), w⟩) ∧
  (∀ (ok : Bool) (d : Device) (w : List Instr),
      d.sys.coreRunning = true →
      d.sys.brownOut = false →
      exec (.packageInstallDone ok) ⟨d, w⟩ = .next ⟨Device.linesFollow (Device.settle (d.installDone ok)), w⟩) ∧
  (∀ (path : Fin 17) (d : Device) (w : List Instr),
      d.accepts path O.packageDiscard 0 (O.packageDiscard.ty.encode 1) →
      exec (.packageDiscard path) ⟨d, w⟩ = .next ⟨Device.linesFollow (Device.settle ((d.setPackage []).written path O.packageDiscard 1)), w⟩)

/-- Engine failures, loads, updates and pair moves take their effect (R14, R115, R116, R411, R419, R507, R508, R509,
R510, R512): for every state where the command applies, the next state in full; the queue is unchanged. -/
def Obligations.EngineCommandsHaveTheirEffect : Prop :=
  (∀ (e : Fin 16) (d : Device) (w : List Instr),
      d.sys.coreRunning = true →
      d.runs 15 = true →
      e ≠ 15 →
      (d.get (O.engineState e) = 1 ∨ d.get (O.engineState e) = 2 ∨ d.get (O.engineState e) = 3) →
      exec (.engineFailure e) ⟨d, w⟩ = .next ⟨Device.linesFollow (Device.settle (d.engineFails e)), w⟩) ∧
  (∀ (e : Fin 16) (ok : Bool) (d : Device) (w : List Instr),
      d.sys.coreRunning = true →
      d.runs 15 = true →
      exec (.engineLoadDone e ok) ⟨d, w⟩ = .next ⟨Device.linesFollow (Device.settle (
          if d.get (O.engineState e) = 4 then d.reloadDone e ok
          else if d.get (O.engineState e) = 6 then d.updateDone e ok
          else d)), w⟩) ∧
  (∀ (same : Bool) (d : Device) (w : List Instr),
      d.live = true →
      exec (.transferCommit same) ⟨d, w⟩ = .next ⟨Device.linesFollow (Device.settle (d.moveCommit same)), w⟩) ∧
  (∀ (e : Fin 16) (path : Fin 17) (bank : Byte) (d : Device) (w : List Instr),
      d.accepts path (O.engineUpdate e) e ((O.engineUpdate e).ty.encode bank.toNat) →
      e ≠ 13 →
      e ≠ 15 →
      exec (.engineUpdate e path bank) ⟨d, w⟩ = .next ⟨Device.linesFollow (Device.settle (d.updateNow path e bank.toNat)), w⟩) ∧
  (∀ (e : Fin 16) (path : Fin 17) (bank : Byte) (d : Device) (w : List Instr),
      d.accepts path (O.engineUpdate e) e ((O.engineUpdate e).ty.encode bank.toNat) →
      e = 13 →
      exec (.engineUpdate e path bank) ⟨d, w⟩ = .next ⟨Device.linesFollow (Device.settle (((d.answer path (O.engineUpdate e).index 1 0 0 []).updateNow path e bank.toNat).netDown)), w⟩) ∧
  (∀ (e : Fin 16) (path : Fin 17) (bank : Byte) (d : Device) (w : List Instr),
      d.accepts path (O.engineUpdate e) e ((O.engineUpdate e).ty.encode bank.toNat) →
      e = 15 →
      exec (.engineUpdate e path bank) ⟨d, w⟩ = .next ⟨Device.linesFollow (Device.settle ((d.updateNow path e bank.toNat).answer path (O.engineUpdate e).index 1 0 0 [])), w⟩) ∧
  (∀ (e : Fin 16) (path : Fin 17) (d : Device) (w : List Instr),
      d.accepts path (O.engineRetire e) e ((O.engineRetire e).ty.encode 1) →
      exec (.engineRetire e path) ⟨d, w⟩ = .next ⟨Device.linesFollow (Device.settle ((d.retireNow e).written path (O.engineRetire e) 1)), w⟩) ∧
  (∀ (path : Fin 17) (data : List Byte) (d : Device) (w : List Instr),
      d.accepts path O.pairMove 0 data →
      exec (.pairMove path data) ⟨d, w⟩ = .next ⟨Device.linesFollow (Device.settle ((d.pairMoveNow (ofLe data)).written path O.pairMove (ofLe data))), w⟩) ∧
  (∀ (path : Fin 17) (lap : BitVec 64) (d : Device) (w : List Instr),
      d.accepts path O.swapLap 0 (O.swapLap.ty.encode lap.toNat) →
      exec (.swapLap path lap) ⟨d, w⟩ = .next ⟨Device.linesFollow (Device.settle ((d.swapNow lap.toNat).written path O.swapLap lap.toNat)), w⟩)
end

