-- ==== Sys2Proof/Laws/RegFile.lean ====
section
/-! SUPPORT. Laws of the register file: what a change does to the value at every address, and that it keeps the canonical
form. -/

namespace Sys2Proof.Machine

theorem RegFile.find_drop_same (k : Nat) (x : Int) (r : RegFile) : RegFile.find k x (r.drop k) = x := by
  induction r with
  | nil => rfl
  | cons e r ih =>
    by_cases h : e.1 = k
    · simpa [RegFile.drop, h] using ih
    · simpa [RegFile.drop, h, RegFile.find] using ih

theorem RegFile.find_drop_other (k j : Nat) (x : Int) (r : RegFile) (h : j ≠ k) :
    RegFile.find j x (r.drop k) = RegFile.find j x r := by
  induction r with
  | nil => rfl
  | cons e r ih =>
    obtain ⟨a, v⟩ := e
    by_cases hk : a = k
    · subst hk
      simpa [RegFile.drop, RegFile.find, Ne.symm h] using ih
    · simp only [RegFile.drop] at ih
      have hd : RegFile.drop k ((a, v) :: r) = (a, v) :: r.filter fun e => e.1 != k := by simp [RegFile.drop, hk]
      rw [hd, RegFile.find, RegFile.find, ih]

theorem RegFile.find_insert_same (k : Nat) (v x : Int) (r : RegFile) (h : ∀ e ∈ r, e.1 ≠ k) :
    RegFile.find k x (RegFile.insert k v r) = v := by
  induction r with
  | nil => simp [RegFile.insert, RegFile.find]
  | cons e r ih =>
    obtain ⟨a, w⟩ := e
    have ha : a ≠ k := h (a, w) (by simp)
    by_cases hk : k < a
    · simp [RegFile.insert, hk, RegFile.find]
    · simp only [RegFile.insert, hk, if_false, RegFile.find, ha]
      exact ih fun e he => h e (by simp [he])

theorem RegFile.find_insert_other (k j : Nat) (v x : Int) (r : RegFile) (h : j ≠ k) :
    RegFile.find j x (RegFile.insert k v r) = RegFile.find j x r := by
  induction r with
  | nil => simp [RegFile.insert, RegFile.find, Ne.symm h]
  | cons e r ih =>
    obtain ⟨a, w⟩ := e
    by_cases hk : k < a
    · simp [RegFile.insert, hk, RegFile.find, Ne.symm h]
    · simp only [RegFile.insert, hk, if_false, RegFile.find, ih]

theorem RegFile.drop_spec (k : Nat) (r : RegFile) : ∀ e ∈ r.drop k, e.1 ≠ k := by
  intro e he
  simpa using (List.mem_filter.mp he).2

theorem RegFile.sortedFrom_mono (r : RegFile) (a b : Nat) (h : a ≤ b) (hs : RegFile.sortedFrom b r = true) :
    RegFile.sortedFrom a r = true := by
  cases r with
  | nil => rfl
  | cons e r =>
    obtain ⟨k, v⟩ := e
    simp only [RegFile.sortedFrom, Bool.and_eq_true, decide_eq_true_eq] at hs ⊢
    exact ⟨by omega, hs.2⟩

theorem RegFile.drop_sorted (k lo : Nat) (r : RegFile) (h : RegFile.sortedFrom lo r = true) :
    RegFile.sortedFrom lo (r.drop k) = true := by
  induction r generalizing lo with
  | nil => rfl
  | cons e r ih =>
    obtain ⟨a, v⟩ := e
    simp only [RegFile.sortedFrom, Bool.and_eq_true, decide_eq_true_eq] at h
    have hr : RegFile.sortedFrom (a + 1) (r.filter fun e => e.1 != k) = true := ih (a + 1) h.2
    by_cases hk : a = k
    · simpa [RegFile.drop, hk] using RegFile.sortedFrom_mono _ _ _ (by omega) hr
    · simp [RegFile.drop, hk, RegFile.sortedFrom, h.1, hr]

theorem RegFile.insert_sorted (k lo : Nat) (v : Int) (r : RegFile) (hk : lo ≤ k) (hn : ∀ e ∈ r, e.1 ≠ k)
    (h : RegFile.sortedFrom lo r = true) : RegFile.sortedFrom lo (RegFile.insert k v r) = true := by
  induction r generalizing lo with
  | nil => simp [RegFile.insert, RegFile.sortedFrom, hk]
  | cons e r ih =>
    obtain ⟨a, w⟩ := e
    have ha : a ≠ k := hn (a, w) (by simp)
    simp only [RegFile.sortedFrom, Bool.and_eq_true, decide_eq_true_eq] at h
    by_cases hka : k < a
    · simp only [RegFile.insert, hka, if_true, RegFile.sortedFrom, Bool.and_eq_true, decide_eq_true_eq]
      exact ⟨hk, by omega, h.2⟩
    · simp only [RegFile.insert, hka, if_false, RegFile.sortedFrom, Bool.and_eq_true, decide_eq_true_eq]
      exact ⟨h.1, ih (a + 1) (by omega) (fun e he => hn e (by simp [he])) h.2⟩

/-- A change of one address keeps the canonical form. -/
theorem RegFile.put_wf (k : Nat) (v x : Int) (r : RegFile) (h : r.wf = true) : (RegFile.put k v x r).wf = true := by
  unfold RegFile.put RegFile.wf
  split
  · exact RegFile.drop_sorted _ _ _ h
  · exact RegFile.insert_sorted _ _ _ _ (Nat.zero_le _) (RegFile.drop_spec k r) (RegFile.drop_sorted _ _ _ h)

/-- What a changed address reads as. -/
theorem RegFile.find_put_same (k : Nat) (v x : Int) (r : RegFile) : RegFile.find k x (RegFile.put k v x r) = v := by
  unfold RegFile.put
  split
  · rw [RegFile.find_drop_same]; exact (by assumption : v = x).symm
  · exact RegFile.find_insert_same _ _ _ _ (RegFile.drop_spec k r)

/-- Every other address reads as before. -/
theorem RegFile.find_put_other (k j : Nat) (v x y : Int) (r : RegFile) (h : j ≠ k) :
    RegFile.find j y (RegFile.put k v x r) = RegFile.find j y r := by
  unfold RegFile.put
  split
  · exact RegFile.find_drop_other _ _ _ _ h
  · rw [RegFile.find_insert_other _ _ _ _ _ h, RegFile.find_drop_other _ _ _ _ h]

end Sys2Proof.Machine
end

