-- ==== Sys2Proof/Laws/State.lean ====
section
/-! SUPPORT. What each plain change of the block leaves in each field. -/

namespace Sys2Proof.Machine

@[simp] theorem Device.set_outs (d : Device) (o : Obj) (v : Int) : (d.set o v).outs = d.outs := rfl
@[simp] theorem Device.set_free (d : Device) (o : Obj) (v : Int) : (d.set o v).free = d.free := rfl
@[simp] theorem Device.set_sys (d : Device) (o : Obj) (v : Int) : (d.set o v).sys = d.sys := rfl
@[simp] theorem Device.set_aon (d : Device) (o : Obj) (v : Int) : (d.set o v).aon = d.aon := rfl
@[simp] theorem Device.set_mram (d : Device) (o : Obj) (v : Int) : (d.set o v).mram = d.mram := rfl
@[simp] theorem Device.set_pins (d : Device) (o : Obj) (v : Int) : (d.set o v).pins = d.pins := rfl
@[simp] theorem Device.set_tb (d : Device) (o : Obj) (v : Int) : (d.set o v).tb = d.tb := rfl
@[simp] theorem Device.set_cells (d : Device) (o : Obj) (v : Int) : (d.set o v).cells = d.cells := rfl
@[simp] theorem Device.set_feeds (d : Device) (o : Obj) (v : Int) : (d.set o v).feeds = d.feeds := rfl
@[simp] theorem Device.set_links (d : Device) (o : Obj) (v : Int) : (d.set o v).links = d.links := rfl
@[simp] theorem Device.set_gates (d : Device) (o : Obj) (v : Int) : (d.set o v).gates = d.gates := rfl
@[simp] theorem Device.set_diodes (d : Device) (o : Obj) (v : Int) : (d.set o v).diodes = d.diodes := rfl
@[simp] theorem Device.set_bar (d : Device) (o : Obj) (v : Int) : (d.set o v).bar = d.bar := rfl
@[simp] theorem Device.set_ports (d : Device) (o : Obj) (v : Int) : (d.set o v).ports = d.ports := rfl
@[simp] theorem Device.set_slots (d : Device) (o : Obj) (v : Int) : (d.set o v).slots = d.slots := rfl
@[simp] theorem Device.set_bus (d : Device) (o : Obj) (v : Int) : (d.set o v).bus = d.bus := rfl
@[simp] theorem Device.set_seq (d : Device) (o : Obj) (v : Int) : (d.set o v).seq = d.seq := rfl
@[simp] theorem Device.set_router (d : Device) (o : Obj) (v : Int) : (d.set o v).router = d.router := rfl
@[simp] theorem Device.set_therm (d : Device) (o : Obj) (v : Int) : (d.set o v).therm = d.therm := rfl
@[simp] theorem Device.set_hold (d : Device) (o : Obj) (v : Int) : (d.set o v).hold = d.hold := rfl
@[simp] theorem Device.set_strings (d : Device) (o : Obj) (v : Int) : (d.set o v).strings = d.strings := rfl
@[simp] theorem Device.set_ledger (d : Device) (o : Obj) (v : Int) : (d.set o v).ledger = d.ledger := rfl
@[simp] theorem Device.set_mem (d : Device) (o : Obj) (v : Int) : (d.set o v).mem = d.mem := rfl
@[simp] theorem Device.set_enf (d : Device) (o : Obj) (v : Int) : (d.set o v).enf = d.enf := rfl
@[simp] theorem Device.set_faults (d : Device) (o : Obj) (v : Int) : (d.set o v).faults = d.faults := rfl
@[simp] theorem Device.set_faultPulse (d : Device) (o : Obj) (v : Int) : (d.set o v).faultPulse = d.faultPulse := rfl
@[simp] theorem Device.set_net (d : Device) (o : Obj) (v : Int) : (d.set o v).net = d.net := rfl
@[simp] theorem Device.set_dict (d : Device) (o : Obj) (v : Int) : (d.set o v).dict = d.dict := rfl
@[simp] theorem Device.set_mgmt (d : Device) (o : Obj) (v : Int) : (d.set o v).mgmt = d.mgmt := rfl
@[simp] theorem Device.set_recorder (d : Device) (o : Obj) (v : Int) : (d.set o v).recorder = d.recorder := rfl
@[simp] theorem Device.set_pf (d : Device) (o : Obj) (v : Int) : (d.set o v).pf = d.pf := rfl
@[simp] theorem Device.set_eng (d : Device) (o : Obj) (v : Int) : (d.set o v).eng = d.eng := rfl

@[simp] theorem Device.setFlag_outs (d : Device) (o : Obj) (b : Bool) : (d.setFlag o b).outs = d.outs := rfl
@[simp] theorem Device.setFlag_free (d : Device) (o : Obj) (b : Bool) : (d.setFlag o b).free = d.free := rfl
@[simp] theorem Device.setFlag_sys (d : Device) (o : Obj) (b : Bool) : (d.setFlag o b).sys = d.sys := rfl
@[simp] theorem Device.setFlag_aon (d : Device) (o : Obj) (b : Bool) : (d.setFlag o b).aon = d.aon := rfl
@[simp] theorem Device.setFlag_mram (d : Device) (o : Obj) (b : Bool) : (d.setFlag o b).mram = d.mram := rfl
@[simp] theorem Device.setFlag_pins (d : Device) (o : Obj) (b : Bool) : (d.setFlag o b).pins = d.pins := rfl
@[simp] theorem Device.setFlag_tb (d : Device) (o : Obj) (b : Bool) : (d.setFlag o b).tb = d.tb := rfl
@[simp] theorem Device.setFlag_cells (d : Device) (o : Obj) (b : Bool) : (d.setFlag o b).cells = d.cells := rfl
@[simp] theorem Device.setFlag_feeds (d : Device) (o : Obj) (b : Bool) : (d.setFlag o b).feeds = d.feeds := rfl
@[simp] theorem Device.setFlag_links (d : Device) (o : Obj) (b : Bool) : (d.setFlag o b).links = d.links := rfl
@[simp] theorem Device.setFlag_gates (d : Device) (o : Obj) (b : Bool) : (d.setFlag o b).gates = d.gates := rfl
@[simp] theorem Device.setFlag_diodes (d : Device) (o : Obj) (b : Bool) : (d.setFlag o b).diodes = d.diodes := rfl
@[simp] theorem Device.setFlag_bar (d : Device) (o : Obj) (b : Bool) : (d.setFlag o b).bar = d.bar := rfl
@[simp] theorem Device.setFlag_ports (d : Device) (o : Obj) (b : Bool) : (d.setFlag o b).ports = d.ports := rfl
@[simp] theorem Device.setFlag_slots (d : Device) (o : Obj) (b : Bool) : (d.setFlag o b).slots = d.slots := rfl
@[simp] theorem Device.setFlag_bus (d : Device) (o : Obj) (b : Bool) : (d.setFlag o b).bus = d.bus := rfl
@[simp] theorem Device.setFlag_seq (d : Device) (o : Obj) (b : Bool) : (d.setFlag o b).seq = d.seq := rfl
@[simp] theorem Device.setFlag_router (d : Device) (o : Obj) (b : Bool) : (d.setFlag o b).router = d.router := rfl
@[simp] theorem Device.setFlag_therm (d : Device) (o : Obj) (b : Bool) : (d.setFlag o b).therm = d.therm := rfl
@[simp] theorem Device.setFlag_hold (d : Device) (o : Obj) (b : Bool) : (d.setFlag o b).hold = d.hold := rfl
@[simp] theorem Device.setFlag_strings (d : Device) (o : Obj) (b : Bool) : (d.setFlag o b).strings = d.strings := rfl
@[simp] theorem Device.setFlag_ledger (d : Device) (o : Obj) (b : Bool) : (d.setFlag o b).ledger = d.ledger := rfl
@[simp] theorem Device.setFlag_mem (d : Device) (o : Obj) (b : Bool) : (d.setFlag o b).mem = d.mem := rfl
@[simp] theorem Device.setFlag_enf (d : Device) (o : Obj) (b : Bool) : (d.setFlag o b).enf = d.enf := rfl
@[simp] theorem Device.setFlag_faults (d : Device) (o : Obj) (b : Bool) : (d.setFlag o b).faults = d.faults := rfl
@[simp] theorem Device.setFlag_faultPulse (d : Device) (o : Obj) (b : Bool) : (d.setFlag o b).faultPulse = d.faultPulse := rfl
@[simp] theorem Device.setFlag_net (d : Device) (o : Obj) (b : Bool) : (d.setFlag o b).net = d.net := rfl
@[simp] theorem Device.setFlag_dict (d : Device) (o : Obj) (b : Bool) : (d.setFlag o b).dict = d.dict := rfl
@[simp] theorem Device.setFlag_mgmt (d : Device) (o : Obj) (b : Bool) : (d.setFlag o b).mgmt = d.mgmt := rfl
@[simp] theorem Device.setFlag_recorder (d : Device) (o : Obj) (b : Bool) : (d.setFlag o b).recorder = d.recorder := rfl
@[simp] theorem Device.setFlag_pf (d : Device) (o : Obj) (b : Bool) : (d.setFlag o b).pf = d.pf := rfl
@[simp] theorem Device.setFlag_eng (d : Device) (o : Obj) (b : Bool) : (d.setFlag o b).eng = d.eng := rfl

@[simp] theorem Device.emit_regs (d : Device) (o : Out) : (d.emit o).regs = d.regs := rfl
@[simp] theorem Device.emit_free (d : Device) (o : Out) : (d.emit o).free = d.free := rfl
@[simp] theorem Device.emit_sys (d : Device) (o : Out) : (d.emit o).sys = d.sys := rfl
@[simp] theorem Device.emit_aon (d : Device) (o : Out) : (d.emit o).aon = d.aon := rfl
@[simp] theorem Device.emit_mram (d : Device) (o : Out) : (d.emit o).mram = d.mram := rfl
@[simp] theorem Device.emit_pins (d : Device) (o : Out) : (d.emit o).pins = d.pins := rfl
@[simp] theorem Device.emit_tb (d : Device) (o : Out) : (d.emit o).tb = d.tb := rfl
@[simp] theorem Device.emit_cells (d : Device) (o : Out) : (d.emit o).cells = d.cells := rfl
@[simp] theorem Device.emit_feeds (d : Device) (o : Out) : (d.emit o).feeds = d.feeds := rfl
@[simp] theorem Device.emit_links (d : Device) (o : Out) : (d.emit o).links = d.links := rfl
@[simp] theorem Device.emit_gates (d : Device) (o : Out) : (d.emit o).gates = d.gates := rfl
@[simp] theorem Device.emit_diodes (d : Device) (o : Out) : (d.emit o).diodes = d.diodes := rfl
@[simp] theorem Device.emit_bar (d : Device) (o : Out) : (d.emit o).bar = d.bar := rfl
@[simp] theorem Device.emit_ports (d : Device) (o : Out) : (d.emit o).ports = d.ports := rfl
@[simp] theorem Device.emit_slots (d : Device) (o : Out) : (d.emit o).slots = d.slots := rfl
@[simp] theorem Device.emit_bus (d : Device) (o : Out) : (d.emit o).bus = d.bus := rfl
@[simp] theorem Device.emit_seq (d : Device) (o : Out) : (d.emit o).seq = d.seq := rfl
@[simp] theorem Device.emit_router (d : Device) (o : Out) : (d.emit o).router = d.router := rfl
@[simp] theorem Device.emit_therm (d : Device) (o : Out) : (d.emit o).therm = d.therm := rfl
@[simp] theorem Device.emit_hold (d : Device) (o : Out) : (d.emit o).hold = d.hold := rfl
@[simp] theorem Device.emit_strings (d : Device) (o : Out) : (d.emit o).strings = d.strings := rfl
@[simp] theorem Device.emit_ledger (d : Device) (o : Out) : (d.emit o).ledger = d.ledger := rfl
@[simp] theorem Device.emit_mem (d : Device) (o : Out) : (d.emit o).mem = d.mem := rfl
@[simp] theorem Device.emit_enf (d : Device) (o : Out) : (d.emit o).enf = d.enf := rfl
@[simp] theorem Device.emit_faults (d : Device) (o : Out) : (d.emit o).faults = d.faults := rfl
@[simp] theorem Device.emit_faultPulse (d : Device) (o : Out) : (d.emit o).faultPulse = d.faultPulse := rfl
@[simp] theorem Device.emit_net (d : Device) (o : Out) : (d.emit o).net = d.net := rfl
@[simp] theorem Device.emit_dict (d : Device) (o : Out) : (d.emit o).dict = d.dict := rfl
@[simp] theorem Device.emit_mgmt (d : Device) (o : Out) : (d.emit o).mgmt = d.mgmt := rfl
@[simp] theorem Device.emit_recorder (d : Device) (o : Out) : (d.emit o).recorder = d.recorder := rfl
@[simp] theorem Device.emit_pf (d : Device) (o : Out) : (d.emit o).pf = d.pf := rfl
@[simp] theorem Device.emit_eng (d : Device) (o : Out) : (d.emit o).eng = d.eng := rfl

@[simp] theorem Device.used_regs (d : Device) : d.used.regs = d.regs := rfl
@[simp] theorem Device.used_outs (d : Device) : d.used.outs = d.outs := rfl
@[simp] theorem Device.used_sys (d : Device) : d.used.sys = d.sys := rfl
@[simp] theorem Device.used_aon (d : Device) : d.used.aon = d.aon := rfl
@[simp] theorem Device.used_mram (d : Device) : d.used.mram = d.mram := rfl
@[simp] theorem Device.used_pins (d : Device) : d.used.pins = d.pins := rfl
@[simp] theorem Device.used_tb (d : Device) : d.used.tb = d.tb := rfl
@[simp] theorem Device.used_cells (d : Device) : d.used.cells = d.cells := rfl
@[simp] theorem Device.used_feeds (d : Device) : d.used.feeds = d.feeds := rfl
@[simp] theorem Device.used_links (d : Device) : d.used.links = d.links := rfl
@[simp] theorem Device.used_gates (d : Device) : d.used.gates = d.gates := rfl
@[simp] theorem Device.used_diodes (d : Device) : d.used.diodes = d.diodes := rfl
@[simp] theorem Device.used_bar (d : Device) : d.used.bar = d.bar := rfl
@[simp] theorem Device.used_ports (d : Device) : d.used.ports = d.ports := rfl
@[simp] theorem Device.used_slots (d : Device) : d.used.slots = d.slots := rfl
@[simp] theorem Device.used_bus (d : Device) : d.used.bus = d.bus := rfl
@[simp] theorem Device.used_seq (d : Device) : d.used.seq = d.seq := rfl
@[simp] theorem Device.used_router (d : Device) : d.used.router = d.router := rfl
@[simp] theorem Device.used_therm (d : Device) : d.used.therm = d.therm := rfl
@[simp] theorem Device.used_hold (d : Device) : d.used.hold = d.hold := rfl
@[simp] theorem Device.used_strings (d : Device) : d.used.strings = d.strings := rfl
@[simp] theorem Device.used_ledger (d : Device) : d.used.ledger = d.ledger := rfl
@[simp] theorem Device.used_mem (d : Device) : d.used.mem = d.mem := rfl
@[simp] theorem Device.used_enf (d : Device) : d.used.enf = d.enf := rfl
@[simp] theorem Device.used_faults (d : Device) : d.used.faults = d.faults := rfl
@[simp] theorem Device.used_faultPulse (d : Device) : d.used.faultPulse = d.faultPulse := rfl
@[simp] theorem Device.used_net (d : Device) : d.used.net = d.net := rfl
@[simp] theorem Device.used_dict (d : Device) : d.used.dict = d.dict := rfl
@[simp] theorem Device.used_mgmt (d : Device) : d.used.mgmt = d.mgmt := rfl
@[simp] theorem Device.used_recorder (d : Device) : d.used.recorder = d.recorder := rfl
@[simp] theorem Device.used_pf (d : Device) : d.used.pf = d.pf := rfl
@[simp] theorem Device.used_eng (d : Device) : d.used.eng = d.eng := rfl

@[simp] theorem Device.modCell_regs (d : Device) (n : Nat) (f : Cell → Cell) : (d.modCell n f).regs = d.regs := rfl
@[simp] theorem Device.modCell_outs (d : Device) (n : Nat) (f : Cell → Cell) : (d.modCell n f).outs = d.outs := rfl
@[simp] theorem Device.modCell_free (d : Device) (n : Nat) (f : Cell → Cell) : (d.modCell n f).free = d.free := rfl
@[simp] theorem Device.modCell_sys (d : Device) (n : Nat) (f : Cell → Cell) : (d.modCell n f).sys = d.sys := rfl
@[simp] theorem Device.modCell_aon (d : Device) (n : Nat) (f : Cell → Cell) : (d.modCell n f).aon = d.aon := rfl
@[simp] theorem Device.modCell_mram (d : Device) (n : Nat) (f : Cell → Cell) : (d.modCell n f).mram = d.mram := rfl
@[simp] theorem Device.modCell_pins (d : Device) (n : Nat) (f : Cell → Cell) : (d.modCell n f).pins = d.pins := rfl
@[simp] theorem Device.modCell_tb (d : Device) (n : Nat) (f : Cell → Cell) : (d.modCell n f).tb = d.tb := rfl
@[simp] theorem Device.modCell_feeds (d : Device) (n : Nat) (f : Cell → Cell) : (d.modCell n f).feeds = d.feeds := rfl
@[simp] theorem Device.modCell_links (d : Device) (n : Nat) (f : Cell → Cell) : (d.modCell n f).links = d.links := rfl
@[simp] theorem Device.modCell_gates (d : Device) (n : Nat) (f : Cell → Cell) : (d.modCell n f).gates = d.gates := rfl
@[simp] theorem Device.modCell_diodes (d : Device) (n : Nat) (f : Cell → Cell) : (d.modCell n f).diodes = d.diodes := rfl
@[simp] theorem Device.modCell_bar (d : Device) (n : Nat) (f : Cell → Cell) : (d.modCell n f).bar = d.bar := rfl
@[simp] theorem Device.modCell_ports (d : Device) (n : Nat) (f : Cell → Cell) : (d.modCell n f).ports = d.ports := rfl
@[simp] theorem Device.modCell_slots (d : Device) (n : Nat) (f : Cell → Cell) : (d.modCell n f).slots = d.slots := rfl
@[simp] theorem Device.modCell_bus (d : Device) (n : Nat) (f : Cell → Cell) : (d.modCell n f).bus = d.bus := rfl
@[simp] theorem Device.modCell_seq (d : Device) (n : Nat) (f : Cell → Cell) : (d.modCell n f).seq = d.seq := rfl
@[simp] theorem Device.modCell_router (d : Device) (n : Nat) (f : Cell → Cell) : (d.modCell n f).router = d.router := rfl
@[simp] theorem Device.modCell_therm (d : Device) (n : Nat) (f : Cell → Cell) : (d.modCell n f).therm = d.therm := rfl
@[simp] theorem Device.modCell_hold (d : Device) (n : Nat) (f : Cell → Cell) : (d.modCell n f).hold = d.hold := rfl
@[simp] theorem Device.modCell_strings (d : Device) (n : Nat) (f : Cell → Cell) : (d.modCell n f).strings = d.strings := rfl
@[simp] theorem Device.modCell_ledger (d : Device) (n : Nat) (f : Cell → Cell) : (d.modCell n f).ledger = d.ledger := rfl
@[simp] theorem Device.modCell_mem (d : Device) (n : Nat) (f : Cell → Cell) : (d.modCell n f).mem = d.mem := rfl
@[simp] theorem Device.modCell_enf (d : Device) (n : Nat) (f : Cell → Cell) : (d.modCell n f).enf = d.enf := rfl
@[simp] theorem Device.modCell_faults (d : Device) (n : Nat) (f : Cell → Cell) : (d.modCell n f).faults = d.faults := rfl
@[simp] theorem Device.modCell_faultPulse (d : Device) (n : Nat) (f : Cell → Cell) : (d.modCell n f).faultPulse = d.faultPulse := rfl
@[simp] theorem Device.modCell_net (d : Device) (n : Nat) (f : Cell → Cell) : (d.modCell n f).net = d.net := rfl
@[simp] theorem Device.modCell_dict (d : Device) (n : Nat) (f : Cell → Cell) : (d.modCell n f).dict = d.dict := rfl
@[simp] theorem Device.modCell_mgmt (d : Device) (n : Nat) (f : Cell → Cell) : (d.modCell n f).mgmt = d.mgmt := rfl
@[simp] theorem Device.modCell_recorder (d : Device) (n : Nat) (f : Cell → Cell) : (d.modCell n f).recorder = d.recorder := rfl
@[simp] theorem Device.modCell_pf (d : Device) (n : Nat) (f : Cell → Cell) : (d.modCell n f).pf = d.pf := rfl
@[simp] theorem Device.modCell_eng (d : Device) (n : Nat) (f : Cell → Cell) : (d.modCell n f).eng = d.eng := rfl

@[simp] theorem Device.modFeed_regs (d : Device) (k : Nat) (f : Feed → Feed) : (d.modFeed k f).regs = d.regs := rfl
@[simp] theorem Device.modFeed_outs (d : Device) (k : Nat) (f : Feed → Feed) : (d.modFeed k f).outs = d.outs := rfl
@[simp] theorem Device.modFeed_free (d : Device) (k : Nat) (f : Feed → Feed) : (d.modFeed k f).free = d.free := rfl
@[simp] theorem Device.modFeed_sys (d : Device) (k : Nat) (f : Feed → Feed) : (d.modFeed k f).sys = d.sys := rfl
@[simp] theorem Device.modFeed_aon (d : Device) (k : Nat) (f : Feed → Feed) : (d.modFeed k f).aon = d.aon := rfl
@[simp] theorem Device.modFeed_mram (d : Device) (k : Nat) (f : Feed → Feed) : (d.modFeed k f).mram = d.mram := rfl
@[simp] theorem Device.modFeed_pins (d : Device) (k : Nat) (f : Feed → Feed) : (d.modFeed k f).pins = d.pins := rfl
@[simp] theorem Device.modFeed_tb (d : Device) (k : Nat) (f : Feed → Feed) : (d.modFeed k f).tb = d.tb := rfl
@[simp] theorem Device.modFeed_cells (d : Device) (k : Nat) (f : Feed → Feed) : (d.modFeed k f).cells = d.cells := rfl
@[simp] theorem Device.modFeed_links (d : Device) (k : Nat) (f : Feed → Feed) : (d.modFeed k f).links = d.links := rfl
@[simp] theorem Device.modFeed_gates (d : Device) (k : Nat) (f : Feed → Feed) : (d.modFeed k f).gates = d.gates := rfl
@[simp] theorem Device.modFeed_diodes (d : Device) (k : Nat) (f : Feed → Feed) : (d.modFeed k f).diodes = d.diodes := rfl
@[simp] theorem Device.modFeed_bar (d : Device) (k : Nat) (f : Feed → Feed) : (d.modFeed k f).bar = d.bar := rfl
@[simp] theorem Device.modFeed_ports (d : Device) (k : Nat) (f : Feed → Feed) : (d.modFeed k f).ports = d.ports := rfl
@[simp] theorem Device.modFeed_slots (d : Device) (k : Nat) (f : Feed → Feed) : (d.modFeed k f).slots = d.slots := rfl
@[simp] theorem Device.modFeed_bus (d : Device) (k : Nat) (f : Feed → Feed) : (d.modFeed k f).bus = d.bus := rfl
@[simp] theorem Device.modFeed_seq (d : Device) (k : Nat) (f : Feed → Feed) : (d.modFeed k f).seq = d.seq := rfl
@[simp] theorem Device.modFeed_router (d : Device) (k : Nat) (f : Feed → Feed) : (d.modFeed k f).router = d.router := rfl
@[simp] theorem Device.modFeed_therm (d : Device) (k : Nat) (f : Feed → Feed) : (d.modFeed k f).therm = d.therm := rfl
@[simp] theorem Device.modFeed_hold (d : Device) (k : Nat) (f : Feed → Feed) : (d.modFeed k f).hold = d.hold := rfl
@[simp] theorem Device.modFeed_strings (d : Device) (k : Nat) (f : Feed → Feed) : (d.modFeed k f).strings = d.strings := rfl
@[simp] theorem Device.modFeed_ledger (d : Device) (k : Nat) (f : Feed → Feed) : (d.modFeed k f).ledger = d.ledger := rfl
@[simp] theorem Device.modFeed_mem (d : Device) (k : Nat) (f : Feed → Feed) : (d.modFeed k f).mem = d.mem := rfl
@[simp] theorem Device.modFeed_enf (d : Device) (k : Nat) (f : Feed → Feed) : (d.modFeed k f).enf = d.enf := rfl
@[simp] theorem Device.modFeed_faults (d : Device) (k : Nat) (f : Feed → Feed) : (d.modFeed k f).faults = d.faults := rfl
@[simp] theorem Device.modFeed_faultPulse (d : Device) (k : Nat) (f : Feed → Feed) : (d.modFeed k f).faultPulse = d.faultPulse := rfl
@[simp] theorem Device.modFeed_net (d : Device) (k : Nat) (f : Feed → Feed) : (d.modFeed k f).net = d.net := rfl
@[simp] theorem Device.modFeed_dict (d : Device) (k : Nat) (f : Feed → Feed) : (d.modFeed k f).dict = d.dict := rfl
@[simp] theorem Device.modFeed_mgmt (d : Device) (k : Nat) (f : Feed → Feed) : (d.modFeed k f).mgmt = d.mgmt := rfl
@[simp] theorem Device.modFeed_recorder (d : Device) (k : Nat) (f : Feed → Feed) : (d.modFeed k f).recorder = d.recorder := rfl
@[simp] theorem Device.modFeed_pf (d : Device) (k : Nat) (f : Feed → Feed) : (d.modFeed k f).pf = d.pf := rfl
@[simp] theorem Device.modFeed_eng (d : Device) (k : Nat) (f : Feed → Feed) : (d.modFeed k f).eng = d.eng := rfl

@[simp] theorem Device.modTb_regs (d : Device) (f : Timebase → Timebase) : (d.modTb f).regs = d.regs := rfl
@[simp] theorem Device.modTb_outs (d : Device) (f : Timebase → Timebase) : (d.modTb f).outs = d.outs := rfl
@[simp] theorem Device.modTb_free (d : Device) (f : Timebase → Timebase) : (d.modTb f).free = d.free := rfl
@[simp] theorem Device.modTb_sys (d : Device) (f : Timebase → Timebase) : (d.modTb f).sys = d.sys := rfl
@[simp] theorem Device.modTb_aon (d : Device) (f : Timebase → Timebase) : (d.modTb f).aon = d.aon := rfl
@[simp] theorem Device.modTb_mram (d : Device) (f : Timebase → Timebase) : (d.modTb f).mram = d.mram := rfl
@[simp] theorem Device.modTb_pins (d : Device) (f : Timebase → Timebase) : (d.modTb f).pins = d.pins := rfl
@[simp] theorem Device.modTb_cells (d : Device) (f : Timebase → Timebase) : (d.modTb f).cells = d.cells := rfl
@[simp] theorem Device.modTb_feeds (d : Device) (f : Timebase → Timebase) : (d.modTb f).feeds = d.feeds := rfl
@[simp] theorem Device.modTb_links (d : Device) (f : Timebase → Timebase) : (d.modTb f).links = d.links := rfl
@[simp] theorem Device.modTb_gates (d : Device) (f : Timebase → Timebase) : (d.modTb f).gates = d.gates := rfl
@[simp] theorem Device.modTb_diodes (d : Device) (f : Timebase → Timebase) : (d.modTb f).diodes = d.diodes := rfl
@[simp] theorem Device.modTb_bar (d : Device) (f : Timebase → Timebase) : (d.modTb f).bar = d.bar := rfl
@[simp] theorem Device.modTb_ports (d : Device) (f : Timebase → Timebase) : (d.modTb f).ports = d.ports := rfl
@[simp] theorem Device.modTb_slots (d : Device) (f : Timebase → Timebase) : (d.modTb f).slots = d.slots := rfl
@[simp] theorem Device.modTb_bus (d : Device) (f : Timebase → Timebase) : (d.modTb f).bus = d.bus := rfl
@[simp] theorem Device.modTb_seq (d : Device) (f : Timebase → Timebase) : (d.modTb f).seq = d.seq := rfl
@[simp] theorem Device.modTb_router (d : Device) (f : Timebase → Timebase) : (d.modTb f).router = d.router := rfl
@[simp] theorem Device.modTb_therm (d : Device) (f : Timebase → Timebase) : (d.modTb f).therm = d.therm := rfl
@[simp] theorem Device.modTb_hold (d : Device) (f : Timebase → Timebase) : (d.modTb f).hold = d.hold := rfl
@[simp] theorem Device.modTb_strings (d : Device) (f : Timebase → Timebase) : (d.modTb f).strings = d.strings := rfl
@[simp] theorem Device.modTb_ledger (d : Device) (f : Timebase → Timebase) : (d.modTb f).ledger = d.ledger := rfl
@[simp] theorem Device.modTb_mem (d : Device) (f : Timebase → Timebase) : (d.modTb f).mem = d.mem := rfl
@[simp] theorem Device.modTb_enf (d : Device) (f : Timebase → Timebase) : (d.modTb f).enf = d.enf := rfl
@[simp] theorem Device.modTb_faults (d : Device) (f : Timebase → Timebase) : (d.modTb f).faults = d.faults := rfl
@[simp] theorem Device.modTb_faultPulse (d : Device) (f : Timebase → Timebase) : (d.modTb f).faultPulse = d.faultPulse := rfl
@[simp] theorem Device.modTb_net (d : Device) (f : Timebase → Timebase) : (d.modTb f).net = d.net := rfl
@[simp] theorem Device.modTb_dict (d : Device) (f : Timebase → Timebase) : (d.modTb f).dict = d.dict := rfl
@[simp] theorem Device.modTb_mgmt (d : Device) (f : Timebase → Timebase) : (d.modTb f).mgmt = d.mgmt := rfl
@[simp] theorem Device.modTb_recorder (d : Device) (f : Timebase → Timebase) : (d.modTb f).recorder = d.recorder := rfl
@[simp] theorem Device.modTb_pf (d : Device) (f : Timebase → Timebase) : (d.modTb f).pf = d.pf := rfl
@[simp] theorem Device.modTb_eng (d : Device) (f : Timebase → Timebase) : (d.modTb f).eng = d.eng := rfl

@[simp] theorem Device.modPins_regs (d : Device) (f : Pins → Pins) : (d.modPins f).regs = d.regs := rfl
@[simp] theorem Device.modPins_outs (d : Device) (f : Pins → Pins) : (d.modPins f).outs = d.outs := rfl
@[simp] theorem Device.modPins_free (d : Device) (f : Pins → Pins) : (d.modPins f).free = d.free := rfl
@[simp] theorem Device.modPins_sys (d : Device) (f : Pins → Pins) : (d.modPins f).sys = d.sys := rfl
@[simp] theorem Device.modPins_aon (d : Device) (f : Pins → Pins) : (d.modPins f).aon = d.aon := rfl
@[simp] theorem Device.modPins_mram (d : Device) (f : Pins → Pins) : (d.modPins f).mram = d.mram := rfl
@[simp] theorem Device.modPins_tb (d : Device) (f : Pins → Pins) : (d.modPins f).tb = d.tb := rfl
@[simp] theorem Device.modPins_cells (d : Device) (f : Pins → Pins) : (d.modPins f).cells = d.cells := rfl
@[simp] theorem Device.modPins_feeds (d : Device) (f : Pins → Pins) : (d.modPins f).feeds = d.feeds := rfl
@[simp] theorem Device.modPins_links (d : Device) (f : Pins → Pins) : (d.modPins f).links = d.links := rfl
@[simp] theorem Device.modPins_gates (d : Device) (f : Pins → Pins) : (d.modPins f).gates = d.gates := rfl
@[simp] theorem Device.modPins_diodes (d : Device) (f : Pins → Pins) : (d.modPins f).diodes = d.diodes := rfl
@[simp] theorem Device.modPins_bar (d : Device) (f : Pins → Pins) : (d.modPins f).bar = d.bar := rfl
@[simp] theorem Device.modPins_ports (d : Device) (f : Pins → Pins) : (d.modPins f).ports = d.ports := rfl
@[simp] theorem Device.modPins_slots (d : Device) (f : Pins → Pins) : (d.modPins f).slots = d.slots := rfl
@[simp] theorem Device.modPins_bus (d : Device) (f : Pins → Pins) : (d.modPins f).bus = d.bus := rfl
@[simp] theorem Device.modPins_seq (d : Device) (f : Pins → Pins) : (d.modPins f).seq = d.seq := rfl
@[simp] theorem Device.modPins_router (d : Device) (f : Pins → Pins) : (d.modPins f).router = d.router := rfl
@[simp] theorem Device.modPins_therm (d : Device) (f : Pins → Pins) : (d.modPins f).therm = d.therm := rfl
@[simp] theorem Device.modPins_hold (d : Device) (f : Pins → Pins) : (d.modPins f).hold = d.hold := rfl
@[simp] theorem Device.modPins_strings (d : Device) (f : Pins → Pins) : (d.modPins f).strings = d.strings := rfl
@[simp] theorem Device.modPins_ledger (d : Device) (f : Pins → Pins) : (d.modPins f).ledger = d.ledger := rfl
@[simp] theorem Device.modPins_mem (d : Device) (f : Pins → Pins) : (d.modPins f).mem = d.mem := rfl
@[simp] theorem Device.modPins_enf (d : Device) (f : Pins → Pins) : (d.modPins f).enf = d.enf := rfl
@[simp] theorem Device.modPins_faults (d : Device) (f : Pins → Pins) : (d.modPins f).faults = d.faults := rfl
@[simp] theorem Device.modPins_faultPulse (d : Device) (f : Pins → Pins) : (d.modPins f).faultPulse = d.faultPulse := rfl
@[simp] theorem Device.modPins_net (d : Device) (f : Pins → Pins) : (d.modPins f).net = d.net := rfl
@[simp] theorem Device.modPins_dict (d : Device) (f : Pins → Pins) : (d.modPins f).dict = d.dict := rfl
@[simp] theorem Device.modPins_mgmt (d : Device) (f : Pins → Pins) : (d.modPins f).mgmt = d.mgmt := rfl
@[simp] theorem Device.modPins_recorder (d : Device) (f : Pins → Pins) : (d.modPins f).recorder = d.recorder := rfl
@[simp] theorem Device.modPins_pf (d : Device) (f : Pins → Pins) : (d.modPins f).pf = d.pf := rfl
@[simp] theorem Device.modPins_eng (d : Device) (f : Pins → Pins) : (d.modPins f).eng = d.eng := rfl

theorem Device.set_regs (d : Device) (o : Obj) (v : Int) : (d.set o v).regs = RegFile.put o.key v o.dflt d.regs := rfl
theorem Device.setFlag_regs (d : Device) (o : Obj) (b : Bool) : (d.setFlag o b).regs = RegFile.put o.key (b2i b) o.dflt d.regs := rfl
@[simp] theorem Device.emit_outs (d : Device) (o : Out) : (d.emit o).outs = o :: d.outs := rfl
@[simp] theorem Device.used_free (d : Device) : d.used.free = d.free + 1 := rfl
@[simp] theorem Device.modCell_cells (d : Device) (n : Nat) (f : Cell → Cell) : (d.modCell n f).cells = modAt d.cells n f := rfl
@[simp] theorem Device.modFeed_feeds (d : Device) (k : Nat) (f : Feed → Feed) : (d.modFeed k f).feeds = modAt d.feeds k f := rfl
@[simp] theorem Device.modTb_tb (d : Device) (f : Timebase → Timebase) : (d.modTb f).tb = f d.tb := rfl
@[simp] theorem Device.modPins_pins (d : Device) (f : Pins → Pins) : (d.modPins f).pins = f d.pins := rfl

end Sys2Proof.Machine
end

