-- ==== Sys2Proof/Laws/Effect.lean ====
section
/-! SUPPORT. Laws of the end of a command: when it acts, what follows it, and what that may change. -/

namespace Sys2Proof.Machine

theorem Device.when_pos {d : Device} {b : Bool} {f : Device → Device} (h : b = true) : d.when b f = f d := by
  simp [Device.when, h]

theorem Device.when_neg {d : Device} {b : Bool} {f : Device → Device} (h : b = false) : d.when b f = d := by
  simp [Device.when, h]

/-- An object that has been set reads so. -/
@[simp] theorem Device.get_set_same (d : Device) (o : Obj) (v : Int) : (d.set o v).get o = v :=
  RegFile.find_put_same _ _ _ _

/-- Setting one object leaves every other one. -/
theorem Device.get_set_other {o p : Obj} (h : o.key ≠ p.key) (d : Device) (v : Int) : (d.set p v).get o = d.get o :=
  RegFile.find_put_other _ _ _ _ _ _ h

/-- A flag that has been set reads so. -/
@[simp] theorem Device.flag_setFlag_same (d : Device) (o : Obj) (b : Bool) : (d.setFlag o b).flag o = b := by
  unfold Device.flag Device.setFlag
  rw [Device.get_set_same]
  cases b <;> rfl

/-- Changing the pins changes no object. -/
@[simp] theorem Device.get_modPins (d : Device) (f : Pins → Pins) (o : Obj) : (d.modPins f).get o = d.get o := rfl

/-- A counter changes its own object, and draws at most one free value. -/
theorem Device.bump_spec (d : Device) (o : Obj) : ∃ (v : Int) (n : Nat), d.bump o = { d.set o v with free := n } := by
  unfold Device.bump
  split
  · exact ⟨_, _, rfl⟩
  · exact ⟨_, _, rfl⟩

/-- See `Device.bump_spec`. -/
theorem Device.bumpBy_spec (d : Device) (o : Obj) (i : Int) :
    ∃ (v : Int) (n : Nat), d.bumpBy o i = { d.set o v with free := n } := by
  unfold Device.bumpBy
  split
  · exact ⟨_, _, rfl⟩
  · exact ⟨_, _, rfl⟩

/-- The lines that follow change the three pins and the two objects that show them. -/
theorem Device.linesFollow_rest (d : Device) :
    d.linesFollow = { d with regs := d.linesFollow.regs, pins := d.linesFollow.pins } := rfl

@[simp] theorem Device.linesFollow_butLines (d : Device) : d.linesFollow.pins.butLines = d.pins.butLines := rfl

/-- Every other object keeps its value. -/
theorem Device.linesFollow_get (d : Device) (o : Obj) (h : o.key ∉ lineKeys) : d.linesFollow.get o = d.get o := by
  have h1 : o.key ≠ O.faultNLevel.key := fun e => h (by simp [lineKeys, e])
  have h2 : o.key ≠ O.seqFltDriving.key := fun e => h (by simp [lineKeys, e])
  simp only [Device.linesFollow, Device.updateAlert, Device.updateFaultN, Device.updateSeqFlt, Device.setFlag,
    Device.get_modPins, Device.get_set_other h1, Device.get_set_other h2]

/-- An accepted write of class L or Q is carried out. -/
theorem Device.hostWrite_accepted {d : Device} {path k : Nat} {o : Obj} {bs : List Byte} {stored : Bool}
    (hl : locate o.index o.sub = .obj o k) (h : d.accepts path o k bs) (ha : o.apply ≠ .A) :
    d.hostWrite path o.index o.sub bs stored = d.writeNow path o k bs stored := by
  obtain ⟨hm, hs, hb, hw⟩ := h
  have hd : (d.sys.brownOut && mramWrite o k (o.kept (o.ty.decode bs))) = false := by
    rcases hw with hw | hw <;> simp [hw]
  rw [Device.hostWrite, Device.when_pos hm, Device.writeObject, hl]
  by_cases hc : o.access = .rws ∧ o.apply = .L
  · simp only [hc, and_self, if_true, hs hc, hb, Device.writeOrDefer, hd]; simp
  · simp only [hc, if_false, hb, ne_eq, not_true_eq_false, ha, Device.writeOrDefer, hd]; simp

end Sys2Proof.Machine
end

