-- ==== Sys2Proof/Laws/Events.lean ====
section
/-! SUPPORT. What reporting an event may change. -/

namespace Sys2Proof.Machine

theorem Device.onlyReports_refl (d : Device) : d.onlyReports d := rfl

theorem Device.onlyReports_trans {a b c : Device} (h : a.onlyReports b) (g : b.onlyReports c) : a.onlyReports c :=
  Eq.trans g h

theorem Device.onlyReports_when {a b : Device} {f : Device → Device} (h : a.onlyReports b) (g : ∀ d : Device, d.onlyReports (f d))
    (c : Bool) : a.onlyReports (b.when c f) := by
  unfold Device.when
  split
  · exact Device.onlyReports_trans h (g b)
  · exact h

theorem Device.onlyReports_forAll {a : Device} (l : List Nat) {f : Nat → Device → Device} (g : ∀ (n : Nat) (d : Device), d.onlyReports (f n d)) :
    ∀ b : Device, a.onlyReports b → a.onlyReports (b.forAll l f) := by
  unfold Device.forAll
  induction l with
  | nil => exact fun b h => h
  | cons n l ih => exact fun b h => ih _ (Device.onlyReports_trans h (g n b))

theorem Device.bump_reports (d : Device) (o : Obj) : d.onlyReports (d.bump o) := by
  unfold Device.bump
  split <;> rfl

theorem Device.sendNew_reports (d : Device) (s kind : Nat) (body : List Byte) : d.onlyReports (d.sendNew s kind body) := by
  unfold Device.sendNew Device.sendIop
  refine Device.onlyReports_forAll _ (fun p e => ?_) _ rfl
  split
  · refine Device.onlyReports_when rfl (fun e => ?_) _
    exact Device.onlyReports_trans (b := e.emit _) rfl (Device.bump_reports _ _)
  · rfl

theorem Device.notifyOne_reports (d : Device) (s : Nat) (body : List Byte) : d.onlyReports (d.notifyOne s body) := by
  unfold Device.notifyOne
  dsimp only
  split
  · exact Device.onlyReports_trans (Device.sendNew_reports d s 0x20 body) rfl
  · split
    · rfl
    · exact Device.onlyReports_trans (b := d.modSession s _) rfl (Device.bump_reports _ _)

theorem Device.notify_reports (d : Device) (kind : Nat) (body : List Byte) : d.onlyReports (d.notify kind body) := by
  unfold Device.notify
  split
  · refine Device.onlyReports_forAll _ (fun s e => ?_) _ rfl
    split
    · exact Device.notifyOne_reports _ _ _
    · rfl
  · rfl

theorem Device.offer_reports (d : Device) (ev : Event) : d.onlyReports (d.offer ev) := by
  unfold Device.offer
  split
  · split <;> rfl
  · rfl

theorem Device.interrupt_reports (d : Device) (block sub cls code stamp : Nat) (params : List Byte) :
    d.onlyReports (d.interrupt block sub cls code stamp params) :=
  Device.onlyReports_trans (b := (d.emit (.irq block sub)).alert cls) rfl (Device.notify_reports _ _ _)

theorem Device.pulseFaultN_reports (d : Device) : d.onlyReports d.pulseFaultN := rfl

theorem Device.updateFaultN_reports (d : Device) : d.onlyReports d.updateFaultN := rfl

/-- Taking an event changes nothing but what reports it. -/
theorem Device.takeEvent_reports (d : Device) (block source code cls : Nat) (params : List Byte) (two : Bool) :
    d.onlyReports (d.takeEvent block source code cls params two).1 := by
  have h1 : d.onlyReports ((d.modFault block fun _ => ((d.fault block).take cls source code d.now params).1).offer
      ⟨code, source, block, cls, d.now, params, two⟩) :=
    Device.onlyReports_trans (b := d.modFault block _) rfl (Device.offer_reports _ _)
  unfold Device.takeEvent
  dsimp only
  refine Device.onlyReports_trans ?_ (Device.updateFaultN_reports _)
  generalize (d.modFault block fun _ => ((d.fault block).take cls source code d.now params).1).offer
    ⟨code, source, block, cls, d.now, params, two⟩ = e at h1 ⊢
  have h2 := fun t : Nat => Device.onlyReports_trans h1 (Device.interrupt_reports e block (faultSub cls) cls code t params)
  split <;> split
  · exact Device.onlyReports_trans (h2 _) (Device.pulseFaultN_reports _)
  · exact h2 _
  · exact Device.onlyReports_trans h1 (Device.pulseFaultN_reports _)
  · exact h1

theorem Device.raiseD_reports (d : Device) (block source code : Nat) (params : List Byte) :
    d.onlyReports (d.raiseD block source code params) := Device.takeEvent_reports _ _ _ _ _ _ _

theorem Device.raiseC_reports (d : Device) (block source code : Nat) (params : List Byte) :
    d.onlyReports (d.raiseC block source code params) := Device.takeEvent_reports _ _ _ _ _ _ _

end Sys2Proof.Machine
end

