-- ==== Sys2Proof/Laws/Lookup.lean ====
section
/-! SUPPORT. Where the objects lie that the write commands name: the address of each leads back to it. -/

set_option Elab.async false

namespace Sys2Proof.Machine

theorem locate_slotWord : ∀ k : Fin 64, 8 ≤ k.val → locate (O.slotWord k).index (O.slotWord k).sub = .obj (O.slotWord k) k := by decide +kernel
theorem locate_lineTrackEnable : locate O.lineTrackEnable.index O.lineTrackEnable.sub = .obj O.lineTrackEnable 0 := by decide +kernel
theorem locate_templateReset : locate O.templateReset.index O.templateReset.sub = .obj O.templateReset 0 := by decide +kernel
theorem locate_holdupEnable : locate O.holdupEnable.index O.holdupEnable.sub = .obj O.holdupEnable 0 := by decide +kernel
theorem locate_rectEnable : locate O.rectEnable.index O.rectEnable.sub = .obj O.rectEnable 0 := by decide +kernel
theorem locate_slotEnable : ∀ k : Fin 32, locate (O.slotEnable k).index (O.slotEnable k).sub = .obj (O.slotEnable k) k := by decide +kernel
theorem locate_groupEnableB : locate O.groupEnableB.index O.groupEnableB.sub = .obj O.groupEnableB 0 := by decide +kernel
theorem locate_groupEnableA : locate O.groupEnableA.index O.groupEnableA.sub = .obj O.groupEnableA 0 := by decide +kernel
theorem locate_rectAck : ∀ k : Fin 32, locate (O.rectAck k).index (O.rectAck k).sub = .obj (O.rectAck k) k := by decide +kernel
theorem locate_readmit : ∀ k : Fin 96, locate (O.readmit k).index (O.readmit k).sub = .obj (O.readmit k) k := by decide +kernel
theorem locate_phaseMap : ∀ k : Fin 16, locate (O.phaseMap k).index (O.phaseMap k).sub = .obj (O.phaseMap k) k := by decide +kernel
theorem locate_feedEnable : ∀ k : Fin 16, locate (O.feedEnable k).index (O.feedEnable k).sub = .obj (O.feedEnable k) k := by decide +kernel
theorem locate_targetVoltage : ∀ k : Fin 16, locate (O.targetVoltage k).index (O.targetVoltage k).sub = .obj (O.targetVoltage k) k := by decide +kernel
theorem locate_linkEnable : ∀ k : Fin 16, locate (O.linkEnable k).index (O.linkEnable k).sub = .obj (O.linkEnable k) k := by decide +kernel
theorem locate_tgAck : ∀ k : Fin 16, locate (O.tgAck k).index (O.tgAck k).sub = .obj (O.tgAck k) k := by decide +kernel
theorem locate_tgEnable : ∀ k : Fin 16, locate (O.tgEnable k).index (O.tgEnable k).sub = .obj (O.tgEnable k) k := by decide +kernel
theorem locate_gateRequest : ∀ k : Fin 6, locate (O.gateRequest k).index (O.gateRequest k).sub = .obj (O.gateRequest k) k := by decide +kernel
theorem locate_gateAck : ∀ k : Fin 6, locate (O.gateAck k).index (O.gateAck k).sub = .obj (O.gateAck k) k := by decide +kernel
theorem locate_stringAck : ∀ k : Fin 4, locate (O.stringAck k).index (O.stringAck k).sub = .obj (O.stringAck k) k := by decide +kernel
theorem locate_stringEnable : ∀ k : Fin 4, locate (O.stringEnable k).index (O.stringEnable k).sub = .obj (O.stringEnable k) k := by decide +kernel
theorem locate_chargeEnable : locate O.chargeEnable.index O.chargeEnable.sub = .obj O.chargeEnable 0 := by decide +kernel
theorem locate_forgetLearned : ∀ k : Fin 4, locate (O.forgetLearned k).index (O.forgetLearned k).sub = .obj (O.forgetLearned k) k := by decide +kernel
theorem locate_transferOffer : locate O.transferOffer.index O.transferOffer.sub = .obj O.transferOffer 0 := by decide +kernel
theorem locate_transferWithdraw : locate O.transferWithdraw.index O.transferWithdraw.sub = .obj O.transferWithdraw 0 := by decide +kernel
theorem locate_escrowResolve : locate O.escrowResolve.index O.escrowResolve.sub = .obj O.escrowResolve 0 := by decide +kernel
theorem locate_ledgerAdjust : locate O.ledgerAdjust.index O.ledgerAdjust.sub = .obj O.ledgerAdjust 0 := by decide +kernel
theorem locate_ledgerAck : locate O.ledgerAck.index O.ledgerAck.sub = .obj O.ledgerAck 0 := by decide +kernel
theorem locate_seqEnable : locate O.seqEnable.index O.seqEnable.sub = .obj O.seqEnable 0 := by decide +kernel
theorem locate_seqAck : locate O.seqAck.index O.seqAck.sub = .obj O.seqAck 0 := by decide +kernel
theorem locate_clear : ∀ k : Fin 64, locate (O.clear k).index (O.clear k).sub = .obj (O.clear k) k := by decide +kernel
theorem locate_latchClearMask : locate O.latchClearMask.index O.latchClearMask.sub = .obj O.latchClearMask 0 := by decide +kernel
theorem locate_edgeClear : ∀ k : Fin 8, locate (O.edgeClear k).index (O.edgeClear k).sub = .obj (O.edgeClear k) k := by decide +kernel
theorem locate_routeHold : ∀ k : Fin 64, locate (O.routeHold k).index (O.routeHold k).sub = .obj (O.routeHold k) k := by decide +kernel
theorem locate_routerEnable : locate O.routerEnable.index O.routerEnable.sub = .obj O.routerEnable 0 := by decide +kernel
theorem locate_faultAck : ∀ k : Fin 96, locate (O.faultAck k).index (O.faultAck k).sub = .obj (O.faultAck k) k := by decide +kernel
theorem locate_segmentMeasure : ∀ k : Fin 2, locate (O.segmentMeasure k).index (O.segmentMeasure k).sub = .obj (O.segmentMeasure k) k := by decide +kernel
theorem locate_wallClockSync : locate O.wallClockSync.index O.wallClockSync.sub = .obj O.wallClockSync 0 := by decide +kernel
theorem locate_key : ∀ k : Fin 8, locate (O.key k).index (O.key k).sub = .obj (O.key k) k := by decide +kernel
theorem locate_keyClear : ∀ k : Fin 8, locate (O.keyClear k).index (O.keyClear k).sub = .obj (O.keyClear k) k := by decide +kernel
theorem locate_rights : ∀ k : Fin 8, locate (O.rights k).index (O.rights k).sub = .obj (O.rights k) k := by decide +kernel
theorem locate_commit : locate O.commit.index O.commit.sub = .obj O.commit 0 := by decide +kernel
theorem locate_fence : locate O.fence.index O.fence.sub = .obj O.fence 0 := by decide +kernel
theorem locate_snapshotFence : locate O.snapshotFence.index O.snapshotFence.sub = .obj O.snapshotFence 0 := by decide +kernel
theorem locate_factoryRestore : locate O.factoryRestore.index O.factoryRestore.sub = .obj O.factoryRestore 0 := by decide +kernel
theorem locate_pushSegment : ∀ k : Fin 128, locate (O.pushSegment k).index (O.pushSegment k).sub = .obj (O.pushSegment k) k := by decide +kernel
theorem locate_claim : ∀ k : Fin 128, locate (O.claim k).index (O.claim k).sub = .obj (O.claim k) k := by decide +kernel
theorem locate_release : ∀ k : Fin 128, locate (O.release k).index (O.release k).sub = .obj (O.release k) k := by decide +kernel
theorem locate_laneEnable : ∀ k : Fin 128, locate (O.laneEnable k).index (O.laneEnable k).sub = .obj (O.laneEnable k) k := by decide +kernel
theorem locate_freeze : locate O.freeze.index O.freeze.sub = .obj O.freeze 0 := by decide +kernel
theorem locate_clearKey : locate O.clearKey.index O.clearKey.sub = .obj O.clearKey 0 := by decide +kernel
theorem locate_clearRequest : locate O.clearRequest.index O.clearRequest.sub = .obj O.clearRequest 0 := by decide +kernel
theorem locate_clearResponse : locate O.clearResponse.index O.clearResponse.sub = .obj O.clearResponse 0 := by decide +kernel
theorem locate_pfTrigger : locate O.pfTrigger.index O.pfTrigger.sub = .obj O.pfTrigger 0 := by decide +kernel
theorem locate_pfEnable : locate O.pfEnable.index O.pfEnable.sub = .obj O.pfEnable 0 := by decide +kernel
theorem locate_pfRelease : locate O.pfRelease.index O.pfRelease.sub = .obj O.pfRelease 0 := by decide +kernel
theorem locate_standbyRequest : locate O.standbyRequest.index O.standbyRequest.sub = .obj O.standbyRequest 0 := by decide +kernel
theorem locate_packageWrite : locate O.packageWrite.index O.packageWrite.sub = .obj O.packageWrite 0 := by decide +kernel
theorem locate_packageVerify : locate O.packageVerify.index O.packageVerify.sub = .obj O.packageVerify 0 := by decide +kernel
theorem locate_packageInstall : locate O.packageInstall.index O.packageInstall.sub = .obj O.packageInstall 0 := by decide +kernel
theorem locate_packageDiscard : locate O.packageDiscard.index O.packageDiscard.sub = .obj O.packageDiscard 0 := by decide +kernel
theorem locate_engineUpdate : ∀ k : Fin 16, locate (O.engineUpdate k).index (O.engineUpdate k).sub = .obj (O.engineUpdate k) k := by decide +kernel
theorem locate_engineRetire : ∀ k : Fin 16, locate (O.engineRetire k).index (O.engineRetire k).sub = .obj (O.engineRetire k) k := by decide +kernel
theorem locate_pairMove : locate O.pairMove.index O.pairMove.sub = .obj O.pairMove 0 := by decide +kernel
theorem locate_swapLap : locate O.swapLap.index O.swapLap.sub = .obj O.swapLap 0 := by decide +kernel
theorem locate_systemSlot : ∀ k : Fin 64, k.val < 8 → locate (O.systemSlot k).index (O.systemSlot k).sub = .obj (O.systemSlot k) k := by decide +kernel

end Sys2Proof.Machine
end

