-- ==== Sys2Proof/Laws/Word.lean ====
section
/-! SUPPORT. Laws of the byte strings and of the bit fields. -/

namespace Sys2Proof

theorem leBytes_length (n : Nat) (v : Int) : (leBytes n v).length = n := by
  induction n generalizing v with
  | zero => rfl
  | succ n ih => simp [leBytes, ih]

/-- The bytes of a value spell the value (00 R2). -/
theorem ofLe_leBytes (n v : Nat) (h : v < 256 ^ n) : ofLe (leBytes n v) = v := by
  induction n generalizing v with
  | zero => simp at h; simp [leBytes, ofLe, h]
  | succ n ih =>
    have hd : ((v : Int) / 256) = ((v / 256 : Nat) : Int) := by simp
    have hq : v / 256 < 256 ^ n := by rw [pow_succ] at h; omega
    have hb : (BitVec.ofInt 8 (v : Int)).toNat = v % 256 := by
      rw [BitVec.ofInt_natCast, BitVec.toNat_ofNat]
    simp only [leBytes, ofLe, hd, ih _ hq, hb]
    omega

theorem modAt_length {α : Type} (l : List α) (i : Nat) (f : α → α) : (modAt l i f).length = l.length := by
  induction l generalizing i with
  | nil => rfl
  | cons a l ih => cases i <;> simp [modAt, ih]

theorem modAt_getElem?_other {α : Type} (l : List α) (i j : Nat) (f : α → α) (h : j ≠ i) : (modAt l i f)[j]? = l[j]? := by
  induction l generalizing i j with
  | nil => rfl
  | cons a l ih => cases i <;> cases j <;> simp_all [modAt]

theorem modAt_getD_other {α : Type} (l : List α) (i j : Nat) (f : α → α) (x : α) (h : i ≠ j) :
    (modAt l i f).getD j x = l.getD j x := by
  induction l generalizing i j with
  | nil => rfl
  | cons a l ih =>
    cases i <;> cases j
    · exact absurd rfl h
    · rfl
    · rfl
    · simpa [modAt] using ih _ _ (by omega)

theorem modAt_getD_same {α : Type} (l : List α) (i : Nat) (f : α → α) (x : α) (h : i < l.length) :
    (modAt l i f).getD i x = f (l.getD i x) := by
  induction l generalizing i with
  | nil => simp at h
  | cons a l ih =>
    cases i
    · rfl
    · simpa [modAt] using ih _ (by simpa using h)

end Sys2Proof
end

