-- ==== Sys2Proof/WellFormed.lean ====
section
/-! DEFINITION. Well-formed commands: the operands stand for something that can arrive. Values that a host writes are
not judged here: whatever they are, the write has an answer (16 R411). -/

namespace Sys2Proof

/-- Every name is one of the 96 cells, none twice. -/
def cellsOk (l : List Nat) : Bool := l.all (fun n => decide (n < 96)) && decide l.Nodup

/-- What the board does at a start: one check of SDA for each of the four PMBus ports; learned-record slots and engines
that exist (07 R184, 09 R257, 01 R10). -/
def PowerUp.wf (m : PowerUp) : Bool :=
  decide (m.sda.length = 4) && m.badLearned.all (fun n => decide (n < 8)) && m.badLedger.all (fun n => decide (n < 2)) && m.badEngines.all fun e => decide (e < 16)

/-- Means for the three line currents, four strings, sixteen tray gates and six ideal-diode gates (02 R27). -/
def LapData.wf (m : LapData) : Bool :=
  decide (m.rms.length = 3) && decide (m.therm.length = 4) && decide (m.trays.length = 16) && decide (m.drops.length = 6)

/-- Means for every part of a split (02 R51). -/
def SplitData.wf (m : SplitData) : Bool :=
  decide (m.rmsV.length = 3) && decide (m.rmsI.length = 3) && decide (m.bus.length = 6) && decide (m.feeds.length = 16) &&
    decide (m.strings.length = 4)

/-- A transaction returns at most 255 bytes (07 R188). -/
def Reply.wf : Reply → Bool
  | .ok data => decide (data.length ≤ 255)
  | .nack _ => true
  | .pec => true

/-- A command is well formed. -/
def Instr.wellFormed : Instr → Bool
  | .powerOn m => m.wf
  | .vddReset => true
  | .brownoutWarning => true
  | .brownoutClear => true
  | .aonLoss => true
  | .supplyOutOfRange _ => true
  | .crystalFailure => true
  | .gdLockstepMismatch => true
  | .aonRecalibration => true
  | .lapBoundary m => m.wf
  | .lineSample _ _ _ _ _ => true
  | .lineLoss => true
  | .linePresent => true
  | .holdoverExpired => true
  | .lockAchieved => true
  | .lockLost => true
  | .rotationChange => true
  | .devStart => true
  | .devEnd => true
  | .lineTrackEnable _ => true
  | .lineTrackDisable _ => true
  | .templateReset _ => true
  | .schedulerSlotWrite _ _ _ => true
  | .slotFire _ m => m.split.wf
  | .pmbusTransactionDone _ _ r => r.wf
  | .pmbusClockTimeout _ _ => true
  | .pmbusStuckRetry _ _ => true
  | .rectProbe _ => true
  | .rectAddTimeout _ => true
  | .rectShedRampEnd _ => true
  | .rectRetryDelayEnd _ => true
  | .rectEnable _ => true
  | .rectDisable _ => true
  | .slotEnable _ _ => true
  | .slotDisable _ _ => true
  | .groupEnable _ _ => true
  | .groupDisable _ _ => true
  | .rectAck _ _ => true
  | .triggerFire _ _ l => cellsOk l
  | .pulseEnd _ _ _ _ => true
  | .currentLimitTrip _ _ => true
  | .hiccupEntry _ => true
  | .hiccupRestart _ => true
  | .recoveryComplete _ => true
  | .deEntry _ => true
  | .deExit _ => true
  | .zeroCurrentDetect _ _ => true
  | .floorPulse _ _ l => cellsOk l
  | .prestartTestPass _ => true
  | .prestartTestFail _ _ => true
  | .openPhase _ => true
  | .imonRangeFault _ => true
  | .sumCheckJudgement _ => true
  | .capacityLimit _ _ => true
  | .readmit _ _ => true
  | .phaseMapWrite _ _ _ => true
  | .loopSample _ _ _ _ _ _ => true
  | .reached _ => true
  | .shedStart _ => true
  | .drainComplete _ => true
  | .phaseAdd _ => true
  | .stepEsWindowClose _ => true
  | .feedEnable _ _ => true
  | .feedDisable _ _ => true
  | .stopComplete _ => true
  | .targetVoltageWrite _ _ _ => true
  | .startTimeout _ => true
  | .outputOv _ => true
  | .outputUv _ => true
  | .senseOpen _ => true
  | .busOutOfRange _ => true
  | .busRestart _ => true
  | .transferCommit _ => true
  | .engineFailure _ => true
  | .zflSetVoltage _ _ _ => true
  | .zflHint _ _ _ => true
  | .zflQuery _ _ _ => true
  | .zflIdle _ _ _ => true
  | .zflTrayAck _ _ _ => true
  | .zflCorruptFrame _ => true
  | .zflAlert _ => true
  | .zflBeat _ => true
  | .zflTurnMissed _ => true
  | .zflNoticeTimeout _ => true
  | .zflTrainingStart _ => true
  | .zflTrainingComplete _ _ => true
  | .zflTrainingRetry _ => true
  | .zflLinkEnableWrite _ _ _ => true
  | .presenceQualified _ => true
  | .presenceLoss _ => true
  | .insertDelayMet _ => true
  | .inrushStart _ => true
  | .inrushDone _ l => !l.isEmpty
  | .inrushTimeout m => !m.samples.isEmpty
  | .tgShort _ => true
  | .foldbackEntry _ => true
  | .foldbackTimeout _ => true
  | .tgOpenNoTrip _ _ => true
  | .cooldownEnd _ => true
  | .tgRetryReset _ => true
  | .tgAck _ _ => true
  | .tgEnable _ _ => true
  | .tgDisable _ _ => true
  | .gateRequestDiode _ _ _ => true
  | .gateRequestOff _ _ => true
  | .prechargeDone _ => true
  | .prechargeTimeout _ => true
  | .reverseTurnOff _ => true
  | .diodeTurnOn _ => true
  | .dropFault _ => true
  | .bankShorted _ => true
  | .gateAck _ _ => true
  | .busBarMeasure _ _ => true
  | .stringQualified _ => true
  | .identityReadDone _ _ _ => true
  | .identityReread _ => true
  | .stringRemoval _ => true
  | .chargerFire _ _ _ _ => true
  | .chargerWindowTrip _ => true
  | .chargerFault _ => true
  | .chargerSenseFault _ => true
  | .qualifyPass _ => true
  | .qualifyTimeout _ => true
  | .chargeEndEvaluation _ _ _ => true
  | .backupStop _ _ => true
  | .topoffEnd _ => true
  | .recharge _ => true
  | .cutoff _ => true
  | .cutoffRelease _ => true
  | .stringAck _ _ => true
  | .stringEnable _ _ => true
  | .stringDisable _ _ => true
  | .chargeEnable _ _ => true
  | .gaugeSample _ _ => true
  | .shuntOverloadEvent _ => true
  | .kalmanStep _ _ _ _ => true
  | .resistanceStep _ _ _ => true
  | .restAnchor _ _ => true
  | .disagreeSet _ => true
  | .disagreeClear _ => true
  | .forgetLearned _ _ => true
  | .confirmAngleExpiry => true
  | .busDropout => true
  | .returnCommit => true
  | .returnTimeout => true
  | .holdupEnable _ _ => true
  | .creditOffer _ _ _ _ _ => true
  | .creditAccept _ _ _ _ => true
  | .creditRefuse _ _ _ _ _ => true
  | .creditSettle _ _ _ _ => true
  | .creditClose _ _ _ _ => true
  | .creditWithdraw _ _ _ _ _ => true
  | .transferOffer _ _ => true
  | .transferWithdraw _ _ => true
  | .escrowReturn _ _ => true
  | .escrowSettle _ _ => true
  | .escrowRelease _ _ => true
  | .escrowDrop _ _ => true
  | .ledgerAdjust _ _ => true
  | .ledgerAck _ => true
  | .seqPowerUp _ => true
  | .seqPowerDown _ => true
  | .railStart _ => true
  | .pgRise _ => true
  | .railQualified _ => true
  | .pgFall _ => true
  | .pgTimeout _ => true
  | .railStopStep _ => true
  | .dischargeTimeout _ => true
  | .retryDelayEnd _ => true
  | .seqRetryCountReset _ => true
  | .seqAck _ => true
  | .seqFltLow => true
  | .seqFltReleaseMet => true
  | .seqFltStuck => true
  | .rstStretchDone _ => true
  | .windowDecision _ l => decide (l.length = 64)
  | .routerTimerExpiry _ => true
  | .evoPulseEnd _ => true
  | .windowClear _ _ => true
  | .latchClearMaskWrite _ _ => true
  | .edgeClear _ _ _ => true
  | .routeHold _ _ _ => true
  | .routerEnable _ => true
  | .faultAck _ _ => true
  | .faultNPulseEnd => true
  | .thermalSample _ => true
  | .riseRateEvaluation => true
  | .thermalShutdown => true
  | .thermalCoreStop => true
  | .iopOpen _ _ _ _ n _ => decide (n.length = 16)
  | .iopOpenAck _ _ _ _ _ _ c h => decide (c.length = 16) && decide (h.length = 16)
  | .iopConfirm _ _ _ => true
  | .iopRequest _ _ _ _ _ _ _ b => decide (4 ≤ b.length) && decide (b.length ≤ 1476)
  | .opRead _ _ _ => true
  | .opWrite _ _ _ _ => true
  | .opNop _ _ _ => true
  | .opWait _ _ _ => true
  | .waitComplete _ _ _ => true
  | .waitTimeout _ _ _ => true
  | .iopNotifyAck _ _ _ _ _ => true
  | .iopClose _ _ _ _ _ => true
  | .iopBadFrame _ _ => true
  | .foreignFrame _ => true
  | .sessionConfirmTimeout _ => true
  | .sessionIdleClose _ => true
  | .notifyRetry _ _ => true
  | .peerSessionOpen _ => true
  | .beaconLoss _ => true
  | .beaconReceived _ => true
  | .portSilent _ => true
  | .segmentMeasure _ _ => true
  | .segmentMeasureDone _ _ _ => true
  | .wallClockSync _ _ => true
  | .keyWrite _ _ _ => true
  | .keyClear _ _ => true
  | .rightsWrite _ _ _ => true
  | .objectWrite _ _ _ _ _ => true
  | .stagingBegin _ => true
  | .stagingCommit _ => true
  | .stagingDiscard _ => true
  | .stagingTimeout => true
  | .fence _ _ => true
  | .snapshotCapture _ _ => true
  | .factoryRestore _ _ => true
  | .mgmtWriteTransaction _ => true
  | .mgmtWake _ m => m.wf
  | .wakeFailure => true
  | .mgmtStuckRelease => true
  | .windowOpRead => true
  | .windowOpWrite _ => true
  | .windowOpDone => true
  | .alertCauseClear _ => true
  | .fastStatusRefresh => true
  | .ddrTrainingDone _ => true
  | .ddrTrainingRetry => true
  | .caParityError _ => true
  | .patrolScrub _ b _ _ => decide (b.length = 72)
  | .ddrRefresh => true
  | .zqCalibration => true
  | .pushSegment _ _ _ => true
  | .laneClaim _ _ => true
  | .laneRelease _ _ _ => true
  | .laneFlush _ _ => true
  | .laneIdle _ => true
  | .recordWrite => true
  | .freeze _ => true
  | .unfreeze _ => true
  | .freezeTimeout => true
  | .clearKeyWrite _ _ => true
  | .clearRequest _ => true
  | .clearResponse _ _ => true
  | .clearChallengeExpiry => true
  | .pfFrame l => decide (l.length ≤ 64) && l.all fun w => decide (w < 4096)
  | .pfTrigger _ => true
  | .pfCaptureFrozen => true
  | .pfEnable _ => true
  | .pfDisable _ => true
  | .pfRelease _ _ => true
  | .autostartStep => true
  | .autostartLockWaitExpiry => true
  | .bringupTimeout => true
  | .standbyRequest _ => true
  | .packageWrite _ _ => true
  | .packageVerify _ => true
  | .packageVerifyDone => true
  | .packageInstall _ => true
  | .packageInstallDone _ => true
  | .packageDiscard _ => true
  | .engineUpdate _ _ _ => true
  | .engineLoadDone _ _ => true
  | .engineRetire _ _ => true
  | .pairMove _ _ => true
  | .swapLap _ _ => true
  | .zflUnknownType _ _ _ _ => true
  | .fcsErrorFrame _ => true
  | .collision _ => true
  | .foldbackRecovery _ => true
  | .seqFltRoutePulseEnd => true
  | .seqFltRise => true
  | .aonPowerUp _ => true
  | .supplyInRange _ => true
  | .watchdogReset => true

end Sys2Proof
end

