-- ==== Sys2Proof/Tests/Slice0.lean ====
section
/-! SUPPORT. Tests: ill-formed commands, worked cases of the spec, and a witness for the hypotheses of every statement. -/

set_option Elab.async false
set_option linter.unusedVariables false

namespace Sys2Proof.Tests

open Sys2Proof Sys2Proof.Machine

/-- The factory state with its supplies up and CORE running. -/
def base : Device :=
  { Device.factory with sys := { Device.factory.sys with vdd := true, vaon := true, coreRunning := true } }

/-- Such a state with every engine but the standby ones running, shelf core 0 active, and some objects at given values. -/
def unit (l : List (Obj × Int)) : Device :=
  (([0, 2, 3, 4, 5, 6, 7, 8, 9, 11, 12, 13, 14, 15].map fun e => (O.engineState e, (1 : Int))) ++ (O.activeShelfCore, 0) :: l).foldl
    (fun d p => d.set p.1 p.2) base

/-- A board on which everything loads. -/
def board : PowerUp := ⟨0, List.replicate 4 .high, [], [], [], []⟩

/-- A lap at 50 Hz with nothing connected. -/
def lapData : LapData :=
  ⟨20000000, 50000000, false, 0, 0, [0, 0, 0], 0, List.replicate 4 [], List.replicate 16 (0, 0, 0, 0), List.replicate 6 0⟩

/-- The means of such an interval. -/
def split : SplitData :=
  ⟨20000000, 50000000, [0, 0, 0], [0, 0, 0], 0, List.replicate 6 0, List.replicate 16 ⟨0, 0, 0, 0⟩, List.replicate 4 (0, 0, 0), 0⟩

/-- What a slot finds then. -/
def fireData : FireData := ⟨[], split⟩

/-- A probe of slot 0. -/
def job : Job := ⟨0, 0x98, false, [], 0, 0, .probe⟩

/-- Port 3 of the rectifiers has a transaction in progress. -/
def portBusy : Device := (unit []).modPort 3 fun x => { x with busy := some job }

/-- Cell 95 is retired. -/
def retired : Device := unit [(O.cellState 95, 7)]

/-- Link 0 waits for the acknowledgement of a notice. -/
def notice : Device := (unit [(O.linkState 0, 2)]).modLink 0 fun l => { l with outstanding := some ⟨0, 0x20, [], 0⟩ }

/-- An open peer session in entry 15, with the PEER right. -/
def peered : Device :=
  (unit [(O.portEnable 0, 1), (O.sessionState 15, 2), (O.sessionKeySlot 15, 0), (O.rights 0, 0x20)]).modSession 15 fun x =>
    { x with peer := some 0, macs := [(0, 5)] }

/-- A frame of it with its next number. -/
def fromPeer : FrameIn := ⟨15, 0, 5, 1⟩

/-- A ledger with 1 W in the pool and a peer. -/
def offering : Device :=
  (unit [(O.creditEnable, 1), (O.shelfId, 5), (O.peerShelfId 0, 1), (O.maxTransfer, 10)]).modBook fun b =>
    { b with pool := 1, allot := 1 }

/-- Transfer 0 in a state, long waited for. -/
def transfer (giver : Bool) (st : Nat) : Device :=
  let t : Transfer := ⟨0, 1, giver, st, 1, 0, 0, 0, 0, 0, .restart, 4294967295, false⟩
  (unit []).modMram fun m => { m with transfers := [t] }

/-- Both field ports enabled, key slot 7 in use. -/
def wired (l : List (Obj × Int)) : Device :=
  (unit ((O.portEnable 0, 1) :: (O.portEnable 1, 1) :: l)).modMram fun m => { m with keys := modAt m.keys 7 fun _ => some [1] }

/-- Session 0 in a state, bound to MAC 5 on port 0. -/
def session (n : Int) : Device := (wired [(O.sessionState 0, n)]).modSession 0 fun x => { x with macs := [(0, 5)] }

/-- Everything that opening a session to peer 15 needs. -/
def peerReady : Device :=
  let d := wired [(O.netPortState 1, 2), (O.creditEnable, 1), (O.shelfId, 1), (O.peerShelfId 15, 9), (O.peerKeySlot 15, 7)]
  { d with dict := { d.dict with portApplied := [false, true] } }

/-- Session 0 with a request of its own. -/
def asked (r : Req) : Device := (session 2).modSession 0 fun x => { x with requests := [r] }

/-- The request with operations that have not started. -/
def fresh (ops : List Op) : Req := ⟨1, 0, false, ops.map fun o => ⟨o, false, none⟩⟩

/-- The request with a wait for LineTrackEnable that has started. -/
def waiting (v : BitVec 32) : Req := ⟨1, 0, false, [⟨.wait 0x2001 0 v 1 0, true, none⟩]⟩

/-- The window of the management port asked for an operation. -/
def window (op : Nat) : Device := { unit [] with mgmt := { (unit []).mgmt with winState := 1, winOp := op, winLen := 1 } }

/-- A pulse of cell 0, from its rise at 40 eu and its fall at 140 eu on. -/
def pulse : Pulse := ⟨0, 0, 20, 100, none, false, false, 0⟩

/-- Feed 0 runs and its first cell has that pulse. -/
def pulsed (p : Pulse) : Device :=
  (unit [(O.feedState 0, 4), (O.cellState 0, 3)]).modCell 0 fun c => { c with pulse := some p }

/-- Link 0 at the end of a sweep. -/
def swept (l : List Bool) : Device := (unit [(O.linkState 0, 1)]).modLink 0 fun x => { x with sweep := l }

/-- String 3 for long in a charge state. -/
def charged (st : Int) : Device := (unit [(O.stringState 3, st)]).modStr 3 fun x => { x with elapsed := 10 ^ 18 }

/-- A gauge sample of nothing. -/
def sample : GaugeIn := ⟨0, 0, 0, 0, 0, 0, 0⟩

/-- String 3 with a step of 1000 A in its window. -/
def stepped : Device :=
  (unit [(O.stringState 3, 3)]).modStr 3 fun x =>
    { x with watch := { x.watch with
               win := List.replicate 10 ⟨1000, -1000, 50, false⟩ ++ List.replicate 10 ⟨0, 0, 50, false⟩ } }

/-- An item of one cell. -/
def item : Item := ⟨1, 1, 0, [0], false, 0⟩

/-- Lane 127 enabled, with one item. -/
def laneHeld : Device := (unit [(O.laneEnable 127, 1)]).modLane 127 fun l => { l with items := [item] }

/-- Lane 127 with a claimed item. -/
def laneClaimed : Device := (unit [(O.laneEnable 127, 1)]).modLane 127 fun l => { l with claim := some (item, 16) }

/-- A clear key is set. -/
def keyed : Device := (unit []).modMram fun m => { m with clearKey := some [1] }

/-- A challenge is outstanding. -/
def challenged : Device := keyed.setChallenge (some [2])

/-- A staging set held by a path. -/
def staging (path : Nat) : Device := { unit [] with dict := { (unit []).dict with staged := some (path, []) } }

/-- The block after a command. -/
def after (c : Instr) (d : Device) : Device :=
  match exec c ⟨d, []⟩ with
  | .next s => s.dev
  | _ => d

/-- One ill-formed command for each check: none is well formed. -/
theorem test_ill_formed :
    ([.powerOn { board with sda := [] }, .powerOn { board with badLearned := [8] }, .powerOn { board with badLedger := [2] }, .powerOn { board with badEngines := [16] },
      .mgmtWake 0 { board with sda := [] }, .lapBoundary { lapData with rms := [] }, .lapBoundary { lapData with therm := [] },
      .lapBoundary { lapData with trays := [] }, .lapBoundary { lapData with drops := [] },
      .slotFire 0 ⟨[], { split with rmsV := [] }⟩, .slotFire 0 ⟨[], { split with rmsI := [] }⟩,
      .slotFire 0 ⟨[], { split with bus := [] }⟩, .slotFire 0 ⟨[], { split with feeds := [] }⟩,
      .slotFire 0 ⟨[], { split with strings := [] }⟩, .pmbusTransactionDone 0 .high (.ok (List.replicate 256 0)),
      .triggerFire 0 0 [96], .triggerFire 0 0 [1, 1], .floorPulse 0 0 [96], .floorPulse 0 0 [2, 2], .inrushDone 0 [], .inrushTimeout ⟨0, []⟩,
      .windowDecision 0 [], .iopOpen 0 0 0 0 [] ⟨true, 0⟩, .iopOpenAck 0 0 0 0 0 0 [] (List.replicate 16 0),
      .iopOpenAck 0 0 0 0 0 0 (List.replicate 16 0) [], .iopRequest 0 0 0 0 true true true [0, 0, 0],
      .iopRequest 0 0 0 0 true true true (List.replicate 1477 0), .patrolScrub true [] .other 0, .pfFrame [4096],
      .pfFrame (List.replicate 65 0)] : List Instr).all (fun c => !c.wellFormed) = true := by decide +kernel

/-- The words of the block's commands carry no bits in the table. -/
theorem test_no_word : Sys2Proof.decodeTableWord 8 0 = none := rfl

/-- Case "an integrator slot" of 02: the word of slot 8 fires in lap 5001 at 5461 au, and not in lap 5002. -/
theorem test_slot_case :
    let d := fun lap : Nat => ((unit [(O.slotWord 8, 0x1555030195000000), (O.timebaseState, 3)]).modTb fun t =>
      { t with stamp := lap * 65536 }).loadSlots
    (d 5001).slotFires 8 = true ∧ (d 5001).fireStamp 8 = 5001 * 65536 + 5461 ∧ (d 5002).slotFires 8 = false := by
  decide +kernel

/-- Case "on-time" of 03: 54.0 V, 12.0 V, 100 A per phase and 1.5 mΩ at 400 kHz give 5400 eu; at a trim of −0.03, 5238 eu. -/
theorem test_on_time_case :
    let d := fun b : Rat => ((unit [(O.cellState 15, 3), (O.switchFreq 2, 400000)]).modFeed 2 fun f =>
      { f with vset := 12, vbus := 54 }).modCell 15 fun c => { c with trim := b, imon := [100] }
    (d 0).onTime 2 15 = 5400 ∧ (d (-3 / 100)).onTime 2 15 = 5238 := by decide +kernel

/-- Case "an add on pair BC" of 07: 54.120 V and 54.207 V at a step of 2⁻⁹ V are the codes 27 709 and 27 754. -/
theorem test_vout_case :
    roundQ ((54120 / 1000 : Rat) / voutStep 0x17) = 0x6C3D ∧ roundQ ((54207 / 1000 : Rat) / voutStep 0x17) = 0x6C6A := by
  decide +kernel

/-- The giver of the case "a transfer with a lost ACCEPT" of 11. -/
def giver : Device :=
  (unit [(O.creditEnable, 1), (O.shelfId, 0x11), (O.peerShelfId 0, 0x12), (O.maxTransfer, 10000)]).modBook fun b =>
    { b with allot := 125000, pool := 9000, grants := 104000 :: List.replicate 15 0, rc := 12000, next := 42 }

/-- Its offer: P 4000, E_out 5000, and the ID 0x0011_0000_0000_002A in the state OFFERED. -/
theorem test_offer_case :
    let d := after (.transferOffer 16 [0x12, 0, 0, 0, 0x88, 0x13, 0, 0]) giver
    d.ledger.pool = 4000 ∧ d.ledger.eout = 5000 ∧ (d.transfer 0x001100000000002A).map Transfer.st = some 1 := by
  decide +kernel

/-- The taker's accept of the same case: E_in 5000, A 130 000, ACCEPTED. -/
theorem test_accept_case :
    let d := (unit [(O.creditEnable, 1), (O.acceptEnable, 1), (O.shelfId, 0x12), (O.peerShelfId 0, 0x11), (O.maxTransfer, 10000),
      (O.portEnable 0, 1), (O.sessionState 15, 2), (O.sessionKeySlot 15, 0), (O.rights 0, 0x20)]).modSession 15 fun x => { x with peer := some 0, macs := [(0, 5)] }
    let d := d.modBook fun b =>
      { b with allot := 125000, pool := 1000, grants := 112000 :: List.replicate 15 0, rc := 12000 }
    let e := after (.creditOffer fromPeer 0x11 0x12 0x001100000000002A 5000) d
    e.ledger.ein = 5000 ∧ e.ledger.allot = 130000 ∧ (e.transfer 0x001100000000002A).map Transfer.st = some 5 := by
  decide +kernel

/-- Case "a tray drawing above its grant" of 11: 6000 credits at 12.000 V give a cap of 525.0 A. -/
theorem test_cap_case :
    ((unit [(O.targetInForce 3, 12000)]).modBook fun b => { b with grants := modAt b.grants 3 fun _ => 6000 }).creditCapNow 3 =
      5250 := by decide +kernel

/-- An item of whole cells. -/
def cells (seq n : Nat) : Item := ⟨seq, 16 * n, 0, List.replicate (64 * n) 0, false, 0⟩

/-- Lane 12 of the case "overwrite and rewind on one lane" of 18, with so many free cells in the pool. -/
def lane12 (free : Nat) (l : Lane) : Device :=
  ((unit [(O.laneEnable 12, 1), (O.wordSize 12, 4), (O.quota 12, 16)]).modLane 12 fun _ => l).modFree 0 fun _ => free

/-- Its Claim takes A. -/
theorem test_claim_case :
    let d := after (.laneClaim 12 16) (lane12 2978 ⟨[cells 41 4, cells 42 6, cells 43 4], none, none⟩)
    (d.lane 12).claim = some (cells 41 4, 16) ∧ (d.lane 12).allocated = 10 ∧ (d.lane 12).inFlight = 4 ∧ d.poolFree 0 = 2978 := by
  decide +kernel

/-- Its first segment overwrites B at the third cell. -/
theorem test_overwrite_case :
    let d := after (.pushSegment 12 16 ([1, 0, 0, 0] ++ List.replicate 512 0))
      (lane12 2978 ⟨[cells 42 6, cells 43 4], some (cells 41 4, 16), none⟩)
    (d.lane 12).items = [cells 43 4] ∧ (d.lane 12).inFlight = 12 ∧ d.poolFree 0 = 2976 ∧ d.get (O.overwritten 12) = 1 ∧
      d.get (O.lostItems 12) = 1 := by decide +kernel

/-- Its ABORT rewinds D. -/
theorem test_rewind_case :
    let d := after (.pushSegment 12 16 [4, 0, 0, 0])
      (lane12 2976 ⟨[cells 43 4], some (cells 41 4, 16), some ⟨16, 8, List.replicate 512 0⟩⟩)
    d.poolFree 0 = 2984 ∧ (d.lane 12).packet = none ∧ d.get (O.rewinds 12) = 1 ∧ d.get (O.rewoundCells 12) = 8 := by
  decide +kernel

/-- Its Release frees A. -/
theorem test_release_case :
    let d := after (.laneRelease 12 16 41) (lane12 2984 ⟨[cells 43 4], some (cells 41 4, 16), none⟩)
    d.poolFree 0 = 2988 ∧ (d.lane 12).claim = none := by decide +kernel

/-- Case "a lost response" of 15: the copy on NB is a duplicate, counted on its port. -/
theorem test_duplicate_case :
    let d := (wired [(O.sessionState 3, 2), (O.rxSeqHigh 3, 0x220), (O.replayMask 3, 1)]).modSession 3 fun x =>
      { x with macs := [(0, 5), (1, 6)] }
    (after (.iopRequest 3 1 6 0x220 false false false (List.replicate 12 0)) d).get (O.portDuplicates 1) = 1 := by
  decide +kernel

/-- The check values of the two checksums, over the digits 1 to 9. -/
theorem test_crc :
    crc16 ((List.range 9).map fun i => BitVec.ofNat 8 (0x31 + i)) = 0x29B1#16 ∧
      crc32c ((List.range 9).map fun i => BitVec.ofNat 8 (0x31 + i)) = 0xE3069283 := by decide +kernel

/-- A burst of zeros is a codeword (18 R450). -/
def zeros : List Byte := List.replicate 36 0

/-- A freeing of sessions frees none where none is being opened. -/
theorem peerReady_frees_none :
    (peerReady.forAll (List.range 16) fun s d =>
      d.when ((d.session s).opener && (d.session s).peer == some (15 : Fin 16).val && d.get (O.sessionState s) == 1) fun d =>
        d.freeSession s) = peerReady := by
  have same : ∀ (l : List Nat) (f : Nat → Device → Device) (d : Device), (∀ a ∈ l, f a d = d) → d.forAll l f = d := by
    intro l f d h
    induction l with
    | nil => rfl
    | cons a l ih =>
      have hl := ih fun b hb => h b (by simp [hb])
      simp only [Device.forAll, List.foldl_cons] at hl ⊢
      rw [h a (by simp)]
      exact hl
  refine same _ _ _ fun s hs => ?_
  have h : ∀ s ∈ List.range 16, (peerReady.session s).opener = false := by decide +kernel
  simp [Device.when, h s hs]

/-- The right answer to a challenge is accepted. -/
theorem challenged_answer : challenged.accepts (16 : Fin 17) O.clearResponse 0 (challenged.clearAnswer.getD []) := by
  have h : ∃ bs, challenged.clearAnswer = some bs ∧ bs.length = 16 := ⟨_, rfl, by simp [fit]⟩
  obtain ⟨bs, hb, hl⟩ := h
  rw [hb]
  refine ⟨by decide +kernel, by decide +kernel, ?_, .inl (by decide +kernel)⟩
  have h1 : O.clearResponse.ty.lengthOk bs.length = true := by rw [hl]; decide +kernel
  have h2 : challenged.flag O.controllerClassA = false := by decide +kernel
  have h3 : challenged.stateBad 16 O.clearResponse 0 (O.clearResponse.kept (O.clearResponse.ty.decode bs)) bs = 0 := by
    show stateCode (challenged.clearResponseRefused bs) = 0
    simp [Device.clearResponseRefused, h2, hb, stateCode]
  have h4 : O.clearResponse.ownBad 0 (O.clearResponse.kept (O.clearResponse.ty.decode bs)) = false := by rfl
  have h5 : ∀ a b : Device, Device.ordersBad a b O.clearResponse 0 = false := by intro a b; rfl
  simp [Device.writeBad, h1, h2, h3, h4, h5]

/-- Witness of `StepRunsTheFirstCommand`. -/
theorem witness_StepRunsTheFirstCommand :
    (∃ d : Device, d.sys.coreRunning = true ∧ d.tb.stamp % 65536 < 65535 ∧ d.hold.due = none) ∧
    (∃ (d : Device) (u : HoldDue), d.sys.coreRunning = true ∧ d.tb.stamp % 65536 < 65535 ∧ d.hold.due = some u) ∧
    (∃ d : Device, d.sys.coreRunning = false ∧ d.hold.due = none) ∧
    ∃ d : Device, d.tb.stamp % 65536 = 65535 ∧ d.hold.due.isSome = true :=
  ⟨⟨base, by decide +kernel⟩, ⟨base.modHold fun h => { h with due := some ⟨0, 0, 1, false⟩ }, ⟨0, 0, 1, false⟩, by decide +kernel⟩,
    ⟨Device.factory, by decide +kernel⟩,
    (base.modTb fun t => { t with stamp := 65535 }).modHold fun h => { h with due := some ⟨65535, 0, 1, false⟩ }, by
      decide +kernel⟩

/-- Witness of `LinesAgreeAfterEveryStep`: a command, and the tick. -/
theorem witness_LinesAgreeAfterEveryStep :
    (∃ s s' : State, s.dev.linesAgree ∧ step s = .next s' ∧ s.pending ≠ []) ∧
      ∃ s s' : State, s.dev.linesAgree ∧ step s = .next s' ∧ s.pending = [] :=
  ⟨⟨⟨Device.factory, [.faultNPulseEnd]⟩, _, by unfold Device.linesAgree; decide +kernel, rfl, by decide⟩,
    ⟨⟨Device.factory, []⟩, _, by unfold Device.linesAgree; decide +kernel, rfl, rfl⟩⟩

/-- Witness of `ClassCEntryOpensAndMerges`: a closed entry, an open one at the top of its count, and the last block. -/
theorem witness_ClassCEntryOpensAndMerges :
    (∃ (d : Device) (b : Nat), b < d.faults.length) ∧
    (∃ (f : FaultBlock) (source stamp : Nat), f.aHeld = false ∧
      (if f.seenStamp = stamp then f.seen else []).contains (source, 1) = false ∧ f.cOpen = false) ∧
    ∃ (f : FaultBlock) (source stamp : Nat), f.aHeld = false ∧
      (if f.seenStamp = stamp then f.seen else []).contains (source, 1) = false ∧ f.cOpen = true ∧ f.cMerge = 65535 :=
  ⟨⟨base, 95, by decide +kernel⟩, ⟨FaultBlock.reset, 0, 0, by decide⟩,
    { FaultBlock.reset with cOpen := true, cMerge := 65535 }, 0, 1, by decide⟩

/-- Witness of `ClassBEventEscalatesWhenListedBefore`: a listed source, a new one in an empty entry, and class A held. -/
theorem witness_ClassBEventEscalatesWhenListedBefore :
    (∃ (f : FaultBlock) (source stamp st c : Nat), (if f.seenStamp = stamp then f.seen else []).contains (source, 2) = false ∧
      f.aHeld = false ∧ (f.bSources.find? fun x => x.1 == source) = some (source, st, c)) ∧
    (∃ (f : FaultBlock) (source stamp : Nat), (if f.seenStamp = stamp then f.seen else []).contains (source, 2) = false ∧
      f.aHeld = false ∧ (f.bSources.find? fun x => x.1 == source) = none ∧ f.bSources = []) ∧
    ∃ (f : FaultBlock) (source stamp : Nat), (if f.seenStamp = stamp then f.seen else []).contains (source, 2) = false ∧
      f.aHeld = true :=
  ⟨⟨{ FaultBlock.reset with bSources := [(7, 3, 0x0101)] }, 7, 4, 3, 0x0101, by decide⟩, ⟨FaultBlock.reset, 0, 0, by decide⟩,
    { FaultBlock.reset with aHeld := true }, 0, 0, by decide⟩

/-- Witness of `LaneIdleIsNoticedOnceUntilTheNextClaim`: a lane to notice, one noticed, and one without an IdleTime. -/
theorem witness_LaneIdleIsNoticedOnceUntilTheNextClaim :
    (∃ (q : Fin 128) (d : Device), d.sys.coreRunning = true ∧ d.get (O.idleTime q) ≠ 0 ∧ (d.lane q).items ≠ [] ∧
      d.flag (O.laneIdle q) = false) ∧ (∃ (q : Fin 128) (d : Device), d.flag (O.laneIdle q) = true) ∧
    ∃ (q : Fin 128) (d : Device), d.get (O.idleTime q) = 0 :=
  ⟨⟨127, laneHeld.set (O.idleTime 127) 1, by decide +kernel⟩, ⟨127, unit [(O.laneIdle 127, 1)], by decide +kernel⟩,
    0, unit [(O.idleTime 0, 0)], by decide +kernel⟩

/-- Witness of `PowerOnResetMakesTheControllerInert`. -/
theorem witness_PowerOnResetMakesTheControllerInert : ∃ d : Device, d.sys.vdd = true := ⟨base, by decide +kernel⟩

/-- Witness of `ReplayWindowNeverTakesANumberTwice`: a number above the window, one inside it, and one taken before. -/
theorem witness_ReplayWindowNeverTakesANumberTwice :
    (∃ (d : Device) (s seq : Nat), 0 ≤ d.get (O.replayMask s) ∧ d.seenSeq s seq = .fresh ∧ d.getN (O.rxSeqHigh s) < seq) ∧
    ∃ (d : Device) (s seq n : Nat), 0 ≤ d.get (O.replayMask s) ∧ d.seenSeq s seq = .fresh ∧ seq < d.getN (O.rxSeqHigh s) ∧
      d.seenSeq s n ≠ .fresh :=
  ⟨⟨unit [], 0, 1, by decide +kernel⟩, unit [(O.rxSeqHigh 15, 64), (O.replayMask 15, 1)], 15, 1, 64, by decide +kernel⟩

/-- Witness of `LedgerCommitsKeepTheBalance`: a balanced ledger that takes credits and one that transfers. -/
theorem witness_LedgerCommitsKeepTheBalance :
    (∃ d : Device, d.ledger.balanced ∧ d.canCommit = true ∧ d.canTransfer = true ∧ d.ledger.grants.length = 16) ∧
    ∃ (b : Book) (k : Nat), b.balanced ∧ k < b.grants.length :=
  ⟨⟨giver, by unfold Book.balanced; decide +kernel⟩, giver.ledger, 15, by unfold Book.balanced; decide +kernel⟩

/-- Witness of `CommitWritesTheSlotThatIsNotTheNewest`: slot A is the newest, slot B is, and none is. -/
theorem witness_CommitWritesTheSlotThatIsNotTheNewest :
    (∃ d : Device, d.mram.newestLedger = some false) ∧ (∃ d : Device, d.mram.newestLedger = some true) ∧
      ∃ d : Device, d.mram.newestLedger = none :=
  ⟨⟨base.modMram fun m => { m with ledA := { LedgerRec.blank with seq := 1 } }, by decide +kernel⟩,
    ⟨base.modMram fun m => { m with ledB := { LedgerRec.blank with seq := 1 } }, by decide +kernel⟩, base, by decide +kernel⟩

/-- Witness of `RecorderCountsEveryEventAndNeverChangesARecord`: the factory's, and a full one. -/
theorem witness_RecorderCountsEveryEventAndNeverChangesARecord :
    (∃ d : Device, d.mram.counted) ∧ ∃ m : Mram, m.held ≤ 65536 :=
  ⟨⟨base, by unfold Mram.counted; decide +kernel⟩, Mram.factory, by decide +kernel⟩

/-- Witness of `PoolCellsStayInTheirThreePlaces`. -/
theorem witness_PoolCellsStayInTheirThreePlaces :
    ∃ (d : Device) (p q : Nat), p < 2 ∧ q < 128 ∧ d.mem.lanes.length = 128 ∧ d.mem.free.length = 2 ∧ d.poolOf q < 2 ∧
      d.poolAgrees p ∧ (d.lane q).claim = none :=
  ⟨laneHeld.modFree 0 fun n => n - 1, 0, 127, by unfold Device.poolAgrees; decide +kernel⟩

/-- Witness of `StagedWriteLeavesTheValuesInForce`, with the value's own checks. -/
theorem witness_StagedWriteLeavesTheValuesInForce :
    ∃ (index : BitVec 16) (sub : Byte) (data : List Byte) (o : Obj) (k : Nat) (l : List Pending) (d : Device),
      locate index.toNat sub.toNat = .obj o k ∧ d.mayWrite 16 index.toNat sub.toNat = true ∧ o.access = .rws ∧ o.apply = .L ∧
      d.stagedOf 16 = some l ∧ d.quiet = true ∧ o.ty.lengthOk data.length = true ∧ d.flag O.controllerClassA = false ∧
      o.ownBad k (o.kept (o.ty.decode data)) = false ∧
      (putPending l ⟨16, o.key, o.kept (o.ty.decode data)⟩).length ≤ 256 ∧
      ((putPending l ⟨16, o.key, o.kept (o.ty.decode data)⟩).map fun p => keySize p.key).sum ≤ 16384 :=
  ⟨0x2001, 0, [1], O.lineTrackEnable, 0, [], staging 16, by decide +kernel⟩

/-- Witness of `SlotFiresOnceAtItsAngle`, with ONESHOT in the last slot. -/
theorem witness_SlotFiresOnceAtItsAngle :
    ∃ (d : Device) (n : Nat), d.tb.slots.length = 64 ∧ n < 64 ∧ d.slotFires n = true ∧ 8 ≤ n ∧
      bits (d.slotWordNow n) 25 1 = 1 :=
  ⟨(unit []).modTb fun t => { t with slots := modAt t.slots 63 fun x => { x with word := 3 * 2 ^ 24 + 8 * 2 ^ 28 } }, 63, by
    decide +kernel⟩

/-- Witness of `ClassASafeStateHoldsTheOutputs`. -/
theorem witness_ClassASafeStateHoldsTheOutputs :
    (∃ d : Device, d.flag O.controllerClassA = false) ∧ ∃ d : Device, d.flag O.controllerClassA = true :=
  ⟨⟨base, by decide +kernel⟩, unit [(O.controllerClassA, 1)], by decide +kernel⟩

/-- Witness of `DecoderCorrectsEverySingleSymbolError`, at both ends of the codeword. -/
theorem witness_DecoderCorrectsEverySingleSymbolError :
    ∃ word : List Byte, word.length = 36 ∧ (∀ i : Nat, i < 4 → syndrome word i = 0#8) ∧
      decodeWord (modAt word 35 fun s => s ^^^ 0x80#8) = .corrected 0 0x80#8 ∧
      decodeWord (modAt word 0 fun s => s ^^^ 0x01#8) = .corrected 35 0x01#8 :=
  ⟨zeros, by decide +kernel⟩

/-- Witness of `GateCommandsTouchOnlyTheirGate`, for the last gate. -/
theorem witness_GateCommandsTouchOnlyTheirGate :
    ∃ (k : Fin 16) (c : Instr), c = .insertDelayMet k ∨ c = .foldbackEntry k ∨ c = .foldbackRecovery k ∨ c = .tgRetryReset k ∨
      c = .presenceQualified k :=
  ⟨15, .insertDelayMet 15, .inl rfl⟩

/-- Witness of `PulseCommandsTouchOnlyTheirFeed`, with a cell of another feed, and a cell of none. -/
theorem witness_PulseCommandsTouchOnlyTheirFeed :
    (∃ (n : Fin 96) (dt : Nat) (i j : Int) (c : Instr), c = .pulseEnd n dt i j ∨ c = .zeroCurrentDetect n dt) ∧
    (∃ (d : Device) (n : Fin 96) (j k : Nat), d.feedOf n = some k ∧ j ≠ n.val ∧ (d.pulsing k).contains j = false) ∧
    (∃ (d : Device) (n : Fin 96) (k : Nat), d.feedOf n ≠ some k) ∧ ∃ (d : Device) (n : Fin 96), d.feedOf n = none :=
  ⟨⟨95, 1, 0, 0, .pulseEnd 95 1 0 0, .inl rfl⟩, ⟨unit [], 0, 95, 0, by decide +kernel⟩, ⟨unit [], 0, 15, by decide +kernel⟩,
    unit [(O.phaseMap 0, 0)], 1, by decide +kernel⟩

/-- Witness of `RegisterCommandsTouchOnlyTheirObject`, for each of its commands. -/
theorem witness_RegisterCommandsTouchOnlyTheirObject :
    (∃ (c : Instr) (key : Nat) (k : Fin 16), (c = .recoveryComplete k ∧ key = (O.ocState k).key) ∨
      (c = .deEntry k ∧ key = (O.deActive k).key)) ∧
    (∃ (c : Instr) (key : Nat) (r : Fin 24), c = .seqRetryCountReset (some r) ∧ key = (O.subtreeRetryCount r).key) ∧
    (∃ (c : Instr) (key : Nat), c = .seqRetryCountReset none ∧ key = O.sequenceRetryCount.key) ∧
    ∃ (c : Instr) (key : Nat) (n : Fin 4), c = .disagreeClear n ∧ key = (O.disagree n).key :=
  ⟨⟨_, _, 15, .inl ⟨rfl, rfl⟩⟩, ⟨_, _, 23, rfl, rfl⟩, ⟨_, _, rfl, rfl⟩, _, _, 3, rfl, rfl⟩

/-- Witness of `SupplyCommandsHaveTheirEffect`: each of its clauses applies somewhere. -/
theorem witness_SupplyCommandsHaveTheirEffect :
    (∃ (m : PowerUp) (d : Device),
        d.sys.vdd = false ∧
        d.sys.vaon = true) ∧
    (∃ (d : Device),
        d.sys.vdd = true) ∧
    (∃ (d : Device),
        d.sys.vaon = true) ∧
    (∃ (d : Device),
        d.sys.vaon = true ∧
        d.sys.brownOut = true) ∧
    (∃ (d : Device),
        d.sys.vaon = true) ∧
    (∃ (pins : Fin 8) (d : Device),
        d.sys.vaon = false) ∧
    (∃ (rail : Fin 5) (d : Device),
        d.sys.coreRunning = true ∧
        d.sys.outOfRange.contains (rail.val + 1) = false) ∧
    (∃ (d : Device),
        d.sys.coreRunning = true) ∧
    (∃ (d : Device),
        d.sys.coreRunning = true) ∧
    (∃ (d : Device),
        d.sys.coreRunning = true) ∧
    (∃ (d : Device),
        d.sys.coreRunning = true) :=
  ⟨⟨board, { base with sys := { base.sys with vdd := false, coreRunning := false } }, by decide +kernel⟩,
   ⟨base, by decide +kernel⟩,
   ⟨base, by decide +kernel⟩,
   ⟨{ base with sys := { base.sys with brownOut := true } }, by decide +kernel⟩,
   ⟨base, by decide +kernel⟩,
   ⟨0, Device.factory, by decide +kernel⟩,
   ⟨4, base, by decide +kernel⟩,
   ⟨base, by decide +kernel⟩,
   ⟨base, by decide +kernel⟩,
   ⟨base, by decide +kernel⟩,
   ⟨base, by decide +kernel⟩⟩

/-- Witness of `LapAndSlotCommandsHaveTheirEffect`: each of its clauses applies somewhere. -/
theorem witness_LapAndSlotCommandsHaveTheirEffect :
    (∃ (m : LapData) (d : Device),
        d.sys.coreRunning = true) ∧
    (∃ (slot : Fin 64) (m : FireData) (d : Device),
        d.slotFires slot = true) ∧
    (∃ (path : Fin 17) (slot : Fin 64) (word : BitVec 64) (d : Device),
        d.accepts path (O.slotWord slot) slot ((O.slotWord slot).ty.encode word.toNat) ∧
        8 ≤ slot.val) ∧
    (∃ (path : Fin 17) (slot : Fin 64) (word : BitVec 64) (d : Device),
        d.mayWrite path (O.systemSlot slot).index 0 = true ∧
        slot.val < 8) :=
  ⟨⟨lapData, base, by decide +kernel⟩,
   ⟨63, fireData, (unit []).modTb fun t => { t with slots := modAt t.slots 63 fun x => { x with word := 2 ^ 24 + 8 * 2 ^ 28 } }, by decide +kernel⟩,
   ⟨16, 8, 0x80000000, unit [], by unfold Device.accepts; decide +kernel⟩,
   ⟨16, 7, 0, unit [], by decide +kernel⟩⟩

/-- Witness of `LineCommandsHaveTheirEffect`: each of its clauses applies somewhere. -/
theorem witness_LineCommandsHaveTheirEffect :
    (∃ (k : Fin 2048) (a b c : LinePhase) (phi : BitVec 16) (t : Nat) (e : Device) (d : Device),
        t = d.lap * 65536 + 32 * k.val ∧
        d.sys.coreRunning = true ∧
        (match d.tb.lastSample with | some l => decide (l < k.val) | none => true) = true ∧
        d.now ≤ t ∧
        e = (d.toStamp t).modTb (fun x => { x with lastSample := some k.val, lineInputs := [a.v, b.v, c.v, a.i, b.i, c.i] }) ∧
        e.aeTracks = true) ∧
    (∃ (k : Fin 2048) (a b c : LinePhase) (phi : BitVec 16) (t : Nat) (e : Device) (d : Device),
        t = d.lap * 65536 + 32 * k.val ∧
        d.sys.coreRunning = true ∧
        (match d.tb.lastSample with | some l => decide (l < k.val) | none => true) = true ∧
        d.now ≤ t ∧
        e = (d.toStamp t).modTb (fun x => { x with lastSample := some k.val, lineInputs := [a.v, b.v, c.v, a.i, b.i, c.i] }) ∧
        e.aeTracks = false) ∧
    (∃ (d : Device),
        d.aeTracks = true ∧
        d.tb.linePresent = true ∧
        1 ≤ d.tb.belowRun ∧
        d.getN O.lossDwell ≤ 32 * (d.tb.belowRun - 1)) ∧
    (∃ (d : Device),
        d.aeTracks = true ∧
        d.tb.linePresent = false ∧
        2048 ≤ d.tb.aboveRun ∧
        (d.tb.dcTest = true ∨ inLineRange d.tb.lapFreq = true)) ∧
    (∃ (d : Device),
        d.aeTracks = true ∧
        d.get O.timebaseState = 1 ∧
        d.tb.holdFrom + d.getN O.holdoverLaps * 65536 ≤ d.now) ∧
    (∃ (d : Device),
        d.aeTracks = true ∧
        d.get O.timebaseState = 2 ∧
        d.getN O.lockLaps * 2048 ≤ d.tb.lockRun) ∧
    (∃ (d : Device),
        d.aeTracks = true ∧
        d.get O.timebaseState = 3 ∧
        d.tb.linePresent = true ∧
        2048 ≤ d.tb.unlockRun) ∧
    (∃ (d : Device),
        d.aeTracks = true ∧
        16 ≤ d.tb.negRun) :=
  ⟨⟨2047, ⟨0, 0⟩, ⟨0, 0⟩, ⟨0, 0⟩, 0, _, _, unit [(O.lineTrackEnable, 1)], rfl, by decide +kernel, by decide +kernel, by decide +kernel, rfl, by decide +kernel⟩,
   ⟨0, ⟨0, 0⟩, ⟨0, 0⟩, ⟨0, 0⟩, 0, _, _, base, rfl, by decide +kernel, by decide +kernel, by decide +kernel, rfl, by decide +kernel⟩,
   ⟨(unit [(O.lineTrackEnable, 1)]).modTb fun t => { t with linePresent := true, belowRun := 65537 }, by decide +kernel⟩,
   ⟨(unit [(O.lineTrackEnable, 1)]).modTb fun t => { t with linePresent := false, aboveRun := 2048, dcTest := true }, by decide +kernel⟩,
   ⟨(unit [(O.lineTrackEnable, 1), (O.timebaseState, 1)]).modTb fun t => { t with stamp := 2 ^ 40 }, by decide +kernel⟩,
   ⟨(unit [(O.lineTrackEnable, 1), (O.timebaseState, 2)]).modTb fun t => { t with lockRun := 2 ^ 30 }, by decide +kernel⟩,
   ⟨(unit [(O.lineTrackEnable, 1), (O.timebaseState, 3)]).modTb fun t => { t with linePresent := true, unlockRun := 2048 }, by decide +kernel⟩,
   ⟨(unit [(O.lineTrackEnable, 1)]).modTb fun t => { t with negRun := 16 }, by decide +kernel⟩⟩

/-- Witness of `HoldupCommandsHaveTheirEffect`: each of its clauses applies somewhere. -/
theorem witness_HoldupCommandsHaveTheirEffect :
    (∃ (d : Device),
        d.aeTracks = true ∧
        d.flag O.templateValid = true ∧
        d.tb.dev.isNone = true ∧
        d.getN O.devCount ≤ d.tb.outRun) ∧
    (∃ (x : Nat × Nat) (d : Device),
        d.tb.dev = some x ∧
        d.aeTracks = true ∧
        d.flag O.templateValid = true ∧
        d.getN O.devCount ≤ d.tb.inRun) ∧
    (∃ (x : Nat × Nat) (d : Device),
        d.tb.dev = some x ∧
        (d.holdActs = true ∨ d.coreWaits = true) ∧
        (x.1 + d.getN O.confirmAngle) / 65536 ≤ d.lap) ∧
    (∃ (d : Device),
        d.flag O.busArmed = true ∧
        d.busBelow = true) ∧
    (∃ (d : Device),
        d.returnMay = true) ∧
    (∃ (d : Device),
        d.holdActs = true ∧
        d.get O.holdupState = 2 ∧
        d.hold.returnLap + d.getN O.returnLaps + d.hold.returnPaused ≤ d.lap) :=
  ⟨⟨(unit [(O.lineTrackEnable, 1), (O.templateValid, 1)]).modTb fun t => { t with outRun := 100000 }, by decide +kernel⟩,
   ⟨(0, 32), (unit [(O.lineTrackEnable, 1), (O.templateValid, 1)]).modTb fun t => { t with dev := some (0, 32), inRun := 100000 }, by decide +kernel⟩,
   ⟨(0, 32), (unit [(O.holdupEnable, 1)]).modTb fun t => { t with dev := some (0, 32), inRun := 100000 }, by decide +kernel⟩,
   ⟨(unit [(O.busArmed, 1)]).modHold fun h => { h with lowRuns := [1000] }, by decide +kernel⟩,
   ⟨(unit [(O.holdupEnable, 1), (O.holdupState, 1), (O.sourceClass, 1), (O.qualifiedLaps, 60000), (O.lapsSinceChange, 60000), (O.rectEnable, 1), (O.rectState 0, 5)]).modTb fun t => { t with zoneOpen := true, zoneLen := 1 }, by decide +kernel⟩,
   ⟨(unit [(O.holdupEnable, 1), (O.holdupState, 2)]).modTb fun t => { t with stamp := 2 ^ 40 }, by decide +kernel⟩⟩

/-- Witness of `PmbusCommandsHaveTheirEffect`: each of its clauses applies somewhere. -/
theorem witness_PmbusCommandsHaveTheirEffect :
    (∃ (p : Fin 4) (sda : Sda) (reply : Reply) (j : Job) (d : Device),
        (d.port p).busy = some j ∧
        d.sys.coreRunning = true) ∧
    (∃ (p : Fin 4) (sclLow : Bool) (j : Job) (d : Device),
        (d.port p).busy = some j ∧
        d.sys.coreRunning = true) ∧
    (∃ (p : Fin 4) (sda : Sda) (d : Device),
        d.sys.coreRunning = true ∧
        d.stuck p = true ∧
        sda ≠ .stuck) ∧
    (∃ (r : Fin 32) (d : Device),
        d.portMay (portOf r) = true ∧
        d.flag (O.slotEnable r) = true ∧
        (d.rectSt r = 0 ∨ d.rectSt r = 2)) ∧
    (∃ (r : Fin 32) (d : Device),
        d.scActive = true ∧
        d.flag O.rectEnable = true ∧
        d.rectSt r = 4 ∧
        d.stuck (portOf r) = false ∧
        (d.slot r).since + d.getN O.addSettleLaps ≤ d.lap) ∧
    (∃ (r : Fin 32) (d : Device),
        d.scActive = true ∧
        d.flag O.rectEnable = true ∧
        d.rectSt r = 6 ∧
        (d.slot r).rampDone = false ∧
        d.stuck (portOf r) = false ∧
        (d.slot r).since + d.getN O.shedRampLaps ≤ d.lap) ∧
    (∃ (r : Fin 32) (d : Device),
        d.scActive = true ∧
        d.flag O.rectEnable = true ∧
        d.rectSt r = 8 ∧
        (d.slot r).since + d.getN O.rectRetryDelay ≤ d.lap) :=
  ⟨⟨3, .high, .nack true, job, portBusy, by decide +kernel⟩,
   ⟨3, true, job, portBusy, by decide +kernel⟩,
   ⟨0, .freed, unit [(O.pbPortState 0, 3)], by decide +kernel⟩,
   ⟨0, unit [(O.rectEnable, 1)], by decide +kernel⟩,
   ⟨31, (unit [(O.rectEnable, 1), (O.rectState 31, 4)]).modTb fun t => { t with stamp := 2 ^ 40 }, by decide +kernel⟩,
   ⟨0, (unit [(O.rectEnable, 1), (O.rectState 0, 6)]).modTb fun t => { t with stamp := 2 ^ 40 }, by decide +kernel⟩,
   ⟨0, (unit [(O.rectEnable, 1), (O.rectState 0, 8)]).modTb fun t => { t with stamp := 2 ^ 40 }, by decide +kernel⟩⟩

/-- Witness of `LineAndRectifierWritesHaveTheirEffect`: each of its clauses applies somewhere. -/
theorem witness_LineAndRectifierWritesHaveTheirEffect :
    (∃ (path : Fin 17) (d : Device),
        d.accepts path O.lineTrackEnable 0 (O.lineTrackEnable.ty.encode 1) ∧
        d.get O.lineTrackEnable ≠ 1) ∧
    (∃ (path : Fin 17) (d : Device),
        d.accepts path O.lineTrackEnable 0 (O.lineTrackEnable.ty.encode 0) ∧
        d.get O.lineTrackEnable ≠ 0) ∧
    (∃ (path : Fin 17) (d : Device),
        d.accepts path O.templateReset 0 (O.templateReset.ty.encode 1)) ∧
    (∃ (path : Fin 17) (on : Bool) (d : Device),
        d.accepts path O.holdupEnable 0 (O.holdupEnable.ty.encode (b2i on))) ∧
    (∃ (path : Fin 17) (d : Device),
        d.accepts path O.rectEnable 0 (O.rectEnable.ty.encode 1) ∧
        d.get O.rectEnable ≠ 1) ∧
    (∃ (path : Fin 17) (d : Device),
        d.accepts path O.rectEnable 0 (O.rectEnable.ty.encode 0) ∧
        d.get O.rectEnable ≠ 0) ∧
    (∃ (r : Fin 32) (path : Fin 17) (d : Device),
        d.accepts path (O.slotEnable r) r ((O.slotEnable r).ty.encode 1)) ∧
    (∃ (r : Fin 32) (path : Fin 17) (d : Device),
        d.accepts path (O.slotEnable r) r ((O.slotEnable r).ty.encode 0) ∧
        d.get (O.slotEnable r) ≠ 0) ∧
    (∃ (b : Bool) (path : Fin 17) (d : Device),
        d.accepts path (if b then O.groupEnableB else O.groupEnableA) 0 ((if b then O.groupEnableB else O.groupEnableA).ty.encode 1)) ∧
    (∃ (b : Bool) (path : Fin 17) (d : Device),
        d.accepts path (if b then O.groupEnableB else O.groupEnableA) 0 ((if b then O.groupEnableB else O.groupEnableA).ty.encode 0)) ∧
    (∃ (r : Fin 32) (path : Fin 17) (d : Device),
        d.accepts path (O.rectAck r) r ((O.rectAck r).ty.encode 1)) :=
  ⟨⟨16, unit [], by unfold Device.accepts; decide +kernel⟩,
   ⟨16, unit [(O.lineTrackEnable, 1)], by unfold Device.accepts; decide +kernel⟩,
   ⟨16, unit [], by unfold Device.accepts; decide +kernel⟩,
   ⟨16, true, unit [], by unfold Device.accepts; decide +kernel⟩,
   ⟨16, unit [], by unfold Device.accepts; decide +kernel⟩,
   ⟨16, unit [(O.rectEnable, 1)], by unfold Device.accepts; decide +kernel⟩,
   ⟨31, 16, unit [(O.slotEnable 31, 1)], by unfold Device.accepts; decide +kernel⟩,
   ⟨0, 16, unit [], by unfold Device.accepts; decide +kernel⟩,
   ⟨true, 16, unit [], by unfold Device.accepts; decide +kernel⟩,
   ⟨true, 16, unit [], by unfold Device.accepts; decide +kernel⟩,
   ⟨0, 16, unit [(O.rectState 0, 9)], by unfold Device.accepts; decide +kernel⟩⟩

/-- Witness of `PulseCommandsHaveTheirEffect`: each of its clauses applies somewhere. -/
theorem witness_PulseCommandsHaveTheirEffect :
    (∃ (k : Fin 16) (dt : Nat) (rearmed : List Nat) (d : Device),
        d.switches k = true) ∧
    (∃ (n : Fin 96) (dt : Nat) (iStart iEnd : Int) (k : Nat) (p : Pulse) (e : Device) (d : Device),
        d.feedOf n = some k ∧
        e = d.ripple k dt ∧
        (e.cell n).pulse = some p ∧
        p.cut = none ∧
        p.measured = false ∧
        p.fall ≤ p.age) ∧
    (∃ (n : Fin 96) (dt k : Nat) (p : Pulse) (e : Device) (d : Device),
        d.feedOf n = some k ∧
        e = d.ripple k dt ∧
        (e.cell n).pulse = some p ∧
        p.cut = none ∧
        p.rise + nsToEu (e.get (O.leadingBlank k)) ≤ p.age ∧
        p.age < p.fall) ∧
    (∃ (n : Fin 96) (dt k : Nat) (p : Pulse) (e : Device) (d : Device),
        d.feedOf n = some k ∧
        e = d.ripple k dt ∧
        e.switches k = true ∧
        e.deActs k = true ∧
        (e.pulsing k).contains n.val = true ∧
        (e.cell n).pulse = some p ∧
        p.fall ≤ p.age ∧
        (e.cell n).lowOff = false) ∧
    (∃ (k : Fin 16) (dt : Nat) (rearmed : List Nat) (d : Device),
        d.switches k = true ∧
        d.deActs k = true ∧
        d.get (O.floorFreq k) ≠ 0) ∧
    (∃ (k : Fin 16) (d : Device),
        d.switches k = true ∧
        d.flag (O.deEnable k) = true ∧
        (d.feed k).es.isNone = true ∧
        d.perActive k * 10 < (d.get (O.deEntry k) : Rat)) ∧
    (∃ (k : Fin 16) (d : Device),
        d.switches k = true ∧
        (d.feed k).forcedDe = false ∧
        (d.get (O.deExit k) : Rat) < d.perActive k * 10) :=
  ⟨⟨0, 0, [], unit [(O.feedState 0, 4)], by decide +kernel⟩,
   ⟨0, 0, 0, 0, 0, { pulse with age := 140 }, _, pulsed { pulse with age := 140 }, by decide +kernel, rfl, by decide +kernel⟩,
   ⟨0, 0, 0, { pulse with age := 100 }, _, (pulsed { pulse with age := 100 }).set (O.leadingBlank 0) 0, by decide +kernel, rfl, by decide +kernel⟩,
   ⟨0, 0, 0, { pulse with age := 150 }, _, (pulsed { pulse with age := 150 }).set (O.deActive 0) 1, by decide +kernel, rfl, by decide +kernel⟩,
   ⟨0, 0, [], unit [(O.feedState 0, 4), (O.deActive 0, 1), (O.floorFreq 0, 25)], by decide +kernel⟩,
   ⟨0, unit [(O.feedState 0, 4), (O.cellState 0, 3), (O.deEnable 0, 1), (O.deEntry 0, 50)], by decide +kernel⟩,
   ⟨0, (unit [(O.feedState 0, 4), (O.cellState 0, 3)]).modFeed 0 fun f => { f with iHist := [2000] }, by decide +kernel⟩⟩

/-- Witness of `CellFaultCommandsHaveTheirEffect`: each of its clauses applies somewhere. -/
theorem witness_CellFaultCommandsHaveTheirEffect :
    (∃ (k : Fin 16) (d : Device),
        d.leRuns k = true ∧
        d.feedSt k = 4 ∧
        d.get (O.ocState k) = 0 ∧
        d.get (O.hiccupRounds k) ≤ (d.feed k).limitedRun) ∧
    (∃ (k : Fin 16) (d : Device),
        d.leRuns k = true ∧
        d.feedSt k = 6 ∧
        d.get (O.ocState k) = 1) ∧
    (∃ (k : Fin 16) (d : Device),
        d.leRuns k = true ∧
        d.feedSt k = 4 ∧
        d.get (O.ocState k) = 2) ∧
    (∃ (k : Fin 16) (d : Device),
        d.leRuns k = true) ∧
    (∃ (k : Fin 16) (positions : BitVec 12) (d : Device),
        d.live = true ∧
        (d.feedSt k = 2 ∨ d.feedSt k = 4)) ∧
    (∃ (n : Fin 96) (k : Nat) (d : Device),
        d.feedOf n = some k ∧
        d.leRuns k = true ∧
        d.cellSt n ≠ 0 ∧
        d.cellSt n ≠ 7 ∧
        8 ≤ (d.cell n).noRise) ∧
    (∃ (n : Fin 96) (k : Nat) (d : Device),
        d.feedOf n = some k ∧
        d.leRuns k = true ∧
        d.cellSt n ≠ 0 ∧
        d.cellSt n ≠ 7 ∧
        3 ≤ (d.cell n).rangeRun) ∧
    (∃ (k : Fin 16) (l : List (Rat × List (Nat × Rat))) (d : Device),
        (d.feed k).sums = l ∧
        d.leRuns k = true ∧
        16 ≤ l.length ∧
        (d.feed k).sumSuspended = false) ∧
    (∃ (k : Fin 16) (mean : Int) (d : Device),
        d.leRuns k = true ∧
        d.get (O.retiredMask k) ≠ 0 ∧
        (d.feed k).capacityLimit = false ∧
        d.get (O.capacity k) * 100 < mean) :=
  ⟨⟨0, (unit [(O.feedState 0, 4)]).modFeed 0 fun f => { f with limitedRun := 1000 }, by decide +kernel⟩,
   ⟨0, unit [(O.feedState 0, 6), (O.ocState 0, 1)], by decide +kernel⟩,
   ⟨0, unit [(O.feedState 0, 4), (O.ocState 0, 2)], by decide +kernel⟩,
   ⟨0, unit [(O.feedState 0, 2)], by decide +kernel⟩,
   ⟨0, 0, unit [(O.feedState 0, 2)], by decide +kernel⟩,
   ⟨0, 0, (unit [(O.feedState 0, 4), (O.cellState 0, 3)]).modCell 0 fun c => { c with noRise := 8 }, by decide +kernel⟩,
   ⟨0, 0, (unit [(O.feedState 0, 4), (O.cellState 0, 3)]).modCell 0 fun c => { c with rangeRun := 3 }, by decide +kernel⟩,
   ⟨0, (List.replicate 16 (1, [])), (unit [(O.feedState 0, 4), (O.cellState 0, 3)]).modFeed 0 fun f => { f with sums := List.replicate 16 (1, []) }, by decide +kernel⟩,
   ⟨0, 1000000000, unit [(O.feedState 0, 4), (O.retiredMask 0, 1)], by decide +kernel⟩⟩

/-- Witness of `FeedCommandsHaveTheirEffect`: each of its clauses applies somewhere. -/
theorem witness_FeedCommandsHaveTheirEffect :
    (∃ (k : Fin 16) (dt : Nat) (vfb : List (Int × Int)) (iF : List Int) (vbus : Int) (imon : List (List Int)) (d : Device),
        d.sys.coreRunning = true) ∧
    (∃ (k : Fin 16) (d : Device),
        d.leRuns k = true ∧
        (d.feedSt k = 3 ∨ d.feedSt k = 4) ∧
        (d.feed k).settling = true ∧
        d.flag (O.reached k) = false) ∧
    (∃ (k : Fin 16) (d : Device),
        d.leRuns k = true ∧
        d.flag (O.shedEnable k) = true ∧
        d.feedSt k = 4 ∧
        d.get (O.ocState k) = 0 ∧
        d.get (O.minPhases k) < d.get (O.activePhases k) ∧
        (d.feed k).es.isNone = true ∧
        (d.feed k).draining.isNone = true ∧
        (d.feed k).drainBack.isEmpty = true ∧
        d.dwellSince k (d.feed k).cappedStamp = true ∧
        d.dwellSince k (d.feed k).esStamp = true ∧
        d.perActive k * 10 < (d.get (O.shedLevel k) : Rat)) ∧
    (∃ (k : Fin 16) (d : Device),
        d.leRuns k = true ∧
        (d.feed k).es.isNone = true) ∧
    (∃ (k : Fin 16) (d : Device),
        d.leRuns k = true ∧
        d.feedSt k = 4 ∧
        (d.get (O.addLevel k) : Rat) < d.perActive k * 10) ∧
    (∃ (k : Fin 16) (es : StepEs) (d : Device),
        (d.feed k).es = some es ∧
        d.leRuns k = true ∧
        es.windowEnd ≤ d.now) ∧
    (∃ (k : Fin 16) (d : Device),
        d.leRuns k = true ∧
        d.feedSt k = 5 ∧
        (d.feed k).order.isNone = true ∧
        (d.feed k).vset = (d.feed k).vtgt) :=
  ⟨⟨0, 0, [], [], 0, [], base, by decide +kernel⟩,
   ⟨0, (unit [(O.feedState 0, 3)]).modFeed 0 fun f => { f with settling := true }, by decide +kernel⟩,
   ⟨0, unit [(O.feedState 0, 4), (O.shedEnable 0, 1), (O.activePhases 0, 6), (O.minPhases 0, 1), (O.shedLevel 0, 60)], by decide +kernel⟩,
   ⟨0, unit [(O.feedState 0, 4)], by decide +kernel⟩,
   ⟨0, (unit [(O.feedState 0, 4), (O.cellState 0, 3)]).modFeed 0 fun f => { f with iHist := [2000] }, by decide +kernel⟩,
   ⟨0, ⟨0, 0, 0, false, [], none⟩, (unit []).modFeed 0 fun f => { f with es := some ⟨0, 0, 0, false, [], none⟩ }, by decide +kernel⟩,
   ⟨15, (unit [(O.feedState 15, 5)]), by decide +kernel⟩⟩

/-- Witness of `FeedFaultCommandsHaveTheirEffect`: each of its clauses applies somewhere. -/
theorem witness_FeedFaultCommandsHaveTheirEffect :
    (∃ (k : Fin 16) (d : Device),
        d.leRuns k = true ∧
        (d.feedSt k = 2 ∨ d.feedSt k = 3)) ∧
    (∃ (k : Fin 16) (d : Device),
        d.switches k = true ∧
        2 ≤ (d.feed k).ovRun) ∧
    (∃ (k : Fin 16) (d : Device),
        d.leRuns k = true ∧
        (d.feed k).uvRun = true ∧
        d.feedSt k = 4 ∧
        d.get (O.ocState k) = 0 ∧
        d.notCapped k = true) ∧
    (∃ (k : Fin 16) (d : Device),
        d.leRuns k = true ∧
        d.feedSt k ≠ 0 ∧
        d.feedSt k ≠ 7 ∧
        d.feedSt k ≠ 8 ∧
        3 ≤ (d.feed k).senseRun) ∧
    (∃ (k : Fin 16) (d : Device),
        d.leRuns k = true ∧
        2 ≤ d.feedSt k ∧
        d.feedSt k ≤ 6 ∧
        4 ≤ (d.feed k).busRun) ∧
    (∃ (k : Fin 16) (d : Device),
        d.leRuns k = true ∧
        d.feedSt k = 1 ∧
        (d.get (O.busRestart k) : Rat) ≤ (d.feed k).vbus * 1000 ∧
        (d.feed k).vbus ≤ 60) :=
  ⟨⟨0, unit [(O.feedState 0, 3)], by decide +kernel⟩,
   ⟨0, (unit [(O.feedState 0, 4)]).modFeed 0 fun f => { f with ovRun := 2 }, by decide +kernel⟩,
   ⟨0, (unit [(O.feedState 0, 4)]).modFeed 0 fun f => { f with uvRun := true }, by decide +kernel⟩,
   ⟨0, (unit [(O.feedState 0, 1)]).modFeed 0 fun f => { f with senseRun := 3 }, by decide +kernel⟩,
   ⟨0, (unit [(O.feedState 0, 6)]).modFeed 0 fun f => { f with busRun := 4 }, by decide +kernel⟩,
   ⟨0, (unit [(O.feedState 0, 1)]).modFeed 0 fun f => { f with vbus := 60 }, by decide +kernel⟩⟩

/-- Witness of `FeedWritesHaveTheirEffect`: each of its clauses applies somewhere. -/
theorem witness_FeedWritesHaveTheirEffect :
    (∃ (n : Fin 96) (path : Fin 17) (d : Device),
        d.accepts path (O.readmit n) n ((O.readmit n).ty.encode 1)) ∧
    (∃ (k : Fin 16) (path : Fin 17) (map : List Byte) (d : Device),
        d.accepts path (O.phaseMap k) k map) ∧
    (∃ (k : Fin 16) (path : Fin 17) (d : Device),
        d.accepts path (O.feedEnable k) k ((O.feedEnable k).ty.encode 1)) ∧
    (∃ (k : Fin 16) (path : Fin 17) (d : Device),
        d.accepts path (O.feedEnable k) k ((O.feedEnable k).ty.encode 0)) ∧
    (∃ (k : Fin 16) (path : Fin 17) (mv : BitVec 16) (d : Device),
        d.accepts path (O.targetVoltage k) k ((O.targetVoltage k).ty.encode mv.toNat)) ∧
    (∃ (k : Fin 16) (path : Fin 17) (on : Bool) (d : Device),
        d.accepts path (O.linkEnable k) k ((O.linkEnable k).ty.encode (b2i on))) :=
  ⟨⟨95, 16, retired, by unfold Device.accepts; decide +kernel⟩,
   ⟨0, 16, (leBytes 16 (phaseMapDefault 0)), unit [], by unfold Device.accepts; decide +kernel⟩,
   ⟨15, 16, unit [], by unfold Device.accepts; decide +kernel⟩,
   ⟨0, 16, unit [], by unfold Device.accepts; decide +kernel⟩,
   ⟨0, 16, 12400, unit [(O.setpointOwner 0, 0)], by unfold Device.accepts; decide +kernel⟩,
   ⟨0, 16, true, unit [], by unfold Device.accepts; decide +kernel⟩⟩

/-- Witness of `LinkFramesHaveTheirEffect`: each of its clauses applies somewhere. -/
theorem witness_LinkFramesHaveTheirEffect :
    (∃ (k : Fin 16) (seq : Byte) (payload : List Byte) (d : Device),
        d.get (O.linkState k) = 2 ∧
        d.live = true ∧
        badOffset 4 [(2, 0xFC), (3, 0xFF)] payload = none ∧
        (((d.rxFrame k).link k).last.map fun a => a.1) ≠ some seq.toNat ∧
        (d.rxFrame k).voltageRefusal k (ofLe (payload.take 2)) ((payload.getD 2 0).toNat % 4) = none) ∧
    (∃ (k : Fin 16) (seq : Byte) (payload : List Byte) (r : Nat) (x : Int) (d : Device),
        d.get (O.linkState k) = 2 ∧
        d.live = true ∧
        badOffset 4 [(2, 0xFC), (3, 0xFF)] payload = none ∧
        (((d.rxFrame k).link k).last.map fun a => a.1) ≠ some seq.toNat ∧
        (d.rxFrame k).voltageRefusal k (ofLe (payload.take 2)) ((payload.getD 2 0).toNat % 4) = some (r, x)) ∧
    (∃ (k : Fin 16) (seq : Byte) (payload : List Byte) (d : Device),
        d.get (O.linkState k) = 2 ∧
        d.live = true ∧
        badOffset 4 [(1, 0xFF)] payload = none ∧
        (((d.rxFrame k).link k).last.map fun a => a.1) ≠ some seq.toNat) ∧
    (∃ (k : Fin 16) (seq : Byte) (payload : List Byte) (d : Device),
        d.get (O.linkState k) = 2 ∧
        d.live = true ∧
        badOffset 2 [(1, 0xFF)] payload = none ∧
        (((d.rxFrame k).link k).last.map fun a => a.1) ≠ some seq.toNat) ∧
    (∃ (k : Fin 16) (seq : Byte) (payload : List Byte) (d : Device),
        d.get (O.linkState k) ≠ 0 ∧
        d.live = true ∧
        payload = []) ∧
    (∃ (k : Fin 16) (seq : Byte) (payload : List Byte) (n : Notice) (d : Device),
        d.get (O.linkState k) = 2 ∧
        d.live = true ∧
        badOffset 2 [(1, 0xFE)] payload = none ∧
        ((d.rxFrame k).link k).outstanding = some n ∧
        n.seq = seq.toNat ∧
        n.kind = (payload.getD 0 0).toNat) ∧
    (∃ (k : Fin 16) (type seq : Byte) (payload : List Byte) (d : Device),
        d.live = true ∧
        d.get (O.linkState k) = 2 ∧
        [0x01#8, 0x10#8, 0x11#8, 0x12#8, 0x13#8].contains type = false) ∧
    (∃ (k : Fin 16) (d : Device),
        d.live = true ∧
        d.get (O.linkState k) ≠ 0) :=
  ⟨⟨0, 0, [0xE0, 0x2E, 1, 0], unit [(O.linkState 0, 2), (O.setpointOwner 0, 1), (O.feedState 0, 4)], by decide +kernel⟩,
   ⟨0, 0, [0xE0, 0x2E, 1, 0], 3, 0, unit [(O.linkState 0, 2)], by decide +kernel⟩,
   ⟨0, 0, [200, 0, 0x60, 0xEA], unit [(O.linkState 0, 2)], by decide +kernel⟩,
   ⟨0, 0, [8, 0], unit [(O.linkState 0, 2)], by decide +kernel⟩,
   ⟨0, 0, [], unit [(O.linkState 0, 2)], by decide +kernel⟩,
   ⟨0, 0, [0x20, 0], ⟨0, 0x20, [], 0⟩, notice, by decide +kernel⟩,
   ⟨0, 0xFF, 0, [], unit [(O.linkState 0, 2)], by decide +kernel⟩,
   ⟨0, unit [(O.linkState 0, 2)], by decide +kernel⟩⟩

/-- Witness of `LinkCommandsHaveTheirEffect`: each of its clauses applies somewhere. -/
theorem witness_LinkCommandsHaveTheirEffect :
    (∃ (k : Fin 16) (d : Device),
        d.live = true ∧
        d.get (O.linkState k) = 2) ∧
    (∃ (k : Fin 16) (d : Device),
        d.live = true ∧
        d.get (O.linkState k) = 2) ∧
    (∃ (k : Fin 16) (d : Device),
        d.live = true ∧
        d.get (O.linkState k) ≠ 0) ∧
    (∃ (k : Fin 16) (d : Device),
        d.live = true ∧
        d.get (O.linkState k) = 2) ∧
    (∃ (k : Fin 16) (d : Device),
        d.live = true ∧
        d.flag (O.linkEnable k) = true ∧
        d.tgSt k = 5 ∧
        d.get (O.linkState k) = 0) ∧
    (∃ (k : Fin 16) (tap : Fin 16) (d : Device),
        d.sweepDone k = true ∧
        chooseTap (goodTaps (d.link k).sweep) = some tap.val) ∧
    (∃ (k : Fin 16) (d : Device),
        d.sweepDone k = true ∧
        (chooseTap (goodTaps (d.link k).sweep)).isNone = true) :=
  ⟨⟨0, unit [(O.linkState 0, 2)], by decide +kernel⟩,
   ⟨0, unit [(O.linkState 0, 2)], by decide +kernel⟩,
   ⟨0, unit [(O.linkState 0, 1)], by decide +kernel⟩,
   ⟨0, notice, by decide +kernel⟩,
   ⟨0, unit [(O.tgState 0, 5)], by decide +kernel⟩,
   ⟨0, 7, swept (List.replicate 64 true), by decide +kernel⟩,
   ⟨0, swept (List.replicate 64 false), by decide +kernel⟩⟩

/-- Witness of `TrayGateCommandsHaveTheirEffect`: each of its clauses applies somewhere. -/
theorem witness_TrayGateCommandsHaveTheirEffect :
    (∃ (k : Fin 16) (d : Device),
        d.live = true ∧
        d.tgSt k = 1) ∧
    (∃ (k : Fin 16) (d : Device),
        d.live = true ∧
        d.tgSt k ≠ 1) ∧
    (∃ (k : Fin 16) (d : Device),
        d.sys.coreRunning = true) ∧
    (∃ (k : Fin 16) (d : Device),
        d.live = true ∧
        d.tgSt k = 2) ∧
    (∃ (k : Fin 16) (d : Device),
        d.live = true ∧
        d.tgSt k = 3 ∧
        d.tgMayClose k = true) ∧
    (∃ (k : Fin 16) (samples : List (Int × BitVec 12 × BitVec 12)) (d : Device),
        d.live = true ∧
        d.tgSt k = 4) ∧
    (∃ (m : Inrush) (d : Device),
        d.live = true ∧
        d.tgSt m.k = 4) ∧
    (∃ (k : Fin 16) (d : Device),
        d.live = true ∧
        (d.tgSt k = 4 ∨ d.tgSt k = 5)) ∧
    (∃ (k : Fin 16) (d : Device),
        d.live = true ∧
        d.tgSt k = 5) ∧
    (∃ (k : Fin 16) (d : Device),
        d.live = true ∧
        d.tgSt k = 5 ∧
        (d.gate k).foldback = true) ∧
    (∃ (k : Fin 16) (d : Device),
        d.live = true ∧
        d.tgSt k = 5) ∧
    (∃ (k : Fin 16) (window : Bool) (d : Device),
        ((window = true ∧ d.tgWindowLost k = true) ∨ (window = false ∧ d.tgFeedLost k = true)) ∧
        (d.tgSt k = 4 ∨ d.tgSt k = 5)) ∧
    (∃ (k : Fin 16) (d : Device),
        d.live = true ∧
        d.tgSt k = 6) ∧
    (∃ (k : Fin 16) (d : Device),
        d.live = true ∧
        d.tgSt k = 5) :=
  ⟨⟨0, unit [(O.tgState 0, 1)], by decide +kernel⟩,
   ⟨0, unit [(O.tgState 0, 0)], by decide +kernel⟩,
   ⟨0, unit [(O.tgState 0, 7)], by decide +kernel⟩,
   ⟨0, unit [(O.tgState 0, 2)], by decide +kernel⟩,
   ⟨0, unit [(O.tgState 0, 3), (O.tgEnable 0, 1), (O.feedState 0, 4), (O.tgUvLevel 0, 0)], by decide +kernel⟩,
   ⟨0, [], unit [(O.tgState 0, 4)], by decide +kernel⟩,
   ⟨⟨15, []⟩, unit [(O.tgState 15, 4)], by decide +kernel⟩,
   ⟨0, unit [(O.tgState 0, 5)], by decide +kernel⟩,
   ⟨0, unit [(O.tgState 0, 5)], by decide +kernel⟩,
   ⟨0, (unit [(O.tgState 0, 5)]).modGate 0 fun g => { g with foldback := true }, by decide +kernel⟩,
   ⟨0, unit [(O.tgState 0, 5)], by decide +kernel⟩,
   ⟨0, false, unit [(O.tgState 0, 4)], by decide +kernel⟩,
   ⟨0, unit [(O.tgState 0, 6)], by decide +kernel⟩,
   ⟨0, unit [(O.tgState 0, 5)], by decide +kernel⟩⟩

/-- Witness of `GateWritesHaveTheirEffect`: each of its clauses applies somewhere. -/
theorem witness_GateWritesHaveTheirEffect :
    (∃ (k : Fin 16) (path : Fin 17) (d : Device),
        d.accepts path (O.tgAck k) k ((O.tgAck k).ty.encode 1)) ∧
    (∃ (k : Fin 16) (path : Fin 17) (d : Device),
        d.accepts path (O.tgEnable k) k ((O.tgEnable k).ty.encode 1) ∧
        d.get (O.tgEnable k) ≠ 1) ∧
    (∃ (k : Fin 16) (path : Fin 17) (d : Device),
        d.accepts path (O.tgEnable k) k ((O.tgEnable k).ty.encode 0) ∧
        d.get (O.tgEnable k) ≠ 0) ∧
    (∃ (g : Fin 6) (path : Fin 17) (vak : Int) (e : Device) (d : Device),
        e = { d with diodes := modAt d.diodes g fun x => { x with vak := some ((vak : Rat) / 1000) } } ∧
        e.accepts path (O.gateRequest g) g [1] ∧
        e.get (O.gateRequest g) ≠ 1) ∧
    (∃ (g : Fin 6) (path : Fin 17) (d : Device),
        d.accepts path (O.gateRequest g) g ((O.gateRequest g).ty.encode 0) ∧
        d.get (O.gateRequest g) ≠ 0) ∧
    (∃ (g : Fin 6) (path : Fin 17) (d : Device),
        d.accepts path (O.gateAck g) g ((O.gateAck g).ty.encode 1)) :=
  ⟨⟨0, 16, unit [(O.tgState 0, 7)], by unfold Device.accepts; decide +kernel⟩,
   ⟨15, 16, unit [], by unfold Device.accepts; decide +kernel⟩,
   ⟨0, 16, unit [(O.tgEnable 0, 1)], by unfold Device.accepts; decide +kernel⟩,
   ⟨5, 16, 0, ({ unit [] with diodes := modAt (unit []).diodes 5 fun x => { x with vak := some (((0 : Int) : Rat) / 1000) } }), unit [], rfl, by unfold Device.accepts; decide +kernel⟩,
   ⟨0, 16, unit [(O.gateRequest 0, 1)], by unfold Device.accepts; decide +kernel⟩,
   ⟨0, 16, unit [(O.gateFault 0, 1)], by unfold Device.accepts; decide +kernel⟩⟩

/-- Witness of `DiodeGateCommandsHaveTheirEffect`: each of its clauses applies somewhere. -/
theorem witness_DiodeGateCommandsHaveTheirEffect :
    (∃ (g : Fin 6) (d : Device),
        d.gatePowered = true ∧
        d.get (O.gateMode g) = 1) ∧
    (∃ (g : Fin 6) (d : Device),
        d.gatePowered = true ∧
        d.get (O.gateMode g) = 1) ∧
    (∃ (g : Fin 6) (d : Device),
        d.gatePowered = true ∧
        d.get (O.gateMode g) = 2 ∧
        d.flag (O.conducting g) = true) ∧
    (∃ (g : Fin 6) (d : Device),
        d.gatePowered = true ∧
        d.get (O.gateMode g) = 2 ∧
        (d.flag (O.conducting g) = false ∨ d.drive g = .preBias)) ∧
    (∃ (g : Fin 6) (d : Device),
        d.gatePowered = true ∧
        d.get (O.gateMode g) = 2 ∧
        d.flag (O.conducting g) = true) ∧
    (∃ (g : Fin 6) (d : Device),
        d.gatePowered = true ∧
        d.flag (O.conducting g) = false ∧
        d.get (O.gateMode g) ≠ 1) ∧
    (∃ (step : Int) (m : BarStep) (d : Device),
        d.live = true ∧
        d.get O.bbStepMin * 100 ≤ |step|) :=
  ⟨⟨5, unit [(O.gateMode 5, 1)], by decide +kernel⟩,
   ⟨5, unit [(O.gateMode 5, 1)], by decide +kernel⟩,
   ⟨5, unit [(O.gateMode 5, 2), (O.conducting 5, 1)], by decide +kernel⟩,
   ⟨5, unit [(O.gateMode 5, 2)], by decide +kernel⟩,
   ⟨5, unit [(O.gateMode 5, 2), (O.conducting 5, 1)], by decide +kernel⟩,
   ⟨5, unit [(O.gateMode 5, 2)], by decide +kernel⟩,
   ⟨(-1000000), ⟨0, 0⟩, unit [], by decide +kernel⟩⟩

/-- Witness of `StringCommandsHaveTheirEffect`: each of its clauses applies somewhere. -/
theorem witness_StringCommandsHaveTheirEffect :
    (∃ (x : StringWires) (d : Device),
        d.live = true ∧
        d.strSt x.n = 1 ∧
        thermIn x.sth = true ∧
        400000 ≤ x.sid ∧
        x.sid ≤ 1400000) ∧
    (∃ (n : Fin 4) (sync : Byte) (rest : List Byte) (d : Device),
        d.live = true ∧
        (d.str n).reading = true) ∧
    (∃ (n : Fin 4) (d : Device),
        d.live = true ∧
        2 ≤ d.strSt n ∧
        (d.str n).reading = false) ∧
    (∃ (x : StringWires) (d : Device),
        d.live = true ∧
        2 ≤ d.strSt x.n ∧
        (thermIn x.sth = false ∨ ((d.str x.n).reading = false ∧ (1600000 < x.sid ∨ x.sid < 200000)))) ∧
    (∃ (n : Fin 4) (dt : Nat) (i : ChargerCurrent) (mean : Option Int) (d : Device),
        d.chargerMay n = true ∧
        (d.chargerRamp n dt mean).chargerTriggers n dt ((i.fire : Rat) / 1000) = true) ∧
    (∃ (o : ChargerOutput) (d : Device),
        d.sys.coreRunning = true ∧
        (d.get (O.cellCount o.n) * d.get (O.chargerOvCell o.n) * 1000 < o.chvo ∨ (o.chvo < 5000000 ∧ d.pins.chDrven.getD o.n false = true ∧ 0 < (d.str o.n).iset))) ∧
    (∃ (n : Fin 4) (d : Device),
        d.live = true ∧
        (d.str n).tripped = true ∧
        2 ≤ d.strSt n) ∧
    (∃ (n : Fin 4) (d : Device),
        d.geRuns = true ∧
        d.charging n = true ∧
        5 ≤ (d.str n).watch.sense) :=
  ⟨⟨⟨3, 36000, 1400000⟩, unit [(O.stringState 3, 1)], by decide +kernel⟩,
   ⟨3, 0, [], (unit [(O.stringState 3, 2)]).modStr 3 fun x => { x with reading := true }, by decide +kernel⟩,
   ⟨3, unit [(O.stringState 3, 2)], by decide +kernel⟩,
   ⟨⟨3, 1000000, 199999⟩, unit [(O.stringState 3, 2)], by decide +kernel⟩,
   ⟨3, 0, ⟨-1000000000, 0, 0⟩, none, ((unit [(O.stringState 3, 5), (O.chargeEnable, 1)]).modStr 3 fun x => { x with iset := 1, ir := 1000 }).modHold fun h => { h with vNow := 32 }, by decide +kernel⟩,
   ⟨⟨3, 1000000000⟩, base, by decide +kernel⟩,
   ⟨3, (unit [(O.stringState 3, 2)]).modStr 3 fun x => { x with tripped := true }, by decide +kernel⟩,
   ⟨3, (unit [(O.stringState 3, 4)]).modStr 3 fun x => { x with watch := { x.watch with sense := 5 } }, by decide +kernel⟩⟩

/-- Witness of `ChargeCommandsHaveTheirEffect`: each of its clauses applies somewhere. -/
theorem witness_ChargeCommandsHaveTheirEffect :
    (∃ (n : Fin 4) (d : Device),
        d.geRuns = true ∧
        d.strSt n = 4 ∧
        40000 ≤ (d.str n).watch.qualify) ∧
    (∃ (n : Fin 4) (d : Device),
        d.geRuns = true ∧
        d.strSt n = 4 ∧
        minutes (d.get (O.qualifyTimeout n)) ≤ d.elapsedNow n) ∧
    (∃ (n : Fin 4) (v : Int) (therm : List Int) (d : Device),
        d.geRuns = true ∧
        d.strSt n = 5) ∧
    (∃ (n : Fin 4) (causes : BitVec 4) (d : Device),
        d.geRuns = true ∧
        (d.strSt n = 5 ∨ d.strSt n = 6) ∧
        causes &&& BitVec.ofInt 4 (d.backupCauses n) ≠ 0) ∧
    (∃ (n : Fin 4) (d : Device),
        d.geRuns = true ∧
        d.strSt n = 6 ∧
        minutes (d.get (O.topoffTime n)) ≤ d.elapsedNow n) ∧
    (∃ (n : Fin 4) (d : Device),
        d.geRuns = true ∧
        d.strSt n = 7 ∧
        (d.get (O.rechargeCharge n) * 360000000 ≤ (d.str n).qMaintain - (d.str n).qInt ∨ 60 ≤ (d.str n).watch.low)) ∧
    (∃ (n : Fin 4) (d : Device),
        d.geRuns = true ∧
        d.present n = true ∧
        d.get (O.cutoffTime n) ≤ ((d.str n).watch.cut : Int)) ∧
    (∃ (n : Fin 4) (d : Device),
        d.geRuns = true ∧
        d.flag (O.cutoffHold n) = true ∧
        40000 ≤ (d.str n).watch.release) :=
  ⟨⟨3, (unit [(O.stringState 3, 4)]).modStr 3 fun x => { x with watch := { x.watch with qualify := 40000 } }, by decide +kernel⟩,
   ⟨3, charged 4, by decide +kernel⟩,
   ⟨3, 0, [], unit [(O.stringState 3, 5), (O.chargeEnable, 1)], by decide +kernel⟩,
   ⟨3, 4, charged 6, by decide +kernel⟩,
   ⟨3, charged 6, by decide +kernel⟩,
   ⟨3, (unit [(O.stringState 3, 7)]).modStr 3 fun x => { x with watch := { x.watch with low := 60 } }, by decide +kernel⟩,
   ⟨3, (unit [(O.stringState 3, 7)]).modStr 3 fun x => { x with watch := { x.watch with cut := 100000 } }, by decide +kernel⟩,
   ⟨3, (unit [(O.cutoffHold 3, 1)]).modStr 3 fun x => { x with watch := { x.watch with release := 40000 } }, by decide +kernel⟩⟩

/-- Witness of `StringWritesHaveTheirEffect`: each of its clauses applies somewhere. -/
theorem witness_StringWritesHaveTheirEffect :
    (∃ (n : Fin 4) (path : Fin 17) (d : Device),
        d.accepts path (O.stringAck n) n ((O.stringAck n).ty.encode 1)) ∧
    (∃ (n : Fin 4) (path : Fin 17) (d : Device),
        d.accepts path (O.stringEnable n) n ((O.stringEnable n).ty.encode 1) ∧
        d.get (O.stringEnable n) ≠ 1) ∧
    (∃ (n : Fin 4) (path : Fin 17) (d : Device),
        d.accepts path (O.stringEnable n) n ((O.stringEnable n).ty.encode 0) ∧
        d.get (O.stringEnable n) ≠ 0) ∧
    (∃ (path : Fin 17) (on : Bool) (d : Device),
        d.accepts path O.chargeEnable 0 (O.chargeEnable.ty.encode (b2i on))) ∧
    (∃ (n : Fin 4) (path : Fin 17) (d : Device),
        d.accepts path (O.forgetLearned n) n ((O.forgetLearned n).ty.encode 1)) :=
  ⟨⟨3, 16, unit [(O.stringState 3, 9)], by unfold Device.accepts; decide +kernel⟩,
   ⟨3, 16, unit [], by unfold Device.accepts; decide +kernel⟩,
   ⟨3, 16, unit [(O.stringEnable 3, 1)], by unfold Device.accepts; decide +kernel⟩,
   ⟨16, true, unit [], by unfold Device.accepts; decide +kernel⟩,
   ⟨3, 16, unit [], by unfold Device.accepts; decide +kernel⟩⟩

/-- Witness of `GaugeCommandsHaveTheirEffect`: each of its clauses applies somewhere. -/
theorem witness_GaugeCommandsHaveTheirEffect :
    (∃ (n : Fin 4) (m : GaugeIn) (d : Device),
        d.sys.coreRunning = true) ∧
    (∃ (n : Fin 4) (d : Device),
        d.live = true ∧
        8 ≤ (d.str n).overRun) ∧
    (∃ (v0 v1 v2 v3 : Int) (d : Device),
        d.geRuns = true) ∧
    (∃ (n : Fin 4) (old new : Int) (di r : Rat) (d : Device),
        d.geRuns = true ∧
        d.present n = true ∧
        (d.str n).watch.currentStep = some di ∧
        r = ((new - old : Int) : Rat) / 1000000 / di ∧
        (d.get O.rStepMin : Rat) / 10 ≤ |di| ∧
        0 < r ∧
        r ≤ 4 * d.rs n) ∧
    (∃ (n : Fin 4) (v : Int) (d : Device),
        d.geRuns = true ∧
        d.present n = true ∧
        (d.str n).rested = false ∧
        d.fullAnchored n = false ∧
        d.get O.restTime * 240000 ≤ ((d.str n).watch.rest : Int)) ∧
    (∃ (n : Fin 4) (d : Device),
        d.geRuns = true ∧
        d.present n = true ∧
        d.flag (O.disagree n) = false ∧
        (d.get O.disagreeLimit : Rat) / 10000 < d.disagreement n) ∧
    (∃ (n : Fin 4) (d : Device),
        d.geRuns = true ∧
        d.flag (O.disagree n) = true ∧
        d.disagreement n < (d.get O.disagreeLimit : Rat) / 20000) :=
  ⟨⟨3, sample, base, by decide +kernel⟩,
   ⟨3, (unit []).modStr 3 fun x => { x with overRun := 8 }, by decide +kernel⟩,
   ⟨0, 0, 0, 0, unit [], by decide +kernel⟩,
   ⟨3, 0, 1000000, 1000, 1 / 1000, stepped, by decide +kernel⟩,
   ⟨3, 0, (unit [(O.stringState 3, 3)]).modStr 3 fun x => { x with watch := { x.watch with rest := 10 ^ 12 } }, by decide +kernel⟩,
   ⟨3, (unit [(O.stringState 3, 3)]).modStr 3 fun x => { x with soc := 1 }, by decide +kernel⟩,
   ⟨3, unit [(O.disagree 3, 1)], by decide +kernel⟩⟩

/-- Witness of `CreditMessagesHaveTheirEffect`: each of its clauses applies somewhere. -/
theorem witness_CreditMessagesHaveTheirEffect :
    (∃ (fr : FrameIn) (sender receiver : BitVec 16) (id : BitVec 64) (amount : BitVec 32) (e : Device) (d : Device),
        d.get (O.sessionState fr.session) = 2 ∧
        d.bound fr.session fr.port fr.mac.toNat ∧
        (d.heard fr.port).seenSeq fr.session fr.seq.toNat = .fresh ∧
        e = (d.heard fr.port).takeSeq fr.session fr.seq.toNat ∧
        e.creditHeard fr.session = true) ∧
    (∃ (fr : FrameIn) (sender receiver : BitVec 16) (id : BitVec 64) (e : Device) (d : Device),
        d.get (O.sessionState fr.session) = 2 ∧
        d.bound fr.session fr.port fr.mac.toNat ∧
        (d.heard fr.port).seenSeq fr.session fr.seq.toNat = .fresh ∧
        e = (d.heard fr.port).takeSeq fr.session fr.seq.toNat ∧
        e.creditHeard fr.session = true) ∧
    (∃ (fr : FrameIn) (sender receiver : BitVec 16) (id : BitVec 64) (reason : BitVec 16) (e : Device) (d : Device),
        d.get (O.sessionState fr.session) = 2 ∧
        d.bound fr.session fr.port fr.mac.toNat ∧
        (d.heard fr.port).seenSeq fr.session fr.seq.toNat = .fresh ∧
        e = (d.heard fr.port).takeSeq fr.session fr.seq.toNat ∧
        e.creditHeard fr.session = true) ∧
    (∃ (fr : FrameIn) (sender receiver : BitVec 16) (id : BitVec 64) (e : Device) (d : Device),
        d.get (O.sessionState fr.session) = 2 ∧
        d.bound fr.session fr.port fr.mac.toNat ∧
        (d.heard fr.port).seenSeq fr.session fr.seq.toNat = .fresh ∧
        e = (d.heard fr.port).takeSeq fr.session fr.seq.toNat ∧
        e.creditHeard fr.session = true) ∧
    (∃ (fr : FrameIn) (sender receiver : BitVec 16) (id : BitVec 64) (e : Device) (d : Device),
        d.get (O.sessionState fr.session) = 2 ∧
        d.bound fr.session fr.port fr.mac.toNat ∧
        (d.heard fr.port).seenSeq fr.session fr.seq.toNat = .fresh ∧
        e = (d.heard fr.port).takeSeq fr.session fr.seq.toNat ∧
        e.creditHeard fr.session = true) ∧
    (∃ (fr : FrameIn) (sender receiver : BitVec 16) (id : BitVec 64) (amount : BitVec 32) (e : Device) (d : Device),
        d.get (O.sessionState fr.session) = 2 ∧
        d.bound fr.session fr.port fr.mac.toNat ∧
        (d.heard fr.port).seenSeq fr.session fr.seq.toNat = .fresh ∧
        e = (d.heard fr.port).takeSeq fr.session fr.seq.toNat ∧
        e.creditHeard fr.session = true) :=
  ⟨⟨fromPeer, 0, 0, 0, 0, _, peered, by decide +kernel, by unfold Device.bound; decide +kernel, by decide +kernel, rfl, by decide +kernel⟩,
   ⟨fromPeer, 0, 0, 0, _, peered, by decide +kernel, by unfold Device.bound; decide +kernel, by decide +kernel, rfl, by decide +kernel⟩,
   ⟨fromPeer, 0, 0, 0, 0, _, peered, by decide +kernel, by unfold Device.bound; decide +kernel, by decide +kernel, rfl, by decide +kernel⟩,
   ⟨fromPeer, 0, 0, 0, _, peered, by decide +kernel, by unfold Device.bound; decide +kernel, by decide +kernel, rfl, by decide +kernel⟩,
   ⟨fromPeer, 0, 0, 0, _, peered, by decide +kernel, by unfold Device.bound; decide +kernel, by decide +kernel, rfl, by decide +kernel⟩,
   ⟨fromPeer, 0, 0, 0, 0, _, peered, by decide +kernel, by unfold Device.bound; decide +kernel, by decide +kernel, rfl, by decide +kernel⟩⟩

/-- Witness of `CreditWritesHaveTheirEffect`: each of its clauses applies somewhere. -/
theorem witness_CreditWritesHaveTheirEffect :
    (∃ (path : Fin 17) (data : List Byte) (d : Device),
        d.accepts path O.transferOffer 0 data) ∧
    (∃ (path : Fin 17) (id : BitVec 64) (d : Device),
        d.accepts path O.transferWithdraw 0 (O.transferWithdraw.ty.encode id.toNat)) ∧
    (∃ (path : Fin 17) (id : BitVec 64) (d : Device),
        d.accepts path O.escrowResolve 0 (leBytes 8 id.toNat ++ [0, 0, 0, 0])) ∧
    (∃ (path : Fin 17) (id : BitVec 64) (d : Device),
        d.accepts path O.escrowResolve 0 (leBytes 8 id.toNat ++ [1, 0, 0, 0])) ∧
    (∃ (path : Fin 17) (id : BitVec 64) (d : Device),
        d.accepts path O.escrowResolve 0 (leBytes 8 id.toNat ++ [2, 0, 0, 0])) ∧
    (∃ (path : Fin 17) (id : BitVec 64) (d : Device),
        d.accepts path O.escrowResolve 0 (leBytes 8 id.toNat ++ [3, 0, 0, 0])) ∧
    (∃ (path : Fin 17) (amount : BitVec 32) (d : Device),
        d.accepts path O.ledgerAdjust 0 (O.ledgerAdjust.ty.encode amount.toInt)) ∧
    (∃ (path : Fin 17) (d : Device),
        d.accepts path O.ledgerAck 0 (O.ledgerAck.ty.encode 1)) :=
  ⟨⟨16, [1, 0, 0, 0, 1, 0, 0, 0], offering, by unfold Device.accepts; decide +kernel⟩,
   ⟨16, 0, (transfer true 1), by unfold Device.accepts; decide +kernel⟩,
   ⟨16, 0, (transfer true 1), by unfold Device.accepts; decide +kernel⟩,
   ⟨16, 0, (transfer true 1), by unfold Device.accepts; decide +kernel⟩,
   ⟨16, 0, (transfer false 5), by unfold Device.accepts; decide +kernel⟩,
   ⟨16, 0, (transfer false 5), by unfold Device.accepts; decide +kernel⟩,
   ⟨16, 130000, unit [], by unfold Device.accepts; decide +kernel⟩,
   ⟨16, unit [], by unfold Device.accepts; decide +kernel⟩⟩

/-- Witness of `RailCommandsHaveTheirEffect`: each of its clauses applies somewhere. -/
theorem witness_RailCommandsHaveTheirEffect :
    (∃ (r : Fin 24) (d : Device),
        d.scActive = true ∧
        d.railSt r = 1 ∧
        ((d.preds r).all fun p => d.railSt p == 4) = true) ∧
    (∃ (r : Fin 24) (d : Device),
        d.live = true ∧
        d.get (O.railKind r) ≠ 0 ∧
        d.flag (O.pgLevel r) = false ∧
        d.feedGood r = true) ∧
    (∃ (r : Fin 24) (d : Device),
        d.scActive = true ∧
        d.railSt r = 3 ∧
        d.flag (O.pgLevel r) = true) ∧
    (∃ (r : Fin 24) (d : Device),
        d.live = true ∧
        d.get (O.railKind r) ≠ 0 ∧
        d.flag (O.pgLevel r) = true ∧
        ((d.railFeed r).isNone = true ∨ d.feedGood r = false)) ∧
    (∃ (r : Fin 24) (d : Device),
        d.scActive = true ∧
        (d.railSt r = 2 ∨ d.railSt r = 3 ∨ d.railSt r = 5) ∧
        d.srcRetrying r = false ∧
        (d.rail r).down = false) ∧
    (∃ (r : Fin 24) (d : Device),
        d.scActive = true ∧
        (d.rail r).down = true ∧
        ((d.dependants r).all fun q => d.railSt q == 0) = true) ∧
    (∃ (r : Fin 24) (d : Device),
        d.scActive = true ∧
        d.railSt r = 6) ∧
    (∃ (r : Fin 24) (d : Device),
        d.scActive = true ∧
        d.get O.seqState = 3 ∧
        d.seq.retries.contains r.val = true ∧
        ((d.subtree r).all fun q => d.railSt q == 0) = true) ∧
    (∃ (d : Device),
        d.scActive = true ∧
        d.get O.seqState = 4 ∧
        d.allOff = true) ∧
    (∃ (r : Fin 24) (d : Device),
        d.scActive = true ∧
        ((d.subtree r).all fun q => d.railSt q == 4) = true) ∧
    (∃ (d : Device),
        d.scActive = true ∧
        d.get O.seqState = 2) :=
  ⟨⟨0, unit [(O.railState 0, 1)], by decide +kernel⟩,
   ⟨0, unit [(O.railKind 0, 1)], by decide +kernel⟩,
   ⟨0, unit [(O.railState 0, 3), (O.pgLevel 0, 1)], by decide +kernel⟩,
   ⟨0, unit [(O.railKind 0, 1), (O.pgLevel 0, 1)], by decide +kernel⟩,
   ⟨0, unit [(O.railState 0, 5)], by decide +kernel⟩,
   ⟨0, (unit [(O.railState 0, 4)]).modRail 0 fun x => { x with down := true }, by decide +kernel⟩,
   ⟨0, unit [(O.railState 0, 6)], by decide +kernel⟩,
   ⟨0, (unit [(O.seqState, 3)]).modSeq fun q => { q with retries := [0] }, by decide +kernel⟩,
   ⟨unit [(O.seqState, 4)], by decide +kernel⟩,
   ⟨0, unit [(O.railState 0, 4)], by decide +kernel⟩,
   ⟨unit [(O.seqState, 2)], by decide +kernel⟩⟩

/-- Witness of `SequencerLineCommandsHaveTheirEffect`: each of its clauses applies somewhere. -/
theorem witness_SequencerLineCommandsHaveTheirEffect :
    (∃ (d : Device),
        d.live = true ∧
        d.flag O.seqFltEnable = true ∧
        d.flag O.seqFltLine = true) ∧
    (∃ (d : Device),
        d.live = true ∧
        d.flag O.seqFltEnable = true ∧
        d.flag O.seqFltLine = false) ∧
    (∃ (d : Device),
        d.scActive = true ∧
        d.flag O.seqFltEnable = true ∧
        d.flag O.seqFltLine = true) ∧
    (∃ (d : Device),
        d.scActive = true ∧
        d.flag O.seqFltEnable = true ∧
        d.flag O.seqFltLine = false ∧
        d.seq.drive = false ∧
        d.seq.released = true ∧
        d.seq.stuckSaid = false) ∧
    (∃ (d : Device),
        d.seq.routePulse = true) ∧
    (∃ (i : Fin 8) (d : Device),
        d.live = true ∧
        d.rstCond i = true) ∧
    (∃ (path : Fin 17) (d : Device),
        d.accepts path O.seqEnable 0 (O.seqEnable.ty.encode 1)) ∧
    (∃ (path : Fin 17) (d : Device),
        d.accepts path O.seqEnable 0 (O.seqEnable.ty.encode 0)) ∧
    (∃ (path : Fin 17) (d : Device),
        d.accepts path O.seqAck 0 (O.seqAck.ty.encode 1)) :=
  ⟨⟨unit [(O.seqFltEnable, 1), (O.seqFltLine, 1)], by decide +kernel⟩,
   ⟨unit [(O.seqFltEnable, 1), (O.seqFltLine, 0)], by decide +kernel⟩,
   ⟨unit [(O.seqFltEnable, 1), (O.seqFltLine, 1)], by decide +kernel⟩,
   ⟨(unit [(O.seqFltEnable, 1), (O.seqFltLine, 0)]).modSeq fun q => { q with released := true }, by decide +kernel⟩,
   ⟨base.modSeq fun q => { q with routePulse := true }, by decide +kernel⟩,
   ⟨0, (unit [(O.rstMask 0, 1), (O.railKind 0, 1), (O.railState 0, 4)]).modRail 0 fun x => { x with up := true }, by decide +kernel⟩,
   ⟨16, unit [], by unfold Device.accepts; decide +kernel⟩,
   ⟨16, unit [], by unfold Device.accepts; decide +kernel⟩,
   ⟨16, unit [(O.seqState, 8)], by unfold Device.accepts; decide +kernel⟩⟩

/-- Witness of `WindowCommandsHaveTheirEffect`: each of its clauses applies somewhere. -/
theorem witness_WindowCommandsHaveTheirEffect :
    (∃ (tick : Fin 22) (codes : List Int) (d : Device),
        d.sys.coreRunning = true) ∧
    (∃ (j : Fin 4) (d : Device),
        d.sys.coreRunning = true ∧
        d.flag (O.timerRunning j) = true) ∧
    (∃ (u : Fin 64) (path : Fin 17) (d : Device),
        d.accepts path (O.clear u) u ((O.clear u).ty.encode 1)) ∧
    (∃ (path : Fin 17) (mask : BitVec 64) (d : Device),
        d.accepts path O.latchClearMask 0 (O.latchClearMask.ty.encode mask.toNat)) ∧
    (∃ (u : Fin 8) (path : Fin 17) (flags : Byte) (d : Device),
        d.accepts path (O.edgeClear u) u ((O.edgeClear u).ty.encode flags.toNat)) ∧
    (∃ (u : Fin 64) (path : Fin 17) (hold : Bool) (d : Device),
        d.accepts path (O.routeHold u) u ((O.routeHold u).ty.encode (b2i hold))) ∧
    (∃ (path : Fin 17) (d : Device),
        d.accepts path O.routerEnable 0 (O.routerEnable.ty.encode 1)) :=
  ⟨⟨0, [], base, by decide +kernel⟩,
   ⟨3, unit [(O.timerRunning 3, 1)], by decide +kernel⟩,
   ⟨63, 16, unit [], by unfold Device.accepts; decide +kernel⟩,
   ⟨16, 0, unit [], by unfold Device.accepts; decide +kernel⟩,
   ⟨7, 16, 0, unit [], by unfold Device.accepts; decide +kernel⟩,
   ⟨0, 16, true, unit [], by unfold Device.accepts; decide +kernel⟩,
   ⟨16, unit [], by unfold Device.accepts; decide +kernel⟩⟩

/-- Witness of `FaultAndThermalCommandsHaveTheirEffect`: each of its clauses applies somewhere. -/
theorem witness_FaultAndThermalCommandsHaveTheirEffect :
    (∃ (b : Fin 96) (path : Fin 17) (d : Device),
        d.accepts path (O.faultAck b) b ((O.faultAck b).ty.encode 1)) ∧
    (∃ (sample : Option Int) (d : Device),
        d.sys.coreRunning = true ∧
        d.runs engGD = true) ∧
    (∃ (d : Device),
        d.sys.coreRunning = true ∧
        d.runs engGD = true ∧
        d.flag O.sensorFault = false ∧
        d.therm.samples.length = 2000) ∧
    (∃ (d : Device),
        d.sys.vdd = true) ∧
    (∃ (d : Device),
        d.sys.coreRunning = true ∧
        d.flag O.controllerClassA = true ∧
        d.get O.classABlock = 84 ∧
        d.get O.classACode = 0x0902) :=
  ⟨⟨95, 16, (unit []).modFault 95 fun f => { f with cOpen := true }, by unfold Device.accepts; decide +kernel⟩,
   ⟨none, unit [], by decide +kernel⟩,
   ⟨{ unit [] with therm := { (unit []).therm with samples := List.replicate 2000 0 } }, by decide +kernel⟩,
   ⟨base, by decide +kernel⟩,
   ⟨unit [(O.controllerClassA, 1), (O.classABlock, 84), (O.classACode, 0x0902)], by decide +kernel⟩⟩

/-- Witness of `SessionCommandsHaveTheirEffect`: each of its clauses applies somewhere. -/
theorem witness_SessionCommandsHaveTheirEffect :
    (∃ (p : Fin 2) (mac : BitVec 48) (slot mode : Byte) (nonce : List Byte) (tag : OpenTag) (key : List Byte) (d : Device),
        d.portHears p = true ∧
        (d.portHeard p).slotKey slot.toNat = some key ∧
        tag.verified = true ∧
        (d.heard p).openCopy slot.toNat (fit 16 nonce) = false) ∧
    (∃ (p : Fin 2) (mac : BitVec 48) (slot mode : Byte) (nonce : List Byte) (tag : OpenTag) (key : List Byte) (d : Device),
        d.portHears p = true ∧
        (d.portHeard p).slotKey slot.toNat = some key ∧
        tag.verified = false) ∧
    (∃ (p : Fin 2) (mac : BitVec 48) (slot mode : Byte) (nonce : List Byte) (tag : OpenTag) (d : Device),
        d.portHears p = true ∧
        (d.portHeard p).slotKey slot.toNat = none) ∧
    (∃ (h : Fin 16) (p : Fin 2) (mac : BitVec 48) (id : BitVec 32) (result mode : Byte) (nonceC nonceH : List Byte) (d : Device),
        d.bound h p mac.toNat ∧
        (d.heard p).get (O.sessionState h) = 1 ∧
        ((d.heard p).session h).opener = true ∧
        fit 16 nonceH = ((d.heard p).session h).nonce ∧
        result = 0) ∧
    (∃ (h : Fin 16) (p : Fin 2) (mac : BitVec 48) (d : Device),
        (d.session h).opener = false ∧
        d.bound h p mac.toNat ∧
        (d.heard p).seenSeq h 1 = .fresh ∧
        ((d.heard p).takeSeq h 1).get (O.sessionState h) = 1) ∧
    (∃ (h : Fin 16) (p : Fin 2) (mac : BitVec 48) (d : Device),
        (d.session h).opener = false ∧
        d.bound h p mac.toNat ∧
        (d.heard p).seenSeq h 1 = .duplicate) ∧
    (∃ (h : Fin 16) (p : Fin 2) (mac : BitVec 48) (seq : BitVec 32) (reason : Byte) (d : Device),
        d.get (O.sessionState h) = 2 ∧
        d.bound h p mac.toNat ∧
        (d.heard p).seenSeq h seq.toNat = .fresh) ∧
    (∃ (h : Fin 16) (d : Device),
        d.get (O.sessionState h) = 1) ∧
    (∃ (h : Fin 16) (d : Device),
        d.get (O.sessionState h) = 2 ∧
        ((d.session h).requests.any fun r => r.ops.any fun o => o.op.isWait && o.started && o.result.isNone) = false) ∧
    (∃ (i : Fin 16) (ports : List Nat) (key : List Byte) (c : Device) (e : Nat) (d : Device),
        (([0, 1] : List Nat).filter fun p => d.portHears p && d.connected p && d.applied p) = ports ∧
        ports ≠ [] ∧
        d.peerSet i = true ∧
        d.get O.shelfId < d.get (O.peerShelfId i) ∧
        d.get (O.peerSession i) = 0xFF ∧
        d.slotKey (d.getN (O.peerKeySlot i)) = some key ∧
        (d.forAll (List.range 16) fun s d => d.when ((d.session s).opener && (d.session s).peer == some i.val && d.get (O.sessionState s) == 1) fun d => d.freeSession s) = c ∧
        c.freeEntry = some e) :=
  ⟨⟨1, 0, 7, 0, [], ⟨true, 0⟩, [1], wired [], by decide +kernel⟩,
   ⟨1, 0, 7, 0, [], ⟨false, 0⟩, [1], wired [], by decide +kernel⟩,
   ⟨0, 0, 8, 0, [], ⟨true, 0⟩, wired [], by decide +kernel⟩,
   ⟨0, 0, 5, 0, 0, 0, [], [], (session 1).modSession 0 fun x => { x with opener := true, nonce := fit 16 [] }, by unfold Device.bound; decide +kernel⟩,
   ⟨0, 0, 5, session 1, by unfold Device.bound; decide +kernel⟩,
   ⟨0, 0, 5, ((session 2).set (O.rxSeqHigh 0) 1).set (O.replayMask 0) 1, by unfold Device.bound; decide +kernel⟩,
   ⟨0, 0, 5, 1, 0, session 2, by unfold Device.bound; decide +kernel⟩,
   ⟨0, session 1, by decide +kernel⟩,
   ⟨0, session 2, by decide +kernel⟩,
   ⟨15, [1], [1], peerReady, 0, peerReady, by decide +kernel, by decide +kernel, by decide +kernel, by decide +kernel, by decide +kernel, by decide +kernel, peerReady_frees_none, by decide +kernel⟩⟩

/-- Witness of `RequestCommandsHaveTheirEffect`: each of its clauses applies somewhere. -/
theorem witness_RequestCommandsHaveTheirEffect :
    (∃ (h : Fin 16) (p : Fin 2) (mac : BitVec 48) (seq : BitVec 32) (fence retry soon : Bool) (body : List Byte) (d : Device),
        d.get (O.sessionState h) = 2 ∧
        d.bound h p mac.toNat ∧
        (d.heard p).seenSeq h seq.toNat = .fresh) ∧
    (∃ (h : Fin 16) (p : Fin 2) (mac : BitVec 48) (seq : BitVec 32) (fence retry soon : Bool) (body : List Byte) (d : Device),
        d.get (O.sessionState h) = 2 ∧
        d.bound h p mac.toNat ∧
        (d.heard p).seenSeq h seq.toNat = .duplicate ∧
        retry = true) ∧
    (∃ (h : Fin 16) (seq : BitVec 32) (i : Fin 16) (ix : BitVec 16) (sb : Byte) (d : Device),
        d.mayStart h seq.toNat i (.read ix sb)) ∧
    (∃ (h : Fin 16) (seq : BitVec 32) (i : Fin 16) (stored : Bool) (ix : BitVec 16) (sb : Byte) (v : List Byte) (d : Device),
        d.mayStart h seq.toNat i (.write ix sb v)) ∧
    (∃ (h : Fin 16) (seq : BitVec 32) (i : Fin 16) (d : Device),
        d.mayStart h seq.toNat i .nop) ∧
    (∃ (h : Fin 16) (seq : BitVec 32) (i : Fin 16) (ix : BitVec 16) (sb : Byte) (c m t : BitVec 32) (d : Device),
        d.mayStart h seq.toNat i (.wait ix sb c m t) ∧
        d.waitBad ix.toNat sb.toNat t = 0) ∧
    (∃ (h : Fin 16) (seq : BitVec 32) (i : Fin 16) (ix : BitVec 16) (sb : Byte) (c m t : BitVec 32) (d : Device),
        d.mayStart h seq.toNat i (.wait ix sb c m t) ∧
        d.waitBad ix.toNat sb.toNat t ≠ 0) ∧
    (∃ (h : Fin 16) (seq : BitVec 32) (i : Fin 16) (r : Req) (ix : BitVec 16) (sb : Byte) (c m t : BitVec 32) (d : Device),
        d.pathOpen h = true ∧
        d.opAt h seq.toNat i = some (r, ⟨.wait ix sb c m t, true, none⟩) ∧
        (d.readObject h ix.toNat sb.toNat).1 = 0 ∧
        waitMet (d.readObject h ix.toNat sb.toNat).2.1 c m = true) ∧
    (∃ (h : Fin 16) (seq : BitVec 32) (i : Fin 16) (r : Req) (ix : BitVec 16) (sb : Byte) (c m t : BitVec 32) (d : Device),
        d.pathOpen h = true ∧
        d.opAt h seq.toNat i = some (r, ⟨.wait ix sb c m t, true, none⟩) ∧
        (match ownerBlock ix.toNat with | some b => d.retryingNow b | none => false) = false) ∧
    (∃ (h : Fin 16) (p : Fin 2) (mac : BitVec 48) (seq acked : BitVec 32) (d : Device),
        d.get (O.sessionState h) = 2 ∧
        d.bound h p mac.toNat ∧
        (d.heard p).seenSeq h seq.toNat = .fresh) ∧
    (∃ (h : Fin 16) (seq : BitVec 32) (d : Device),
        d.get (O.sessionState h) = 2) :=
  ⟨⟨0, 0, 5, 1, true, true, true, [], session 2, by unfold Device.bound; decide +kernel⟩,
   ⟨0, 0, 5, 1, true, true, true, [], ((session 2).set (O.rxSeqHigh 0) 1).set (O.replayMask 0) 1, by unfold Device.bound; decide +kernel⟩,
   ⟨0, 1, 0, 0x1000, 0, asked (fresh [.read 0x1000 0]), ⟨by decide +kernel, (fresh [.read 0x1000 0]), by decide +kernel, by decide +kernel⟩⟩,
   ⟨0, 1, 0, true, 0x1000, 0, [], asked (fresh [.write 0x1000 0 []]), ⟨by decide +kernel, (fresh [.write 0x1000 0 []]), by decide +kernel, by decide +kernel⟩⟩,
   ⟨0, 1, 0, asked (fresh [.nop]), ⟨by decide +kernel, (fresh [.nop]), by decide +kernel, by decide +kernel⟩⟩,
   ⟨0, 1, 0, 0x2001, 0, 1, 1, 0, asked (fresh [.wait 0x2001 0 1 1 0]), ⟨by decide +kernel, (fresh [.wait 0x2001 0 1 1 0]), by decide +kernel, by decide +kernel⟩, by decide +kernel⟩,
   ⟨0, 1, 0, 0x1FFF, 0, 1, 1, 0, asked (fresh [.wait 0x1FFF 0 1 1 0]), ⟨by decide +kernel, (fresh [.wait 0x1FFF 0 1 1 0]), by decide +kernel, by decide +kernel⟩, by decide +kernel⟩,
   ⟨0, 1, 0, (waiting 0), 0x2001, 0, 0, 1, 0, asked (waiting 0), by decide +kernel⟩,
   ⟨0, 1, 0, (waiting 1), 0x2001, 0, 1, 1, 0, asked (waiting 1), by decide +kernel⟩,
   ⟨0, 0, 5, 1, 0, session 2, by unfold Device.bound; decide +kernel⟩,
   ⟨0, 0, session 2, by decide +kernel⟩⟩

/-- Witness of `PortCommandsHaveTheirEffect`: each of its clauses applies somewhere. -/
theorem witness_PortCommandsHaveTheirEffect :
    (∃ (p : Fin 2) (second : Nat) (d : Device),
        d.portHears p = true) ∧
    (∃ (p : Fin 2) (d : Device),
        d.portHears p = true) ∧
    (∃ (p : Fin 2) (d : Device),
        d.portHears p = true) ∧
    (∃ (p : Fin 2) (d : Device),
        d.portHears p = true) ∧
    (∃ (p : Fin 2) (d : Device),
        d.portHears p = true ∧
        1 ≤ (d.netPort p).id ∧
        (d.netPort p).id ≤ 31 ∧
        (d.netPort p).fellBack = false) ∧
    (∃ (p : Fin 2) (d : Device),
        d.portHears p = true ∧
        (d.netPort p).fellBack = true) ∧
    (∃ (p : Fin 2) (d : Device),
        d.portHears p = true ∧
        (d.netPort p).silent = false) ∧
    (∃ (p : Fin 2) (echo : Option Nat) (fault : Fin 3) (d : Device),
        d.portHears p = true ∧
        (d.netPort p).measuring = true) :=
  ⟨⟨1, 0, wired [], by decide +kernel⟩,
   ⟨0, wired [], by decide +kernel⟩,
   ⟨0, wired [], by decide +kernel⟩,
   ⟨0, wired [], by decide +kernel⟩,
   ⟨0, (wired []).modNetPort 0 fun x => { x with id := 31 }, by decide +kernel⟩,
   ⟨0, (wired []).modNetPort 0 fun x => { x with fellBack := true }, by decide +kernel⟩,
   ⟨0, (wired []).modNetPort 0 fun x => { x with silent := false }, by decide +kernel⟩,
   ⟨0, none, 0, (wired []).modNetPort 0 fun x => { x with measuring := true }, by decide +kernel⟩⟩

/-- Witness of `NetworkWritesHaveTheirEffect`: each of its clauses applies somewhere. -/
theorem witness_NetworkWritesHaveTheirEffect :
    (∃ (p : Fin 2) (path : Fin 17) (d : Device),
        d.accepts path (O.segmentMeasure p) p ((O.segmentMeasure p).ty.encode 1)) ∧
    (∃ (path : Fin 17) (pair : List Byte) (d : Device),
        d.accepts path O.wallClockSync 0 pair) ∧
    (∃ (slot : Fin 8) (path : Fin 17) (key : List Byte) (d : Device),
        d.accepts path (O.key slot) slot key) ∧
    (∃ (slot : Fin 8) (path : Fin 17) (d : Device),
        d.accepts path (O.keyClear slot) slot ((O.keyClear slot).ty.encode 1)) ∧
    (∃ (slot : Fin 8) (path : Fin 17) (rights : BitVec 16) (d : Device),
        d.accepts path (O.rights slot) slot ((O.rights slot).ty.encode rights.toNat)) :=
  ⟨⟨1, 16, unit [], by unfold Device.accepts; decide +kernel⟩,
   ⟨16, (List.replicate 16 0), unit [], by unfold Device.accepts; decide +kernel⟩,
   ⟨7, 16, (List.replicate 32 7), unit [], by unfold Device.accepts; decide +kernel⟩,
   ⟨0, 16, unit [], by unfold Device.accepts; decide +kernel⟩,
   ⟨0, 16, 0xFFFF, unit [], by unfold Device.accepts; decide +kernel⟩⟩

/-- Witness of `DictionaryCommandsHaveTheirEffect`: each of its clauses applies somewhere. -/
theorem witness_DictionaryCommandsHaveTheirEffect :
    (∃ (path : Fin 17) (index : BitVec 16) (sub : Byte) (data : List Byte) (stored : Bool) (o : Obj) (k : Nat) (d : Device),
        locate index.toNat sub.toNat = .obj o k ∧
        o.index = index.toNat ∧
        o.sub = sub.toNat ∧
        d.accepts path o k data ∧
        o.apply ≠ .A) ∧
    (∃ (path : Fin 17) (index : BitVec 16) (sub : Byte) (data : List Byte) (stored : Bool) (o : Obj) (k : Nat) (d : Device),
        locate index.toNat sub.toNat = .obj o k ∧
        o.index = index.toNat ∧
        o.sub = sub.toNat ∧
        d.accepts path o k data ∧
        o.apply = .A) ∧
    (∃ (path : Fin 17) (index : BitVec 16) (sub : Byte) (data : List Byte) (stored : Bool) (o : Obj) (k : Nat) (d : Device),
        locate index.toNat sub.toNat = .obj o k ∧
        o.index = index.toNat ∧
        o.sub = sub.toNat ∧
        d.mayWrite path o.index o.sub = true ∧
        ((o.access = .rws ∧ o.apply = .L) → d.stagedOf path = none) ∧
        d.writeBad path o k data = 0 ∧
        o.apply ≠ .A ∧
        d.sys.brownOut = true ∧
        mramWrite o k (o.kept (o.ty.decode data)) = true) ∧
    (∃ (path : Fin 17) (index : BitVec 16) (sub : Byte) (data : List Byte) (stored : Bool) (o : Obj) (k : Nat) (l : List Pending) (d : Device),
        locate index.toNat sub.toNat = .obj o k ∧
        d.mayWrite path index.toNat sub.toNat = true ∧
        o.access = .rws ∧
        o.apply = .L ∧
        d.stagedOf path = some l) ∧
    (∃ (path : Fin 17) (d : Device),
        d.accepts path O.commit 0 (O.commit.ty.encode 1) ∧
        d.dict.staged = none) ∧
    (∃ (path : Fin 17) (l : List Pending) (d : Device),
        d.accepts path O.commit 0 (O.commit.ty.encode 2) ∧
        d.stagedOf path = some l) ∧
    (∃ (path : Fin 17) (l : List Pending) (d : Device),
        d.accepts path O.commit 0 (O.commit.ty.encode 3) ∧
        d.stagedOf path = some l) ∧
    (∃ (d : Device),
        d.sys.coreRunning = true ∧
        d.dict.staged.isSome = true) ∧
    (∃ (path : Fin 17) (value : Byte) (d : Device),
        d.accepts path O.fence 0 (O.fence.ty.encode value.toNat)) ∧
    (∃ (path : Fin 17) (value : Byte) (d : Device),
        d.accepts path O.snapshotFence 0 (O.snapshotFence.ty.encode value.toNat)) ∧
    (∃ (path : Fin 17) (value : BitVec 32) (d : Device),
        d.accepts path O.factoryRestore 0 (O.factoryRestore.ty.encode value.toNat) ∧
        d.restoreRefused = false) :=
  ⟨⟨16, 0x2001, 0, [1], true, O.lineTrackEnable, 0, unit [], by unfold Device.accepts; decide +kernel⟩,
   ⟨16, 0x2020, 2, [0, 1], true, O.zoneLength, 0, unit [], by unfold Device.accepts; decide +kernel⟩,
   ⟨16, 0x1400, 4, [1], true, O.keyClear 0, 0, { unit [] with sys := { (unit []).sys with brownOut := true } }, by decide +kernel⟩,
   ⟨16, 0x2001, 0, [1], true, O.lineTrackEnable, 0, [], staging 16, by decide +kernel⟩,
   ⟨16, unit [], by unfold Device.accepts; decide +kernel⟩,
   ⟨16, [], staging 16, by unfold Device.accepts; decide +kernel⟩,
   ⟨16, [], staging 16, by unfold Device.accepts; decide +kernel⟩,
   ⟨staging 3, by decide +kernel⟩,
   ⟨16, 0, unit [], by unfold Device.accepts; decide +kernel⟩,
   ⟨16, 0, unit [], by unfold Device.accepts; decide +kernel⟩,
   ⟨16, 1413693766, unit [], by unfold Device.accepts; decide +kernel⟩⟩

/-- Witness of `ManagementCommandsHaveTheirEffect`: each of its clauses applies somewhere. -/
theorem witness_ManagementCommandsHaveTheirEffect :
    (∃ (data : List Byte) (d : Device),
        d.sys.vaon = true ∧
        (d.sys.coreRunning = true ∨ d.sys.standby = 2)) ∧
    (∃ (ns : Nat) (m : PowerUp) (d : Device),
        d.sys.standby = 1) ∧
    (∃ (d : Device),
        d.sys.standby = 1) ∧
    (∃ (d : Device),
        d.sys.vaon = true) ∧
    (∃ (d : Device),
        d.pathOpen 16 = true ∧
        d.mgmt.winState = 1 ∧
        d.mgmt.winOp = 1 ∧
        d.mgmt.result = none) ∧
    (∃ (stored : Bool) (d : Device),
        d.pathOpen 16 = true ∧
        d.mgmt.winState = 1 ∧
        d.mgmt.winOp = 2 ∧
        d.mgmt.started = false) ∧
    (∃ (d : Device),
        d.sys.coreRunning = true ∧
        d.runs engNE = true ∧
        d.mgmt.winState = 1) ∧
    (∃ (mask : BitVec 16) (d : Device),
        d.sys.vaon = true ∧
        d.sys.coreRunning = true) ∧
    (∃ (d : Device),
        d.live = true ∧
        d.runs 15 = true) :=
  ⟨⟨[], base, by decide +kernel⟩,
   ⟨0, board, { base with sys := { base.sys with standby := 1 } }, by decide +kernel⟩,
   ⟨{ base with sys := { base.sys with standby := 1 } }, by decide +kernel⟩,
   ⟨base, by decide +kernel⟩,
   ⟨window 1, by decide +kernel⟩,
   ⟨true, window 2, by decide +kernel⟩,
   ⟨window 1, by decide +kernel⟩,
   ⟨0, base, by decide +kernel⟩,
   ⟨unit [], by decide +kernel⟩⟩

/-- Witness of `MemoryCommandsHaveTheirEffect`: each of its clauses applies somewhere. -/
theorem witness_MemoryCommandsHaveTheirEffect :
    (∃ (ok : Bool) (d : Device),
        d.sys.coreRunning = true ∧
        d.get O.ddrState = 1) ∧
    (∃ (d : Device),
        d.sys.coreRunning = true ∧
        (d.get O.ddrState = 3 ∨ d.get O.ddrState = 4)) ∧
    (∃ (again : Bool) (d : Device),
        d.sys.coreRunning = true ∧
        d.get O.ddrState = 2) ∧
    (∃ (mram : Bool) (upset : List Byte) (holds : Region) (inSecond : Nat) (d : Device),
        d.sys.coreRunning = true ∧
        (mram = true ∨ d.get O.ddrState = 2)) ∧
    (∃ (d : Device),
        d.sys.coreRunning = true ∧
        d.get O.ddrState = 2) ∧
    (∃ (d : Device),
        d.sys.coreRunning = true ∧
        d.get O.ddrState = 2) :=
  ⟨⟨true, unit [(O.ddrState, 1)], by decide +kernel⟩,
   ⟨unit [(O.ddrState, 4)], by decide +kernel⟩,
   ⟨true, unit [(O.ddrState, 2)], by decide +kernel⟩,
   ⟨false, [], .other, 0, unit [(O.ddrState, 2)], by decide +kernel⟩,
   ⟨unit [(O.ddrState, 2)], by decide +kernel⟩,
   ⟨unit [(O.ddrState, 2)], by decide +kernel⟩⟩

/-- Witness of `LaneCommandsHaveTheirEffect`: each of its clauses applies somewhere. -/
theorem witness_LaneCommandsHaveTheirEffect :
    (∃ (q : Fin 128) (path : Fin 17) (data : List Byte) (d : Device),
        d.accepts path (O.pushSegment q) q data) ∧
    (∃ (q : Fin 128) (path : Fin 17) (d : Device),
        d.accepts path (O.claim q) q ((O.claim q).ty.encode 1)) ∧
    (∃ (q : Fin 128) (path : Fin 17) (seq : BitVec 32) (d : Device),
        d.accepts path (O.release q) q ((O.release q).ty.encode seq.toNat)) ∧
    (∃ (q : Fin 128) (path : Fin 17) (d : Device),
        d.accepts path (O.laneEnable q) q ((O.laneEnable q).ty.encode 0)) ∧
    (∃ (q : Fin 128) (d : Device),
        d.sys.coreRunning = true ∧
        d.get (O.idleTime q) ≠ 0 ∧
        (d.lane q).items.isEmpty = false ∧
        d.flag (O.laneIdle q) = false) :=
  ⟨⟨127, 16, [3, 0, 0, 0, 1, 2, 3, 4], unit [(O.laneEnable 127, 1), (O.wordSize 127, 4)], by unfold Device.accepts; decide +kernel⟩,
   ⟨127, 16, laneHeld, by unfold Device.accepts; decide +kernel⟩,
   ⟨127, 16, 1, laneClaimed, by unfold Device.accepts; decide +kernel⟩,
   ⟨127, 16, unit [], by unfold Device.accepts; decide +kernel⟩,
   ⟨127, (laneHeld).set (O.idleTime 127) 1, by decide +kernel⟩⟩

/-- Witness of `RecorderCommandsHaveTheirEffect`: each of its clauses applies somewhere. -/
theorem witness_RecorderCommandsHaveTheirEffect :
    (∃ (d : Device),
        d.sys.coreRunning = true ∧
        d.runs engBE = true ∧
        d.sys.brownOut = false) ∧
    (∃ (path : Fin 17) (d : Device),
        d.accepts path O.freeze 0 (O.freeze.ty.encode 1)) ∧
    (∃ (path : Fin 17) (d : Device),
        d.accepts path O.freeze 0 (O.freeze.ty.encode 0)) ∧
    (∃ (d : Device),
        d.sys.coreRunning = true ∧
        d.flag O.frozen = true) ∧
    (∃ (path : Fin 17) (key : List Byte) (d : Device),
        d.accepts path O.clearKey 0 key) ∧
    (∃ (path : Fin 17) (d : Device),
        d.accepts path O.clearRequest 0 (O.clearRequest.ty.encode 1)) ∧
    (∃ (path : Fin 17) (mac : List Byte) (d : Device),
        d.accepts path O.clearResponse 0 mac) :=
  ⟨⟨unit [], by decide +kernel⟩,
   ⟨16, unit [], by unfold Device.accepts; decide +kernel⟩,
   ⟨16, unit [], by unfold Device.accepts; decide +kernel⟩,
   ⟨unit [(O.frozen, 1)], by decide +kernel⟩,
   ⟨16, (List.replicate 32 7), unit [], by unfold Device.accepts; decide +kernel⟩,
   ⟨16, keyed, by unfold Device.accepts; decide +kernel⟩,
   ⟨16, (challenged.clearAnswer.getD []), challenged, challenged_answer⟩⟩

/-- Witness of `PhotoFinishCommandsHaveTheirEffect`: each of its clauses applies somewhere. -/
theorem witness_PhotoFinishCommandsHaveTheirEffect :
    (∃ (words : List Nat) (d : Device),
        d.sys.coreRunning = true ∧
        d.runs engBE = true ∧
        d.get O.ddrState = 2) ∧
    (∃ (d : Device),
        d.sys.coreRunning = true ∧
        d.runs engBE = true ∧
        d.get O.pfState = 2 ∧
        d.getN O.pfPostFrames ≤ (d.pfSlot (d.getN O.liveSlot)).post.length) ∧
    (∃ (path : Fin 17) (d : Device),
        d.accepts path O.pfTrigger 0 (O.pfTrigger.ty.encode 1)) ∧
    (∃ (path : Fin 17) (d : Device),
        d.accepts path O.pfEnable 0 (O.pfEnable.ty.encode 1) ∧
        d.get O.pfEnable ≠ 1) ∧
    (∃ (path : Fin 17) (d : Device),
        d.accepts path O.pfEnable 0 (O.pfEnable.ty.encode 0) ∧
        d.get O.pfEnable ≠ 0) ∧
    (∃ (path : Fin 17) (slot : Byte) (d : Device),
        d.accepts path O.pfRelease 0 (O.pfRelease.ty.encode slot.toNat)) :=
  ⟨⟨[], unit [(O.ddrState, 2)], by decide +kernel⟩,
   ⟨(unit [(O.pfState, 2), (O.liveSlot, 15), (O.pfPostFrames, 1)]).modPf 15 fun x => { x with post := [(0, [])] }, by decide +kernel⟩,
   ⟨16, unit [], by unfold Device.accepts; decide +kernel⟩,
   ⟨16, unit [], by unfold Device.accepts; decide +kernel⟩,
   ⟨16, unit [(O.pfEnable, 1)], by unfold Device.accepts; decide +kernel⟩,
   ⟨16, 15, (unit []).modPf 15 fun x => { x with state := 4 }, by unfold Device.accepts; decide +kernel⟩⟩

/-- Witness of `StartCommandsHaveTheirEffect`: each of its clauses applies somewhere. -/
theorem witness_StartCommandsHaveTheirEffect :
    (∃ (d : Device),
        (d.autostarting = true ∨ d.lastStep = true)) ∧
    (∃ (d : Device),
        d.autostarting = true ∧
        d.get O.autostartStep = 3 ∧
        d.eng.applied = true ∧
        d.lineReady = false ∧
        (d.eng.waitFromLap : Int) + d.get O.lockWaitLaps ≤ d.lap) ∧
    (∃ (d : Device),
        d.sys.coreRunning = true ∧
        d.flag O.seqRetrying = false) ∧
    (∃ (path : Fin 17) (d : Device),
        d.accepts path O.standbyRequest 0 (O.standbyRequest.ty.encode 1)) ∧
    (∃ (path : Fin 17) (data : List Byte) (d : Device),
        d.accepts path O.packageWrite 0 data) ∧
    (∃ (path : Fin 17) (d : Device),
        d.accepts path O.packageVerify 0 (O.packageVerify.ty.encode 1)) ∧
    (∃ (d : Device),
        d.sys.coreRunning = true) ∧
    (∃ (path : Fin 17) (d : Device),
        d.accepts path O.packageInstall 0 (O.packageInstall.ty.encode 1)) ∧
    (∃ (ok : Bool) (d : Device),
        d.sys.coreRunning = true ∧
        d.sys.brownOut = false) ∧
    (∃ (path : Fin 17) (d : Device),
        d.accepts path O.packageDiscard 0 (O.packageDiscard.ty.encode 1)) :=
  ⟨⟨unit [(O.autostartState, 1)], by decide +kernel⟩,
   ⟨{ unit [(O.autostartState, 1), (O.autostartStep, 3)] with eng := { Engines.reset with applied := true }, tb := { Timebase.reset with stamp := 2 ^ 60 } }, by decide +kernel⟩,
   ⟨unit [], by decide +kernel⟩,
   ⟨16, unit [], by unfold Device.accepts; decide +kernel⟩,
   ⟨16, (leBytes 4 0 ++ [1]), unit [], by unfold Device.accepts; decide +kernel⟩,
   ⟨16, unit [], by unfold Device.accepts; decide +kernel⟩,
   ⟨base, by decide +kernel⟩,
   ⟨16, unit [(O.packageState, 2)], by unfold Device.accepts; decide +kernel⟩,
   ⟨true, base, by decide +kernel⟩,
   ⟨16, unit [], by unfold Device.accepts; decide +kernel⟩⟩

/-- Witness of `EngineCommandsHaveTheirEffect`: each of its clauses applies somewhere. -/
theorem witness_EngineCommandsHaveTheirEffect :
    (∃ (e : Fin 16) (d : Device),
        d.sys.coreRunning = true ∧
        d.runs 15 = true ∧
        e ≠ 15 ∧
        (d.get (O.engineState e) = 1 ∨ d.get (O.engineState e) = 2 ∨ d.get (O.engineState e) = 3)) ∧
    (∃ (e : Fin 16) (ok : Bool) (d : Device),
        d.sys.coreRunning = true ∧
        d.runs 15 = true) ∧
    (∃ (same : Bool) (d : Device),
        d.live = true) ∧
    (∃ (e : Fin 16) (path : Fin 17) (bank : Byte) (d : Device),
        d.accepts path (O.engineUpdate e) e ((O.engineUpdate e).ty.encode bank.toNat) ∧
        e ≠ 13 ∧
        e ≠ 15) ∧
    (∃ (e : Fin 16) (path : Fin 17) (bank : Byte) (d : Device),
        d.accepts path (O.engineUpdate e) e ((O.engineUpdate e).ty.encode bank.toNat) ∧
        e = 13) ∧
    (∃ (e : Fin 16) (path : Fin 17) (bank : Byte) (d : Device),
        d.accepts path (O.engineUpdate e) e ((O.engineUpdate e).ty.encode bank.toNat) ∧
        e = 15) ∧
    (∃ (e : Fin 16) (path : Fin 17) (d : Device),
        d.accepts path (O.engineRetire e) e ((O.engineRetire e).ty.encode 1)) ∧
    (∃ (path : Fin 17) (data : List Byte) (d : Device),
        d.accepts path O.pairMove 0 data) ∧
    (∃ (path : Fin 17) (lap : BitVec 64) (d : Device),
        d.accepts path O.swapLap 0 (O.swapLap.ty.encode lap.toNat)) :=
  ⟨⟨14, unit [], by decide +kernel⟩,
   ⟨0, true, unit [(O.engineState 0, 4)], by decide +kernel⟩,
   ⟨true, unit [], by decide +kernel⟩,
   ⟨14, 16, 0, unit [], by unfold Device.accepts; decide +kernel⟩,
   ⟨13, 16, 0, unit [], by unfold Device.accepts; decide +kernel⟩,
   ⟨15, 16, 0, unit [], by unfold Device.accepts; decide +kernel⟩,
   ⟨14, 16, unit [], by unfold Device.accepts; decide +kernel⟩,
   ⟨16, (List.replicate 12 0), unit [(O.engineState 10, 2)], by unfold Device.accepts; decide +kernel⟩,
   ⟨16, 9, unit [(O.engineState 1, 2)], by unfold Device.accepts; decide +kernel⟩⟩

end Sys2Proof.Tests
end

section
/-! SUPPORT. Laws of a command's outcome, and of what a host's write answers in each case of its path (16 R411–R421). -/

namespace Sys2Proof.Machine

/-- Every arm of the dispatch ends in `State.next`, whatever its effect is. -/
theorem exec_answers (c : Instr) (s : State) : ∃ e : Device, exec c s = .next ⟨e, s.pending⟩ := by
  cases c
  all_goals exact ⟨_, rfl⟩

theorem State.run_of {s : State} {f : Device → Device} {e : Device} (h : f s.dev = e) :
    s.run f = .next ⟨Device.linesFollow (Device.settle e), s.pending⟩ := by
  simp only [State.run, State.next, h]

theorem State.run_when {s : State} {b : Device → Bool} {f : Device → Device} (h : b s.dev = true) :
    s.run (fun d => d.when (b d) f) = .next ⟨Device.linesFollow (Device.settle (f s.dev)), s.pending⟩ :=
  State.run_of (Device.when_pos h)

/-- An accepted write of class L or Q, from the block that carrying it out leaves. -/
theorem State.writeBytes_accepted {s : State} {path : Fin 17} {o : Obj} {k : Nat} {bs : List Byte} {e : Device}
    (hl : locate o.index o.sub = .obj o k) (h : s.dev.accepts path o k bs) (ha : o.apply ≠ .A)
    (he : s.dev.writeNow path o k bs true = e) :
    s.writeBytes path o bs = .next ⟨Device.linesFollow (Device.settle e), s.pending⟩ :=
  State.run_of ((Device.hostWrite_accepted hl h ha).trans he)

/-- The objects whose write has an answer of its own: Commit, FactoryRestore, the verification and the installation of a
package, the update of an engine and the standby (16 R419, R421). -/
def ownAnswerIds : List Nat := [0x1f1000, 0x1f3001, 0xa01003, 0xa01009, 0xa03001, 0xa05001]

theorem Device.writeNow_written {o : Obj} (h : o.id ∉ ownAnswerIds) (d : Device) (path k : Nat) (bs : List Byte) :
    d.writeNow path o k bs true =
      (d.takeEffect path o k (o.kept (o.ty.decode bs)) bs).written path o (o.kept (o.ty.decode bs)) := by
  unfold Device.writeNow Device.written
  split
  case h_7 => rfl
  all_goals next hid => exact absurd (by simp [hid, ownAnswerIds]) h

/-- A write-only object keeps no value. -/
theorem Device.takeEffect_wo {o : Obj} (h : o.access = .wo) (d : Device) (path k : Nat) (v : Int) (bs : List Byte) :
    d.takeEffect path o k v bs = d.effect d path o k v bs := by
  simp [Device.takeEffect, Device.putValue, Device.when, h]

/-- The answer to a write of a write-only object does not depend on the value. -/
theorem Device.written_wo {o : Obj} (h : o.access = .wo) (d : Device) (path : Nat) (v : Int) :
    d.written path o v = d.answer path o.index o.sub 0 0 [] :=
  if_neg (by simp [h])

/-- A write of a write-only object: its effect, then its answer. -/
theorem Device.writeNow_wo {o : Obj} {d e : Device} {path k : Nat} {bs : List Byte} {u v : Int} (hid : o.id ∉ ownAnswerIds)
    (hwo : o.access = .wo) (hv : o.kept (o.ty.decode bs) = v) (he : d.effect d path o k v bs = e) :
    d.writeNow path o k bs true = e.written path o u := by
  rw [Device.writeNow_written hid, hv, Device.takeEffect_wo hwo, he, Device.written_wo hwo, Device.written_wo hwo]

/-- An unsigned value that fits its type is read back from its bytes (16 R407). -/
theorem Ty.decode_encode {t : Ty} {n v : Nat} (hu : t.signed = false) (hn : t.size = some n) (hv : v < 256 ^ n) :
    t.decode (t.encode v) = v := by
  simp [Ty.decode, Ty.encode, hu, hn, ofLe_leBytes n v hv]

/-- An accepted write of class A enters the apply queue (16 R416). -/
theorem Device.hostWrite_enqueued {d : Device} {path k : Nat} {o : Obj} {bs : List Byte} {stored : Bool}
    (hl : locate o.index o.sub = .obj o k) (h : d.accepts path o k bs) (ha : o.apply = .A) :
    d.hostWrite path o.index o.sub bs stored =
      (d.enqueue ⟨path, o.key, o.kept (o.ty.decode bs)⟩).answer path o.index o.sub 0 1 [] := by
  obtain ⟨hmay, -, hbad, -⟩ := h
  simp [Device.hostWrite, Device.when_pos hmay, Device.writeObject, hl, hbad, ha]

/-- Under a brown-out warning a write that is a write of MRAM waits (01 R24). -/
theorem Device.hostWrite_deferred {d : Device} {path k : Nat} {o : Obj} {bs : List Byte} {stored : Bool}
    (hl : locate o.index o.sub = .obj o k) (hmay : d.mayWrite path o.index o.sub = true)
    (hst : (o.access = .rws ∧ o.apply = .L) → d.stagedOf path = none) (hbad : d.writeBad path o k bs = 0)
    (ha : o.apply ≠ .A) (hbrown : d.sys.brownOut = true) (hm : mramWrite o k (o.kept (o.ty.decode bs)) = true) :
    d.hostWrite path o.index o.sub bs stored = d.deferWrite (.write path o.key bs) := by
  have hnone : (if o.access = .rws ∧ o.apply = .L then d.stagedOf path else none) = none := by
    split
    · next hc => exact hst hc
    · rfl
  simp [Device.hostWrite, Device.when_pos hmay, Device.writeObject, hl, hnone, hbad, ha, Device.writeOrDefer, hbrown, hm]

/-- A write of an RWS object of class L through a path that holds the staging set goes there (16 R417). -/
theorem Device.hostWrite_staged {d : Device} {path index sub k : Nat} {o : Obj} {bs : List Byte} {stored : Bool}
    {l : List Pending} (hl : locate index sub = .obj o k) (hmay : d.mayWrite path index sub = true)
    (hrws : o.access = .rws) (hL : o.apply = .L) (hst : d.stagedOf path = some l) :
    d.hostWrite path index sub bs stored = d.stageWrite path o k bs l := by
  simp [Device.hostWrite, Device.when_pos hmay, Device.writeObject, hl, hrws, hL, hst]

/-- OBJECT_WRITE, from the block that the host's write leaves. -/
theorem exec_objectWrite {path : Fin 17} {index : BitVec 16} {sub : Byte} {data : List Byte} {stored : Bool} {d e : Device}
    {w : List Instr} (h : d.hostWrite path index.toNat sub.toNat data stored = e) :
    exec (.objectWrite path index sub data stored) ⟨d, w⟩ = .next ⟨Device.linesFollow (Device.settle e), w⟩ := by
  change execObjectWrite path index sub data stored ⟨d, w⟩ = _
  exact State.run_of h

end Sys2Proof.Machine
end

section
/-! SUPPORT. What a write of the dictionary's own objects and of the engines' does (15 R395, 16 R417, R424, R427, 20
R507–R512). -/

namespace Sys2Proof.Machine

theorem Device.writeNow_commit {bs : List Byte} {v : Int} (hv : O.commit.kept (O.commit.ty.decode bs) = v) (d : Device)
    (path k : Nat) (stored : Bool) : d.writeNow path O.commit k bs stored = d.commitWrite path v stored := by
  subst hv; rfl

theorem Device.commitWrite_begin {d : Device} (h : d.dict.staged = none) (path : Nat) (stored : Bool) :
    d.commitWrite path 1 stored = (d.setStaged (some (path, []))).answer path 0x1F10 0 0 0 [] := by
  simp [Device.commitWrite, h]

theorem Device.commitWrite_commit {d : Device} {path : Nat} {l : List Pending} (h : d.stagedOf path = some l)
    (stored : Bool) : d.commitWrite path 2 stored = d.commitNow path l stored := by
  simp [Device.commitWrite, h]

theorem Device.commitWrite_discard {d : Device} {path : Nat} {l : List Pending} (h : d.stagedOf path = some l)
    (stored : Bool) : d.commitWrite path 3 stored = d.discardNow.answer path 0x1F10 0 0 0 [] := by
  simp [Device.commitWrite, h]

theorem Device.writeNow_factoryRestore {d : Device} (h : d.restoreRefused = false) (path k : Nat) (bs : List Byte)
    (stored : Bool) : d.writeNow path O.factoryRestore k bs stored = d.restoreNow path stored :=
  if_neg (by simp [h])

theorem Device.effect_fence (d old : Device) (path k : Nat) (v : Int) (bs : List Byte) :
    d.effect old path O.fence k v bs = d := rfl

theorem Device.effect_snapshotFence (d old : Device) (path k : Nat) (v : Int) (bs : List Byte) :
    d.effect old path O.snapshotFence k v bs = d.capture path := rfl

theorem Device.effect_pairMove (d old : Device) (path k : Nat) (v : Int) (bs : List Byte) :
    d.effect old path O.pairMove k v bs = d.pairMoveNow v := rfl

theorem Device.effect_swapLap (d old : Device) (path k : Nat) (v : Int) (bs : List Byte) :
    d.effect old path O.swapLap k v bs = d.swapNow v := rfl

/-- From 0x5000 on an object's effect is one of `Device.effectHigh`. -/
theorem Device.effect_high {o : Obj} (h : 0x5000 ≤ o.index) (d old : Device) (path k : Nat) (v : Int) (bs : List Byte) :
    d.effect old path o k v bs = d.effectHigh old path o k v bs :=
  if_neg fun hlow => absurd hlow.1 (by omega)

theorem Device.effect_engineRetire (d old : Device) (e path k : Nat) (bs : List Byte) :
    d.effect old path (O.engineRetire e) k 1 bs = d.retireNow k :=
  Device.effect_high (by simp; omega) _ _ _ _ _ _

theorem Device.takeEffect_engineUpdate (d : Device) (e path k bank : Nat) (bs : List Byte) :
    d.takeEffect path (O.engineUpdate e) k bank bs = d.updateNow path k bank :=
  (Device.takeEffect_wo rfl _ _ _ _ _).trans (Device.effect_high (by simp; omega) _ _ _ _ _ _)

/-- An update of NE is answered before NE is lost, one of GD at once, the others when their load ends (20 R509). -/
theorem Device.writeNow_engineUpdate (d : Device) (e path k : Nat) (bank : Byte) (stored : Bool) :
    d.writeNow path (O.engineUpdate e) k ((O.engineUpdate e).ty.encode bank.toNat) stored =
      if k = 13 then ((d.answer path (O.engineUpdate e).index 1 0 0 []).updateNow path k bank.toNat).netDown
      else if k = 15 then (d.updateNow path k bank.toNat).answer path (O.engineUpdate e).index 1 0 0 []
      else d.updateNow path k bank.toNat := by
  have hv : (O.engineUpdate e).kept ((O.engineUpdate e).ty.decode ((O.engineUpdate e).ty.encode bank.toNat)) = bank.toNat :=
    Ty.decode_encode rfl rfl bank.isLt
  simp only [Device.writeNow, hv, Device.takeEffect_engineUpdate]

/-- Clearing bytes 2 and 3 of a value leaves the bytes before and after them. -/
theorem field_zeroBytes (v : Nat) : field (zeroBytes v 2 2) 0 1 = field v 0 1 ∧ field (zeroBytes v 2 2) 1 1 = field v 1 1 ∧
    field (zeroBytes v 2 2) 4 8 = field v 4 8 := by
  simp only [field, zeroBytes]
  omega

/-- The reserved bytes of a PairMove mean nothing (00 R3, 20 R507). -/
theorem Device.pairMoveNow_zeroBytes (d : Device) (v : Nat) : d.pairMoveNow (zeroBytes v 2 2) = d.pairMoveNow v := by
  obtain ⟨hpair, hback, hlap⟩ := field_zeroBytes v
  simp only [Device.pairMoveNow, hpair, hback, hlap]

end Sys2Proof.Machine
end

section
open Sys2Proof Sys2Proof.Machine

/-- Settles O2: every arm of the dispatch ends in a next state that keeps the queue. -/
theorem everyCommandAnswersAndKeepsTheQueue : Obligations.EveryCommandAnswersAndKeepsTheQueue := by
  unfold Obligations.EveryCommandAnswersAndKeepsTheQueue
  exact fun c d w => exec_answers c ⟨d, w⟩

/-- Settles O23: each command is a guarded change of the block, and its guard holds. -/
theorem supplyCommandsHaveTheirEffect : Obligations.SupplyCommandsHaveTheirEffect := by
  unfold Obligations.SupplyCommandsHaveTheirEffect
  refine ⟨?powerOn, ?vddReset, ?brownoutWarning, ?brownoutClear, ?aonLoss, ?aonPowerUp, ?supplyOutOfRange,
    ?supplyInRange, ?crystalFailure, ?gdLockstepMismatch, ?aonRecalibration, ?watchdogReset⟩
  case powerOn =>
    exact fun m d w hvdd hvaon => show execPowerOn m ⟨d, w⟩ = _ from
      State.run_when (by simp [hvdd, hvaon])
  case vddReset => exact fun d w hvdd => show execVddReset ⟨d, w⟩ = _ from State.run_when hvdd
  case brownoutWarning => exact fun d w hvaon => show execBrownoutWarning ⟨d, w⟩ = _ from State.run_when hvaon
  case brownoutClear =>
    exact fun d w hvaon hbrown => show execBrownoutClear ⟨d, w⟩ = _ from
      State.run_when (by simp [hvaon, hbrown])
  case aonLoss => exact fun d w hvaon => show execAonLoss ⟨d, w⟩ = _ from State.run_when hvaon
  case aonPowerUp =>
    exact fun pins d w hvaon => show execAonPowerUp pins ⟨d, w⟩ = _ from
      State.run_when (by simp [hvaon])
  case supplyOutOfRange =>
    exact fun rail d w hcore hin => show execSupplyOutOfRange rail ⟨d, w⟩ = _ from
      State.run_when (by simp only [hcore, hin]; rfl)
  case supplyInRange => exact fun rail d w => rfl
  case crystalFailure => exact fun d w hcore => show execCrystalFailure ⟨d, w⟩ = _ from State.run_when hcore
  case gdLockstepMismatch => exact fun d w hcore => show execGdLockstepMismatch ⟨d, w⟩ = _ from State.run_when hcore
  case aonRecalibration => exact fun d w hcore => show execAonRecalibration ⟨d, w⟩ = _ from State.run_when hcore
  case watchdogReset => exact fun d w hcore => show execWatchdogReset ⟨d, w⟩ = _ from State.run_when hcore

/-- Settles O26: each command is a guarded change of the block, and its guard holds. -/
theorem holdupCommandsHaveTheirEffect : Obligations.HoldupCommandsHaveTheirEffect := by
  unfold Obligations.HoldupCommandsHaveTheirEffect
  refine ⟨?devStart, ?devEnd, ?confirmAngleExpiry, ?busDropout, ?returnCommit, ?returnTimeout⟩
  case devStart =>
    exact fun d w hae hvalid hdev hrun => show execDevStart ⟨d, w⟩ = _ from
      State.run_when (by simp only [hae, hvalid, hdev, hrun]; rfl)
  case devEnd =>
    intro x d w hdev hae hvalid hrun
    change execDevEnd ⟨d, w⟩ = _
    refine State.run_of ?_
    simp only [hdev]
    exact Device.when_pos (by simp [hae, hvalid, hrun])
  case confirmAngleExpiry =>
    intro x d w hdev hacts hlap
    change execConfirmAngleExpiry ⟨d, w⟩ = _
    refine State.run_of ?_
    simp only [hdev]
    exact Device.when_pos (by simpa [hlap] using hacts)
  case busDropout =>
    exact fun d w harmed hbelow => show execBusDropout ⟨d, w⟩ = _ from
      State.run_when (by simp [harmed, hbelow])
  case returnCommit => exact fun d w hmay => show execReturnCommit ⟨d, w⟩ = _ from State.run_when hmay
  case returnTimeout =>
    exact fun d w hacts hstate hlaps => show execReturnTimeout ⟨d, w⟩ = _ from
      State.run_when (by simp [hacts, hstate, hlaps])

/-- Settles O53, by the cases of a host's write: carried out, queued, deferred, staged. -/
theorem dictionaryCommandsHaveTheirEffect : Obligations.DictionaryCommandsHaveTheirEffect := by
  unfold Obligations.DictionaryCommandsHaveTheirEffect
  refine ⟨?writeNow, ?enqueued, ?deferred, ?staged, ?stagingBegin, ?stagingCommit, ?stagingDiscard, ?stagingTimeout,
    ?fence, ?snapshotCapture, ?factoryRestore⟩
  case writeNow =>
    intro path index sub data stored o k d w hl hi hs h ha
    rw [← hi, ← hs] at hl
    exact exec_objectWrite (by rw [← hi, ← hs]; exact Device.hostWrite_accepted hl h ha)
  case enqueued =>
    intro path index sub data stored o k d w hl hi hs h ha
    rw [← hi, ← hs] at hl
    exact exec_objectWrite (by rw [← hi, ← hs]; exact Device.hostWrite_enqueued hl h ha)
  case deferred =>
    intro path index sub data stored o k d w hl hi hs hmay hst hbad ha hbrown hm
    rw [← hi, ← hs] at hl
    exact exec_objectWrite (by rw [← hi, ← hs]; exact Device.hostWrite_deferred hl hmay hst hbad ha hbrown hm)
  case staged =>
    intro path index sub data stored o k l d w hl hmay hrws hL hst
    exact exec_objectWrite (Device.hostWrite_staged hl hmay hrws hL hst)
  case stagingBegin =>
    intro path d w h hst
    change execStagingBegin path ⟨d, w⟩ = _
    exact State.writeBytes_accepted locate_commit h (by decide)
      ((Device.writeNow_commit rfl d path 0 true).trans (Device.commitWrite_begin hst path true))
  case stagingCommit =>
    intro path l d w h hst
    change execStagingCommit path ⟨d, w⟩ = _
    exact State.writeBytes_accepted locate_commit h (by decide)
      ((Device.writeNow_commit rfl d path 0 true).trans (Device.commitWrite_commit hst true))
  case stagingDiscard =>
    intro path l d w h hst
    change execStagingDiscard path ⟨d, w⟩ = _
    exact State.writeBytes_accepted locate_commit h (by decide)
      ((Device.writeNow_commit rfl d path 0 true).trans (Device.commitWrite_discard hst true))
  case stagingTimeout =>
    exact fun d w hcore hst => show execStagingTimeout ⟨d, w⟩ = _ from
      State.run_when (by simp [hcore, hst])
  case fence =>
    intro path value d w h
    change execFence path value ⟨d, w⟩ = _
    exact State.writeBytes_accepted locate_fence h (by decide)
      (Device.writeNow_wo (by decide) rfl (Ty.decode_encode rfl rfl value.isLt) (Device.effect_fence d d path 0 _ _))
  case snapshotCapture =>
    intro path value d w h
    change execSnapshotCapture path value ⟨d, w⟩ = _
    exact State.writeBytes_accepted locate_snapshotFence h (by decide)
      (Device.writeNow_wo (by decide) rfl (Ty.decode_encode rfl rfl value.isLt)
        (Device.effect_snapshotFence d d path 0 _ _))
  case factoryRestore =>
    intro path value d w h hok
    change execFactoryRestore path value ⟨d, w⟩ = _
    exact State.writeBytes_accepted locate_factoryRestore h (by decide) (Device.writeNow_factoryRestore hok path 0 _ true)

/-- Settles O60: the failures and loads by their guards, the writes by the effect of the object written. -/
theorem engineCommandsHaveTheirEffect : Obligations.EngineCommandsHaveTheirEffect := by
  unfold Obligations.EngineCommandsHaveTheirEffect
  refine ⟨?engineFailure, ?engineLoadDone, ?transferCommit, ?engineUpdate, ?engineUpdateNe, ?engineUpdateGd,
    ?engineRetire, ?pairMove, ?swapLap⟩
  case engineFailure =>
    exact fun e d w hcore hgd he hst => show execEngineFailure e ⟨d, w⟩ = _ from
      State.run_of (Device.when_pos (by rcases hst with hst | hst | hst <;> simp [hcore, hgd, he, hst]))
  case engineLoadDone =>
    exact fun e ok d w hcore hgd => show execEngineLoadDone e ok ⟨d, w⟩ = _ from
      State.run_when (by simp [hcore, hgd])
  case transferCommit => exact fun same d w hlive => show execTransferCommit same ⟨d, w⟩ = _ from State.run_when hlive
  case engineUpdate =>
    intro e path bank d w h hne hgd
    change execEngineUpdate e path bank ⟨d, w⟩ = _
    have hne' : e.val ≠ 13 := fun hv => hne (Fin.ext hv)
    have hgd' : e.val ≠ 15 := fun hv => hgd (Fin.ext hv)
    exact State.writeBytes_accepted (locate_engineUpdate e) h (by simp)
      ((Device.writeNow_engineUpdate d e path e bank true).trans ((if_neg hne').trans (if_neg hgd')))
  case engineUpdateNe =>
    intro e path bank d w h hne
    change execEngineUpdate e path bank ⟨d, w⟩ = _
    have hval : e.val = 13 := congrArg Fin.val hne
    exact State.writeBytes_accepted (locate_engineUpdate e) h (by simp)
      ((Device.writeNow_engineUpdate d e path e bank true).trans (if_pos hval))
  case engineUpdateGd =>
    intro e path bank d w h hgd
    change execEngineUpdate e path bank ⟨d, w⟩ = _
    have hval : e.val = 15 := congrArg Fin.val hgd
    exact State.writeBytes_accepted (locate_engineUpdate e) h (by simp)
      ((Device.writeNow_engineUpdate d e path e bank true).trans ((if_neg (by omega)).trans (if_pos hval)))
  case engineRetire =>
    intro e path d w h
    change execEngineRetire e path ⟨d, w⟩ = _
    exact State.writeBytes_accepted (locate_engineRetire e) h (by simp)
      (Device.writeNow_wo (by simp [ownAnswerIds]) rfl rfl (Device.effect_engineRetire d d e path e _))
  case pairMove =>
    intro path data d w h
    change execPairMove path data ⟨d, w⟩ = _
    exact State.writeBytes_accepted locate_pairMove h (by decide)
      (Device.writeNow_wo (by decide) rfl rfl
        ((Device.effect_pairMove d d path 0 _ _).trans (Device.pairMoveNow_zeroBytes d (ofLe data))))
  case swapLap =>
    intro path lap d w h
    change execSwapLap path lap ⟨d, w⟩ = _
    exact State.writeBytes_accepted locate_swapLap h (by decide)
      (Device.writeNow_wo (by decide) rfl (Ty.decode_encode rfl rfl lap.isLt) (Device.effect_swapLap d d path 0 _ _))
end

section
/-! SUPPORT. A step with no command waiting, what is due before the stamp goes on, a guard of three parts, and what a reset
leaves alone (02 R27, 10 R270, 21 R523). -/

namespace Sys2Proof.Machine

theorem Device.ruleDue_none {d : Device} (h : d.hold.due = none) : d.ruleDue = d := by
  simp [Device.ruleDue, h]

theorem Device.ruleDue_some {d : Device} {u : HoldDue} (h : d.hold.due = some u) :
    d.ruleDue = (d.modHold fun h => { h with due := none }).ruleNow u := by
  simp [Device.ruleDue, h]

/-- A guard of two flags and a comparison. -/
theorem Device.when_guards {d : Device} {a b : Bool} {p : Prop} [Decidable p] {f : Device → Device} (ha : a = true)
    (hb : b = true) (hp : p) : d.when (a && b && decide p) f = f d :=
  Device.when_pos (by simp [ha, hb, hp])

theorem step_idle (d : Device) : step ⟨d, []⟩ = idleStep ⟨d, []⟩ := rfl

/-- The next stamp of the same lap, while CORE runs. -/
theorem Device.idle_ticks {d : Device} (hcore : d.sys.coreRunning = true) (hlap : d.tb.stamp % 65536 < 65535) :
    d.idle = d.ruleDue.modTb fun b => { b with stamp := d.tb.stamp + 1 } := by
  have hnext : d.now < d.tb.stamp + 1 := Nat.lt_succ_self _
  simp [Device.idle, hcore, hlap, Device.toStamp, Device.when, hnext]

/-- No tick passes while CORE is stopped, and none passes the end of the lap. -/
theorem Device.idle_rests {d : Device} (h : d.sys.coreRunning = false ∨ d.tb.stamp % 65536 = 65535) : d.idle = d := by
  rcases h with h | h <;> simp [Device.idle, h]

/-- A reset leaves MRAM alone (14 R367, 21 R523). -/
theorem Device.reset_mram (m : Mram) (a : Aon) (s : Sys) : (Device.reset m a s).mram = m := rfl

theorem idleStep_none {s : State} (h : s.dev.hold.due = none) : idleStep s = .next { s with dev := s.dev.idle } := by
  simp [idleStep, h]

theorem idleStep_due {s : State} {e : Device} (h : s.dev.hold.due.isSome = true) (he : s.dev.idle = e) :
    idleStep s = .next ⟨Device.linesFollow (Device.settle e), s.pending⟩ :=
  (if_pos h).trans (State.run_of he)

end Sys2Proof.Machine
end

section
/-! SUPPORT. Accepted writes of RWS and write-only objects up to 0x4FFF, and writes of read-only ones (16 R409, R411). -/

namespace Sys2Proof.Machine

/-- The objects whose written value each path keeps for itself (16 R429). -/
def ownValueIds : List Nat := [0x1f1201, 0x1f2001]

/-- Any other object that keeps a value holds the written one before its effect begins. -/
theorem Device.takeEffect_value {o : Obj} (hwo : o.access ≠ .wo) (hid : o.id ∉ ownValueIds) (d : Device) (path k : Nat)
    (v : Int) (bs : List Byte) : d.takeEffect path o k v bs = (d.set o v).effect d path o k v bs := by
  obtain ⟨hselect, hmask⟩ : o.id ≠ 0x1f1201 ∧ o.id ≠ 0x1f2001 := by simpa [ownValueIds] using hid
  rw [Device.takeEffect, Device.putValue, Device.when_pos (by simp [hwo, hselect, hmask])]

/-- Below 0x5000 an object's effect is one of `Device.effectLow`, but for the dictionary's own. -/
theorem Device.effect_low {o : Obj} (h : o.index < 0x5000 ∧ o.index / 256 ≠ 0x1F) (d old : Device) (path k : Nat) (v : Int)
    (bs : List Byte) : d.effect old path o k v bs = d.effectLow old o k v := if_pos h

theorem Device.effectLow_lineTrackEnable {old : Device} {v : Int} (h : old.get O.lineTrackEnable ≠ v) (d : Device) (k : Nat) :
    d.effectLow old O.lineTrackEnable k v = if v = 1 then d.trackOn else d.trackOff :=
  Device.when_pos (f := fun d => if v = 1 then d.trackOn else d.trackOff) (bne_iff_ne.mpr h)

theorem Device.effectLow_rectEnable {old : Device} {v : Int} (h : old.get O.rectEnable ≠ v) (d : Device) (k : Nat) :
    d.effectLow old O.rectEnable k v = if v = 1 then d.rectEnableNow else d.rectDisableNow :=
  Device.when_pos (f := fun d => if v = 1 then d.rectEnableNow else d.rectDisableNow) (bne_iff_ne.mpr h)

theorem Device.effectLow_slotDisable {old : Device} {r : Nat} (h : old.get (O.slotEnable r) ≠ 0) (d : Device) (k : Nat) :
    d.effectLow old (O.slotEnable r) k 0 = d.slotDisableNow k :=
  Device.when_pos (f := fun d => d.slotDisableNow k) (bne_iff_ne.mpr h)

theorem Device.effectLow_slotWord (d old : Device) (slot k : Nat) (v : Int) :
    d.effectLow old (O.slotWord slot) k v = d := by
  simp [Device.effectLow]

/-- An accepted write of an RWS object up to 0x4FFF: the value, its effect, then the store and the answer. -/
theorem State.write_rws {d e : Device} {w : List Instr} {path : Fin 17} {o : Obj} {k : Nat} {u v : Int}
    (hl : locate o.index o.sub = .obj o k) (h : d.accepts path o k (o.ty.encode u)) (hrws : o.access = .rws)
    (hL : o.apply = .L) (hlow : o.index < 0x5000 ∧ o.index / 256 ≠ 0x1F) (hid : o.id ∉ ownAnswerIds ++ ownValueIds)
    (hv : o.kept (o.ty.decode (o.ty.encode u)) = v) (he : (d.set o v).effectLow d o k v = e) :
    State.write ⟨d, w⟩ path o u = .next ⟨Device.linesFollow (Device.settle (e.written path o v)), w⟩ := by
  obtain ⟨hanswer, hvalue⟩ : o.id ∉ ownAnswerIds ∧ o.id ∉ ownValueIds := by simpa using hid
  refine State.writeBytes_accepted hl h (by simp [hL]) ?_
  rw [Device.writeNow_written hanswer, hv, Device.takeEffect_value (by simp [hrws]) hvalue, Device.effect_low hlow, he]

/-- An accepted write of a write-only object up to 0x4FFF: its effect, then the answer. -/
theorem State.write_wo {d e : Device} {w : List Instr} {path : Fin 17} {o : Obj} {k : Nat} {v : Int}
    (hl : locate o.index o.sub = .obj o k) (h : d.accepts path o k (o.ty.encode v)) (hwo : o.access = .wo)
    (hL : o.apply = .L) (hlow : o.index < 0x5000 ∧ o.index / 256 ≠ 0x1F) (hid : o.id ∉ ownAnswerIds)
    (hv : o.kept (o.ty.decode (o.ty.encode v)) = v) (he : d.effectLow d o k v = e) :
    State.write ⟨d, w⟩ path o v = .next ⟨Device.linesFollow (Device.settle (e.written path o v)), w⟩ :=
  State.writeBytes_accepted hl h (by simp [hL])
    (Device.writeNow_wo hid hwo hv ((Device.effect_low hlow _ _ _ _ _ _).trans he))

/-- A write of a read-only object is refused (16 R411). -/
theorem Device.hostWrite_readOnly {d : Device} {path k : Nat} {o : Obj} {bs : List Byte} {stored : Bool}
    (hl : locate o.index o.sub = .obj o k) (hmay : d.mayWrite path o.index o.sub = true) (hro : o.access = .ro) :
    d.hostWrite path o.index o.sub bs stored = d.answer path o.index o.sub 0x0601 0 [] := by
  have hbad : d.writeBad path o k bs = 0x0601 := if_pos (.inl hro)
  simp [Device.hostWrite, Device.when, hmay, Device.writeObject, hl, hro, hbad]

theorem State.writeBytes_readOnly {s : State} {path : Fin 17} {o : Obj} {k : Nat} {bs : List Byte}
    (hl : locate o.index o.sub = .obj o k) (hmay : s.dev.mayWrite path o.index o.sub = true) (hro : o.access = .ro) :
    s.writeBytes path o bs =
      .next ⟨Device.linesFollow (Device.settle (s.dev.answer path o.index o.sub 0x0601 0 [])), s.pending⟩ :=
  State.run_of (Device.hostWrite_readOnly hl hmay hro)

theorem exec_schedulerSlotWrite (path : Fin 17) (slot : Fin 64) (word : BitVec 64) (s : State) :
    exec (.schedulerSlotWrite path slot word) s =
      s.write path (if slot.val < 8 then O.systemSlot slot else O.slotWord slot) word.toNat := rfl

end Sys2Proof.Machine
end

section
/-! SUPPORT. What the words and the stamps of the scheduler's slots rest on, and what a ruling of hold-up leaves of it (02 R44,
R45, R48, R49, 10 R270). -/

namespace Sys2Proof.Machine

/-- All that the words of the slots in force and the angles in them are computed from (02 R44, R48, R49). -/
def Device.slotBasis (d : Device) : Timebase × Int × Int := (d.tb, d.get O.zoneOpen, d.get O.zoneLength)

/-- The addresses of the two objects of `Device.slotBasis`. -/
def zoneKeys : List Nat := [O.zoneOpen.key, O.zoneLength.key]

theorem Device.slotBasis_set {o : Obj} (h : o.key ∉ zoneKeys) (d : Device) (v : Int) :
    (d.set o v).slotBasis = d.slotBasis := by
  obtain ⟨hopen, hlength⟩ : o.key ≠ O.zoneOpen.key ∧ o.key ≠ O.zoneLength.key := by simpa [zoneKeys] using h
  simp [Device.slotBasis, Device.get_set_other hopen.symm, Device.get_set_other hlength.symm]

theorem Device.slotBasis_setFlag {o : Obj} (h : o.key ∉ zoneKeys) (d : Device) (b : Bool) :
    (d.setFlag o b).slotBasis = d.slotBasis := d.slotBasis_set h _

theorem Device.slotBasis_bump {o : Obj} (h : o.key ∉ zoneKeys) (d : Device) : (d.bump o).slotBasis = d.slotBasis := by
  obtain ⟨v, n, hbump⟩ := d.bump_spec o
  rw [hbump]
  exact d.slotBasis_set h v

@[simp] theorem Device.slotBasis_when {f : Device → Device} (h : ∀ d : Device, (f d).slotBasis = d.slotBasis) (d : Device)
    (b : Bool) : (d.when b f).slotBasis = d.slotBasis := by
  cases b
  · rfl
  · exact h d

@[simp] theorem foldl_slotBasis {α : Type} {f : Device → α → Device} (h : ∀ d a, (f d a).slotBasis = d.slotBasis) (l : List α)
    (d : Device) : (l.foldl f d).slotBasis = d.slotBasis := by
  induction l generalizing d with
  | nil => rfl
  | cons a l ih => exact (ih _).trans (h d a)

@[simp] theorem Device.slotBasis_forAll {f : Nat → Device → Device} (h : ∀ n d, (f n d).slotBasis = d.slotBasis) (d : Device)
    (l : List Nat) : (d.forAll l f).slotBasis = d.slotBasis := foldl_slotBasis (fun d n => h n d) l d

@[simp] theorem Device.slotBasis_modPins (d : Device) (f : Pins → Pins) : (d.modPins f).slotBasis = d.slotBasis := rfl
@[simp] theorem Device.slotBasis_modHold (d : Device) (f : Hold → Hold) : (d.modHold f).slotBasis = d.slotBasis := rfl
@[simp] theorem Device.slotBasis_emit (d : Device) (o : Out) : (d.emit o).slotBasis = d.slotBasis := rfl
@[simp] theorem Device.slotBasis_used (d : Device) : d.used.slotBasis = d.slotBasis := rfl
@[simp] theorem Device.slotBasis_workDue (d : Device) (w : PolicyWork) : (d.workDue w).slotBasis = d.slotBasis := rfl
@[simp] theorem Device.slotBasis_dropPlaces (d : Device) : d.dropPlaces.slotBasis = d.slotBasis := rfl
@[simp] theorem Device.slotBasis_modFault (d : Device) (b : Nat) (f : FaultBlock → FaultBlock) :
    (d.modFault b f).slotBasis = d.slotBasis := rfl
@[simp] theorem Device.slotBasis_modFeed (d : Device) (k : Nat) (f : Feed → Feed) : (d.modFeed k f).slotBasis = d.slotBasis := rfl
@[simp] theorem Device.slotBasis_modStr (d : Device) (n : Nat) (f : Str → Str) : (d.modStr n f).slotBasis = d.slotBasis := rfl
@[simp] theorem Device.slotBasis_strings (d : Device) (l : List Str) : { d with strings := l }.slotBasis = d.slotBasis := rfl
@[simp] theorem Device.slotBasis_setDrive (d : Device) (g : Nat) (x : Drive) : (d.setDrive g x).slotBasis = d.slotBasis := rfl
@[simp] theorem Device.slotBasis_modSession (d : Device) (s : Nat) (f : Session → Session) :
    (d.modSession s f).slotBasis = d.slotBasis := rfl
@[simp] theorem Device.slotBasis_edge (d : Device) (src : Nat) : (d.edge src).slotBasis = d.slotBasis :=
  Device.slotBasis_when (f := fun d => { d with router := { d.router with edges := d.router.edges ++ [src] } }) (fun _ => rfl) d _

@[simp] theorem Device.slotBasis_sendNew (d : Device) (s kind : Nat) (body : List Byte) :
    (d.sendNew s kind body).slotBasis = d.slotBasis := by
  have hsend : ∀ (e : Device) (p : Nat) (o : Out), ((e.emit o).bump (O.txFrames p)).slotBasis = e.slotBasis := fun e p o =>
    Device.slotBasis_bump (by simp [zoneKeys, Obj.key]; omega) (e.emit o)
  refine Eq.trans (Device.slotBasis_forAll (fun p e => ?_) _ _) (Device.slotBasis_set (by simp [zoneKeys, Obj.key]; omega) d _)
  split
  · exact Device.slotBasis_when (fun e => hsend e p _) e _
  · rfl

@[simp] theorem Device.slotBasis_notifyOne (d : Device) (s : Nat) (body : List Byte) :
    (d.notifyOne s body).slotBasis = d.slotBasis := by
  unfold Device.notifyOne
  dsimp only
  split
  · simp
  · split
    · rfl
    · exact Device.slotBasis_bump (by simp [zoneKeys, Obj.key]; omega) _

@[simp] theorem Device.slotBasis_notify (d : Device) (kind : Nat) (body : List Byte) :
    (d.notify kind body).slotBasis = d.slotBasis := by
  unfold Device.notify
  split
  · refine Device.slotBasis_forAll (fun s e => ?_) _ _
    split
    · exact Device.slotBasis_notifyOne e s body
    · rfl
  · rfl

@[simp] theorem Device.slotBasis_offer (d : Device) (ev : Event) : (d.offer ev).slotBasis = d.slotBasis := by
  unfold Device.offer
  split
  · split <;> rfl
  · rfl

@[simp] theorem Device.slotBasis_interrupt (d : Device) (block sub cls code stamp : Nat) (params : List Byte) :
    (d.interrupt block sub cls code stamp params).slotBasis = d.slotBasis :=
  Device.slotBasis_notify _ _ _

@[simp] theorem Device.slotBasis_updateFaultN (d : Device) : d.updateFaultN.slotBasis = d.slotBasis :=
  Device.slotBasis_set (o := O.faultNLevel) (by decide) _ _

@[simp] theorem Device.slotBasis_pulseFaultN (d : Device) : d.pulseFaultN.slotBasis = d.slotBasis :=
  Device.slotBasis_set (o := O.faultNLevel) (by decide) _ _

@[simp] theorem Device.slotBasis_takeEvent (d : Device) (block source code cls : Nat) (params : List Byte) (two : Bool) :
    (d.takeEvent block source code cls params two).1.slotBasis = d.slotBasis := by
  unfold Device.takeEvent
  dsimp only
  split <;> split <;> simp

@[simp] theorem Device.slotBasis_gatesCommitted (d : Device) : d.gatesCommitted.slotBasis = d.slotBasis := by
  unfold Device.gatesCommitted
  exact Device.slotBasis_forAll (fun g e => Device.slotBasis_when (fun e => e.slotBasis_setDrive g _) e _) d _

@[simp] theorem Device.slotBasis_releasePreload (d : Device) : d.releasePreload.slotBasis = d.slotBasis := by
  unfold Device.releasePreload
  exact Device.slotBasis_forAll (fun k e => e.slotBasis_modFeed k _) d _

/-- An early start is over without any change of the scheduler (10 R275). -/
@[simp] theorem Device.slotBasis_holdEnd (d : Device) : d.holdEnd.slotBasis = d.slotBasis := by
  simp [Device.holdEnd]

@[simp] theorem Device.slotBasis_holdFalse (d : Device) (stamp : Nat) : (d.holdFalse stamp).slotBasis = d.slotBasis := by
  unfold Device.holdFalse
  split
  · rfl
  · have hused (b : Bool) : (d.when b Device.used).slotBasis = d.slotBasis := Device.slotBasis_when Device.slotBasis_used d b
    simp [Device.raiseTwo, Device.slotBasis_bump, hused, zoneKeys, Obj.key]

@[simp] theorem Device.slotBasis_suspend (d : Device) (n b : Nat) : (d.suspend n b).slotBasis = d.slotBasis := by
  have hkey (i : Nat) (hi : i = 1 ∨ i = 2 ∨ i = 3 ∨ i = 10) : (0x4820 + n) * 256 + i ∉ zoneKeys := by
    simp [zoneKeys, Obj.key]; omega
  unfold Device.suspend
  split
  · simp [Device.chargeStop, Device.chargerOff, Device.setString, Device.stampAt, Device.slotBasis_set, Obj.key, hkey]
  · refine Device.slotBasis_when (fun e => ?_) d _
    exact e.slotBasis_set (o := O.suspendCause n) (hkey 2 (by simp)) _

@[simp] theorem Device.slotBasis_holdNotify (d : Device) (code stamp early : Nat) :
    (d.holdNotify code stamp early).slotBasis = d.slotBasis := Device.slotBasis_notify _ _ _

/-- The entry to HOLDUP changes nothing of the scheduler (10 R274). -/
@[simp] theorem Device.slotBasis_holdEntry (d : Device) (u : HoldDue) : (d.holdEntry u).slotBasis = d.slotBasis := by
  unfold Device.holdEntry
  simp [Device.slotBasis_set, Device.slotBasis_setFlag, Device.slotBasis_bump, Device.raiseD, zoneKeys, Obj.key]

/-- A ruling of hold-up changes nothing of the scheduler (10 R270). -/
theorem Device.slotBasis_ruleNow (d : Device) (u : HoldDue) : (d.ruleNow u).slotBasis = d.slotBasis := by
  unfold Device.ruleNow
  split
  · rfl
  · refine Device.slotBasis_when (fun e => ?_) d _
    split
    · exact e.slotBasis_holdEntry u
    · split
      · exact e.slotBasis_holdFalse u.stamp
      · exact Device.slotBasis_bump (by decide) e

theorem Device.slotBasis_ruleDue (d : Device) : d.ruleDue.slotBasis = d.slotBasis := by
  unfold Device.ruleDue
  split
  · exact Device.slotBasis_ruleNow _ _
  · rfl

/-- The stamp goes on to `t` with the slots as they are. -/
theorem Device.toStamp_tb (d : Device) (t : Nat) : (d.toStamp t).tb = { d.tb with stamp := t } := by
  have hruled := congrArg Prod.fst (Device.slotBasis_when Device.slotBasis_ruleDue d (decide (d.now < t)))
  exact congrArg (fun b : Timebase => { b with stamp := t }) hruled

/-- ONESHOT acts at the firing of slots 8 to 63 (02 R44). -/
def Device.slotOnce (d : Device) (n : Nat) : Bool := bits (d.slotWordNow n) 25 1 == 1 && decide (8 ≤ n)

/-- A slot after its firing at stamp `t`: EN goes where ONESHOT acts (02 R44, R45). -/
def Slot.fired (once : Bool) (t : Nat) (s : Slot) : Slot :=
  { word := if once then s.word - 2 ^ 24 else s.word, fires := s.fires + 1, last := some t }

/-- What a firing leaves of the basis of the slots (02 R44, R45). -/
theorem Device.slotBasis_slotHardware (d : Device) (n : Nat) :
    (d.slotHardware n).slotBasis =
      ({ d.tb with stamp := d.fireStamp n, slots := modAt d.tb.slots n (Slot.fired (d.slotOnce n) (d.fireStamp n)) },
        d.get O.zoneOpen, d.get O.zoneLength) := by
  have hobjects := congrArg Prod.snd (Device.slotBasis_when Device.slotBasis_ruleDue d (decide (d.now < d.fireStamp n)))
  have hfired : ((d.toStamp (d.fireStamp n)).modTb fun b =>
      { b with slots := modAt b.slots n (Slot.fired (d.slotOnce n) (d.fireStamp n)) }).slotBasis =
      ({ d.tb with stamp := d.fireStamp n, slots := modAt d.tb.slots n (Slot.fired (d.slotOnce n) (d.fireStamp n)) },
        d.get O.zoneOpen, d.get O.zoneLength) := by
    refine Prod.ext ?_ hobjects
    rw [Device.slotBasis, Device.modTb_tb, d.toStamp_tb]
  have hword (v : Int) (e : Device) : (e.set (O.slotWord n) v).slotBasis = e.slotBasis :=
    Device.slotBasis_set (by simp [zoneKeys, Obj.key]; omega) e v
  refine Eq.trans ?_ hfired
  unfold Device.slotHardware
  dsimp only
  split
  · exact Device.slotBasis_when (fun e => hword _ e) _ _
  · rw [Device.slotBasis_edge, Device.slotBasis_emit]
    exact Device.slotBasis_when (fun e => hword _ e) _ _

theorem Device.slotHardware_tb (d : Device) (n : Nat) :
    (d.slotHardware n).tb =
      { d.tb with stamp := d.fireStamp n, slots := modAt d.tb.slots n (Slot.fired (d.slotOnce n) (d.fireStamp n)) } :=
  congrArg Prod.fst (d.slotBasis_slotHardware n)

theorem Device.slotHardware_zoneOpen (d : Device) (n : Nat) : (d.slotHardware n).get O.zoneOpen = d.get O.zoneOpen :=
  congrArg (fun b => b.2.1) (d.slotBasis_slotHardware n)

theorem Device.slotHardware_zoneLength (d : Device) (n : Nat) : (d.slotHardware n).get O.zoneLength = d.get O.zoneLength :=
  congrArg (fun b => b.2.2) (d.slotBasis_slotHardware n)

theorem Device.slotHardware_slot {d : Device} {n : Nat} (h : n < d.tb.slots.length) :
    (d.slotHardware n).tb.slots.getD n ⟨0, 0, none⟩ =
      Slot.fired (d.slotOnce n) (d.fireStamp n) (d.tb.slots.getD n ⟨0, 0, none⟩) := by
  rw [d.slotHardware_tb]
  exact modAt_getD_same _ _ _ _ h

/-- EN cleared: the bit reads 0, and the angle stays (02 R44). -/
theorem bits_clearEnable {w : Nat} (h : bits w 24 1 = 1) :
    bits (w - 2 ^ 24) 24 1 = 0 ∧ bits (w - 2 ^ 24) 48 16 = bits w 48 16 := by
  simp only [bits] at h ⊢
  omega

theorem bits_slotWordOf_angle {angle out mode : Nat} (hangle : angle < 65536) (hout : out < 16) (hmode : mode < 4)
    (en : Bool) : bits (slotWordOf angle out mode en) 48 16 = angle := by
  cases en <;> simp only [bits, slotWordOf, if_true, Bool.false_eq_true, if_false] <;> omega

/-- A slot fires no earlier than now, and with EN set (02 R44, R45). -/
theorem Device.slotFires_enabled {d : Device} {n : Nat} (h : d.slotFires n = true) :
    bits (d.slotWordNow n) 24 1 = 1 ∧ d.now ≤ d.fireStamp n := by
  simp only [Device.slotFires, Bool.and_eq_true, beq_iff_eq, decide_eq_true_eq] at h
  tauto

/-- A slot whose last firing was at its stamp of the present lap does not fire (02 R45). -/
theorem Device.slotFires_again {d : Device} {n : Nat} (h : (d.tb.slots.getD n ⟨0, 0, none⟩).last = some (d.fireStamp n)) :
    d.slotFires n = false := by
  simp only [Device.slotFires, h, bne_self_eq_false, Bool.and_false, Bool.false_and]

/-- A firing stamp lies in the present lap. -/
theorem Device.fireStamp_lap (d : Device) (n : Nat) : d.fireStamp n / 65536 = d.lap := by
  have hangle : bits (d.slotWordNow n) 48 16 < 65536 := Nat.mod_lt _ (by decide)
  unfold Device.fireStamp
  omega

/-- The angle of slot 3: the end of the zone in progress, or of the next one (02 R48, R49). -/
def Device.zoneEndAngle (d : Device) : Nat :=
  if d.zoneRuns then (d.tb.zoneFrom + d.tb.zoneLen) % 65536 else (d.getN O.zoneOpen + d.getN O.zoneLength) % 65536

theorem Device.zoneEndAngle_lt (d : Device) : d.zoneEndAngle < 65536 := by
  unfold Device.zoneEndAngle
  split <;> exact Nat.mod_lt _ (by decide)

theorem Device.slotWordNow_zoneOpens (d : Device) : d.slotWordNow 2 = slotWordOf (d.getN O.zoneOpen) 2 2 true := rfl

theorem Device.slotWordNow_zoneCloses (d : Device) : d.slotWordNow 3 = slotWordOf d.zoneEndAngle 3 2 true := rfl

theorem Device.slotWordNow_stored {n : Nat} (hopens : n ≠ 2) (hcloses : n ≠ 3) (d : Device) :
    d.slotWordNow n = (d.tb.slots.getD n ⟨0, 0, none⟩).word := by
  unfold Device.slotWordNow
  split
  · exact absurd rfl hopens
  · exact absurd rfl hcloses
  · rfl

theorem Device.fireStamp_zoneCloses (d : Device) : d.fireStamp 3 = d.lap * 65536 + d.zoneEndAngle := by
  rw [Device.fireStamp, d.slotWordNow_zoneCloses, bits_slotWordOf_angle d.zoneEndAngle_lt (by decide) (by decide)]

/-- The zone in progress at the firing of slot 3 is still the one in progress at its stamp, and none begins (02 R49). -/
theorem Device.slotHardware_zoneRuns {d : Device} (h : d.now ≤ d.fireStamp 3) :
    (d.slotHardware 3).zoneRuns = d.zoneRuns := by
  have hstamp := d.fireStamp_zoneCloses
  have hlap : d.lap = d.now / 65536 := rfl
  have hafter : (d.slotHardware 3).zoneRuns =
      (d.tb.zoneOpen && decide (d.fireStamp 3 ≤ d.tb.zoneFrom + d.tb.zoneLen)) := by
    rw [Device.zoneRuns, Device.now, d.slotHardware_tb]
  rw [hafter]
  cases hruns : d.zoneRuns with
  | true =>
    simp only [Device.zoneEndAngle, hruns, if_true] at hstamp
    simp only [Device.zoneRuns, Bool.and_eq_true, decide_eq_true_eq] at hruns ⊢
    obtain ⟨hopen, hinside⟩ := hruns
    exact ⟨hopen, by omega⟩
  | false =>
    simp only [Device.zoneRuns, Bool.and_eq_false_iff, decide_eq_false_iff_not] at hruns ⊢
    exact hruns.imp_right fun hpast => by omega

theorem Device.slotHardware_zoneEndAngle {d : Device} (h : d.now ≤ d.fireStamp 3) :
    (d.slotHardware 3).zoneEndAngle = d.zoneEndAngle := by
  simp only [Device.zoneEndAngle, Device.slotHardware_zoneRuns h, Device.getN, d.slotHardware_zoneOpen,
    d.slotHardware_zoneLength, d.slotHardware_tb]

/-- The word of a slot other than 2 and 3 after its firing (02 R44). -/
theorem Device.slotHardware_word {d : Device} {n : Nat} (hopens : n ≠ 2) (hcloses : n ≠ 3) (hn : n < d.tb.slots.length) :
    (d.slotHardware n).slotWordNow n = if d.slotOnce n then d.slotWordNow n - 2 ^ 24 else d.slotWordNow n := by
  rw [Device.slotWordNow_stored hopens hcloses, Device.slotWordNow_stored hopens hcloses, Device.slotHardware_slot hn]
  rfl

/-- A firing leaves the slot's angle (02 R44, R48). -/
theorem Device.slotHardware_angle {d : Device} {n : Nat} (hn : n < d.tb.slots.length) (h : d.slotFires n = true) :
    bits ((d.slotHardware n).slotWordNow n) 48 16 = bits (d.slotWordNow n) 48 16 := by
  obtain ⟨henabled, hnow⟩ := Device.slotFires_enabled h
  by_cases hopens : n = 2
  · subst hopens
    simp only [Device.slotWordNow_zoneOpens, Device.getN, d.slotHardware_zoneOpen]
  by_cases hcloses : n = 3
  · subst hcloses
    simp only [Device.slotWordNow_zoneCloses, Device.slotHardware_zoneEndAngle hnow]
  rw [Device.slotHardware_word hopens hcloses hn]
  split
  · exact (bits_clearEnable henabled).2
  · rfl

end Sys2Proof.Machine
end

section
open Sys2Proof Sys2Proof.Machine

/-- Settles O16: at the stamp of its firing the slot's angle and lap are what they were, and its last firing has that stamp. -/
theorem slotFiresOnceAtItsAngle : Obligations.SlotFiresOnceAtItsAngle := by
  unfold Obligations.SlotFiresOnceAtItsAngle
  intro d n hlength hn hfires
  rw [← hlength] at hn
  obtain ⟨henabled, -⟩ := Device.slotFires_enabled hfires
  have hslot := Device.slotHardware_slot hn
  have hnow : (d.slotHardware n).now = d.fireStamp n := by rw [Device.now, d.slotHardware_tb]
  have hlap : (d.slotHardware n).lap = d.lap := by
    rw [← d.fireStamp_lap n, ← hnow, Device.lap, Device.now]
  have hstamp : (d.slotHardware n).fireStamp n = d.fireStamp n := by
    rw [Device.fireStamp, Device.fireStamp, hlap, Device.slotHardware_angle hn hfires]
  refine ⟨Device.slotFires_again ?_, hnow, hlap, ?_, fun hhost honeshot => ?_⟩
  · rw [hslot, hstamp]
    rfl
  · rw [hslot]
    rfl
  · have honce : d.slotOnce n = true := by simp [Device.slotOnce, honeshot, hhost]
    rw [Device.slotHardware_word (by omega) (by omega) hn, if_pos honce]
    exact (bits_clearEnable henabled).1

/-- Settles O1: the dispatch runs the front of the queue; on an empty queue the tick is that of `Device.idle`. -/
theorem stepRunsTheFirstCommand : Obligations.StepRunsTheFirstCommand := by
  unfold Obligations.StepRunsTheFirstCommand
  refine ⟨fun _ _ _ => rfl, fun d => ?_⟩
  rw [step_idle]
  refine ⟨fun hcore hlap => ⟨fun hdue => ?_, fun u hdue => ?_⟩, fun hrest => ⟨fun hdue => ?_, fun hdue => ?_⟩⟩
  · have hidle := Device.idle_ticks hcore hlap
    rw [Device.ruleDue_none hdue] at hidle
    exact (idleStep_none hdue).trans (by rw [hidle]; rfl)
  · have hidle := Device.idle_ticks hcore hlap
    rw [Device.ruleDue_some hdue] at hidle
    exact idleStep_due (by simp [hdue]) hidle
  · exact (idleStep_none hdue).trans (by rw [Device.idle_rests hrest])
  · exact idleStep_due hdue (Device.idle_rests hrest)

/-- Settles O3: every part of the block as manufactured stands at its reset value, and no object is listed. -/
theorem resetIsAUnitAsManufactured : Obligations.ResetIsAUnitAsManufactured := by
  unfold Obligations.ResetIsAUnitAsManufactured
  exact ⟨rfl, rfl, rfl, rfl, rfl, rfl, rfl, Device.reset_mram _ _ _, fun _ => rfl⟩

/-- Settles O24: the boundary and a firing are guarded changes of the block; the slot write is a write of its word. -/
theorem lapAndSlotCommandsHaveTheirEffect : Obligations.LapAndSlotCommandsHaveTheirEffect := by
  unfold Obligations.LapAndSlotCommandsHaveTheirEffect
  refine ⟨?lapBoundary, ?slotFire, ?slotWord, ?systemSlot⟩
  case lapBoundary => exact fun m d w hcore => show execLapBoundary m ⟨d, w⟩ = _ from State.run_when hcore
  case slotFire => exact fun slot m d w hfires => show execSlotFire slot m ⟨d, w⟩ = _ from State.run_when hfires
  case slotWord =>
    intro path slot word d w h hslot
    rw [exec_schedulerSlotWrite, if_neg (by omega)]
    exact State.write_rws (locate_slotWord slot hslot) h rfl rfl (by simp; omega) (by simp [ownAnswerIds, ownValueIds])
      (congrArg (O.slotWord slot).kept (Ty.decode_encode rfl rfl word.isLt)) (Device.effectLow_slotWord _ _ _ _ _)
  case systemSlot =>
    intro path slot word d w hmay hslot
    rw [exec_schedulerSlotWrite, if_pos hslot]
    exact State.writeBytes_readOnly (s := ⟨d, w⟩) (locate_systemSlot slot hslot) hmay rfl

/-- Settles O25: each command is a guarded change of the block, and its guard holds. -/
theorem lineCommandsHaveTheirEffect : Obligations.LineCommandsHaveTheirEffect := by
  unfold Obligations.LineCommandsHaveTheirEffect
  refine ⟨?sampleTracked, ?sampleUntracked, ?lineLoss, ?linePresent, ?holdoverExpired, ?lockAchieved, ?lockLost,
    ?rotationChange⟩
  case sampleTracked =>
    rintro k a b c phi t e d w rfl hcore hfresh hnow rfl htracks
    change execLineSample k a b c phi ⟨d, w⟩ = _
    exact State.run_of ((Device.when_guards hcore hfresh hnow).trans (Device.when_pos htracks))
  case sampleUntracked =>
    rintro k a b c phi t e d w rfl hcore hfresh hnow rfl htracks
    change execLineSample k a b c phi ⟨d, w⟩ = _
    exact State.run_of ((Device.when_guards hcore hfresh hnow).trans (Device.when_neg htracks))
  case lineLoss =>
    exact fun d w htracks hpresent hrun hdwell => show execLineLoss ⟨d, w⟩ = _ from
      State.run_when (by simp [htracks, hpresent, hrun, hdwell])
  case linePresent =>
    exact fun d w htracks hpresent hrun hfreq => show execLinePresent ⟨d, w⟩ = _ from
      State.run_when (by simp [htracks, hpresent, hrun, hfreq])
  case holdoverExpired =>
    exact fun d w htracks hstate hlaps => show execHoldoverExpired ⟨d, w⟩ = _ from
      State.run_when (by simp [htracks, hstate, hlaps])
  case lockAchieved =>
    exact fun d w htracks hstate hrun => show execLockAchieved ⟨d, w⟩ = _ from
      State.run_when (by simp [htracks, hstate, hrun])
  case lockLost =>
    exact fun d w htracks hstate hpresent hrun => show execLockLost ⟨d, w⟩ = _ from
      State.run_when (by simp [htracks, hstate, hpresent, hrun])
  case rotationChange =>
    exact fun d w htracks hrun => show execRotationChange ⟨d, w⟩ = _ from
      State.run_when (by simp [htracks, hrun])

/-- Settles O28: each is an accepted write, carried out by the effect of its object. -/
theorem lineAndRectifierWritesHaveTheirEffect : Obligations.LineAndRectifierWritesHaveTheirEffect := by
  unfold Obligations.LineAndRectifierWritesHaveTheirEffect
  refine ⟨?trackOn, ?trackOff, ?templateReset, ?holdupEnable, ?rectEnable, ?rectDisable, ?slotEnable, ?slotDisable,
    ?groupEnable, ?groupDisable, ?rectAck⟩
  case trackOn =>
    exact fun path d w h hchange => show execLineTrackEnable path ⟨d, w⟩ = _ from
      State.write_rws locate_lineTrackEnable h rfl rfl (by decide) (by decide) rfl (Device.effectLow_lineTrackEnable hchange _ _)
  case trackOff =>
    exact fun path d w h hchange => show execLineTrackDisable path ⟨d, w⟩ = _ from
      State.write_rws locate_lineTrackEnable h rfl rfl (by decide) (by decide) rfl (Device.effectLow_lineTrackEnable hchange _ _)
  case templateReset =>
    exact fun path d w h => show execTemplateReset path ⟨d, w⟩ = _ from
      State.write_wo locate_templateReset h rfl rfl (by decide) (by decide) rfl rfl
  case holdupEnable =>
    intro path on d w h
    change execHoldupEnable path on ⟨d, w⟩ = _
    refine State.write_rws locate_holdupEnable h rfl rfl (by decide) (by decide) ?_ ?_
    · cases on <;> rfl
    · cases on <;> rfl
  case rectEnable =>
    exact fun path d w h hchange => show execRectEnable path ⟨d, w⟩ = _ from
      State.write_rws locate_rectEnable h rfl rfl (by decide) (by decide) rfl (Device.effectLow_rectEnable hchange _ _)
  case rectDisable =>
    exact fun path d w h hchange => show execRectDisable path ⟨d, w⟩ = _ from
      State.write_rws locate_rectEnable h rfl rfl (by decide) (by decide) rfl (Device.effectLow_rectEnable hchange _ _)
  case slotEnable =>
    exact fun r path d w h => show execSlotEnable r path ⟨d, w⟩ = _ from
      State.write_rws (locate_slotEnable r) h rfl rfl (by simp; omega) (by simp [ownAnswerIds, ownValueIds]) rfl rfl
  case slotDisable =>
    exact fun r path d w h hchange => show execSlotDisable r path ⟨d, w⟩ = _ from
      State.write_rws (locate_slotEnable r) h rfl rfl (by simp; omega) (by simp [ownAnswerIds, ownValueIds]) rfl
        (Device.effectLow_slotDisable hchange _ _)
  case groupEnable =>
    intro b path d w h
    change execGroupEnable b path ⟨d, w⟩ = _
    cases b
    case false => exact State.write_rws locate_groupEnableA h rfl rfl (by decide) (by decide) rfl rfl
    case true => exact State.write_rws locate_groupEnableB h rfl rfl (by decide) (by decide) rfl rfl
  case groupDisable =>
    intro b path d w h
    change execGroupDisable b path ⟨d, w⟩ = _
    cases b
    case false => exact State.write_rws locate_groupEnableA h rfl rfl (by decide) (by decide) rfl rfl
    case true => exact State.write_rws locate_groupEnableB h rfl rfl (by decide) (by decide) rfl rfl
  case rectAck =>
    exact fun r path d w h => show execRectAck r path ⟨d, w⟩ = _ from
      State.write_wo (locate_rectAck r) h rfl rfl (by simp; omega) (by simp [ownAnswerIds]) rfl rfl
end

section
/-! SUPPORT. The outcome of a command that no routed edge can follow, what ties the cells' commands to it, and writes whose
bytes are no encoding of a number (00 R3, 16 R407, R411). -/

namespace Sys2Proof.Machine

theorem State.next_of {s : State} {f : Device → Device} {e : Device} (h : f s.dev = e) :
    s.next f = .next ⟨Device.linesFollow e, s.pending⟩ := by
  simp only [State.next, h]

theorem State.next_when {s : State} {b : Device → Bool} {f : Device → Device} (h : b s.dev = true) :
    s.next (fun d => d.when (b d) f) = .next ⟨Device.linesFollow (f s.dev), s.pending⟩ :=
  State.next_of (Device.when_pos h)

/-- An accepted write of an RWS object up to 0x4FFF, from its bytes: the value, its effect, then the store and the answer. -/
theorem State.writeBytes_rws {d e : Device} {w : List Instr} {path : Fin 17} {o : Obj} {k : Nat} {bs : List Byte} {v : Int}
    (hl : locate o.index o.sub = .obj o k) (h : d.accepts path o k bs) (hrws : o.access = .rws)
    (ha : o.apply ≠ .A) (hlow : o.index < 0x5000 ∧ o.index / 256 ≠ 0x1F) (hid : o.id ∉ ownAnswerIds ++ ownValueIds)
    (hv : o.kept (o.ty.decode bs) = v) (he : (d.set o v).effectLow d o k v = e) :
    State.writeBytes ⟨d, w⟩ path o bs = .next ⟨Device.linesFollow (Device.settle (e.written path o v)), w⟩ := by
  obtain ⟨hanswer, hvalue⟩ : o.id ∉ ownAnswerIds ∧ o.id ∉ ownValueIds := by simpa using hid
  refine State.writeBytes_accepted hl h ha ?_
  rw [Device.writeNow_written hanswer, hv, Device.takeEffect_value (by simp [hrws]) hvalue, Device.effect_low hlow, he]

/-- The guard of a retirement by a fault of the cell (03 R78, R79). -/
theorem Device.when_cellFails {d : Device} {k n : Nat} {p : Prop} [Decidable p] {f : Device → Device}
    (hruns : d.leRuns k = true) (hassigned : d.cellSt n ≠ 0) (hretired : d.cellSt n ≠ 7) (hp : p) :
    d.when (d.leRuns k && d.cellSt n != 0 && d.cellSt n != 7 && decide p) f = f d :=
  Device.when_pos (by simp [hruns, hassigned, hretired, hp])

/-- A pulse that its on-time has ended is measured once (03 R78). -/
theorem Device.measurePulse_ended {d : Device} {k n : Nat} {p : Pulse} (hp : (d.cell n).pulse = some p)
    (hcut : p.cut = none) (hmeasured : p.measured = false) (hended : p.fall ≤ p.age) (iStart iEnd : Int) :
    d.measurePulse k n iStart iEnd =
      (d.modCell n fun c => { c with pulse := some { p with measured := true } }).countRise k n p.on iStart iEnd := by
  simp [Device.measurePulse, hp, Device.when, hcut, hmeasured, hended]

end Sys2Proof.Machine
end

section
/-! SUPPORT. What a command leaves of the objects once the driven lines have followed it, and the frame of a command that sets
one object (12 R333, 14 R368, 17 R441). -/

namespace Sys2Proof.Machine

theorem Device.keeps_refl (d : Device) (keys : List Nat) : d.keeps d keys := fun _ _ => rfl

theorem Device.keeps_trans {a b c : Device} {keys : List Nat} (h : a.keeps b keys) (g : b.keeps c keys) : a.keeps c keys :=
  fun o ho => (g o ho).trans (h o ho)

theorem Device.keeps_set {o : Obj} {keys : List Nat} (h : o.key ∈ keys) (d : Device) (v : Int) :
    d.keeps (d.set o v) keys := by
  intro p hp
  refine Device.get_set_other (fun heq => ?_) d v
  rw [heq] at hp
  exact hp h

theorem Device.keeps_linesFollow {a b : Device} {keys : List Nat} (h : a.keeps b keys) :
    a.keeps b.linesFollow (keys ++ lineKeys) := by
  intro o ho
  rw [List.mem_append, not_or] at ho
  exact (b.linesFollow_get o ho.2).trans (h o ho.1)

theorem exec_seqRetryCountReset_some (r : Fin 24) (s : State) :
    exec (.seqRetryCountReset (some r)) s =
      s.next fun d => d.when (d.scActive && (d.subtree r).all fun q => d.railSt q == 4) fun d =>
        d.set (O.subtreeRetryCount r) 0 :=
  rfl

/-- What holds of the block a guarded command leaves, from the two cases of its guard. -/
theorem exec_when_leaves {P : Device → Prop} {c : Instr} {d : Device} {w : List Instr} {b : Device → Bool}
    {f : Device → Device} (hexec : exec c ⟨d, w⟩ = State.next ⟨d, w⟩ fun d => d.when (b d) f)
    (hacts : P (f d).linesFollow) (hrests : P d.linesFollow) : ∃ e : Device, exec c ⟨d, w⟩ = .next ⟨e, w⟩ ∧ P e := by
  cases hguard : b d with
  | true => exact ⟨_, hexec.trans (State.next_of (Device.when_pos hguard)), hacts⟩
  | false => exact ⟨_, hexec.trans (State.next_of (Device.when_neg hguard)), hrests⟩

/-- A guarded command that sets one object leaves the rest of the block as it was. -/
theorem exec_set_frame {c : Instr} {d : Device} {w : List Instr} {b : Device → Bool} (o : Obj) (v : Int)
    (hexec : exec c ⟨d, w⟩ = State.next ⟨d, w⟩ fun d => d.when (b d) fun d => d.set o v) :
    ∃ e : Device, exec c ⟨d, w⟩ = .next ⟨e, w⟩ ∧ e = { d with regs := e.regs, pins := e.pins } ∧
      d.keeps e (o.key :: lineKeys) ∧ e.pins.butLines = d.pins.butLines :=
  exec_when_leaves hexec ⟨rfl, Device.keeps_linesFollow (d.keeps_set (List.mem_singleton_self o.key) v), rfl⟩
    ⟨rfl, Device.keeps_linesFollow (d.keeps_refl [o.key]), rfl⟩

end Sys2Proof.Machine
end

section
/-! SUPPORT. What the pulses of one feed may change as they go through their edges: its pulsing cells with their outputs and
trims, and the feed's own record with its counts of rounds (03 R61–R73). -/

namespace Sys2Proof.Machine

/-- The objects that the pulses of a feed change: its counts of limited and capped rounds, and the trims of its pulsing
cells (03 R67, R73). -/
def Device.pulseKeys (d : Device) (k : Nat) : List Nat :=
  [(O.limitedRounds k).key, (O.cappedRounds k).key] ++ (d.pulsing k).map fun j => (O.balanceTrim j).key

/-- From `a` to `b` only the pulses of feed `k` have moved. -/
structure Device.MovesPulses (k : Nat) (a b : Device) : Prop where
  rest : b = { a with regs := b.regs, pins := b.pins, cells := b.cells, feeds := b.feeds, free := b.free }
  outputs : b.pins = { a.pins with pwm := b.pins.pwm }
  otherFeeds : ∀ j : Nat, j ≠ k → b.feeds[j]? = a.feeds[j]?
  objects : a.keeps b (a.pulseKeys k)
  otherCells : ∀ j : Nat, j ∉ a.pulsing k → b.pins.pwm[j]? = a.pins.pwm[j]? ∧ b.cells[j]? = a.cells[j]?
  pulsing : b.pulsing k = a.pulsing k

theorem Device.MovesPulses.refl (k : Nat) (d : Device) : Device.MovesPulses k d d :=
  ⟨rfl, rfl, fun _ _ => rfl, d.keeps_refl _, fun _ _ => ⟨rfl, rfl⟩, rfl⟩

theorem Device.MovesPulses.trans {k : Nat} {a b c : Device} (h : Device.MovesPulses k a b) (g : Device.MovesPulses k b c) :
    Device.MovesPulses k a c where
  rest := by rw [g.rest, h.rest]
  outputs := by rw [g.outputs, h.outputs]
  otherFeeds j hj := (g.otherFeeds j hj).trans (h.otherFeeds j hj)
  objects := by
    have hkeys : b.pulseKeys k = a.pulseKeys k := by rw [Device.pulseKeys, h.pulsing, Device.pulseKeys]
    exact Device.keeps_trans h.objects (hkeys ▸ g.objects)
  otherCells j hj := by
    obtain ⟨hpwm, hcell⟩ := h.otherCells j hj
    obtain ⟨gpwm, gcell⟩ := g.otherCells j (by rwa [h.pulsing])
    exact ⟨gpwm.trans hpwm, gcell.trans hcell⟩
  pulsing := g.pulsing.trans h.pulsing

theorem Device.MovesPulses.when {k : Nat} {d : Device} {f : Device → Device} (h : Device.MovesPulses k d (f d)) (b : Bool) :
    Device.MovesPulses k d (d.when b f) := by
  cases b
  · exact .refl k d
  · exact h

/-- After that, a guarded change of a pulsing cell. -/
theorem Device.MovesPulses.thenWhen {k n : Nat} {a b : Device} {f : Device → Device} (h : Device.MovesPulses k a b)
    (hn : n ∈ a.pulsing k) (hf : ∀ e : Device, n ∈ e.pulsing k → Device.MovesPulses k e (f e)) (c : Bool) :
    Device.MovesPulses k a (b.when c f) :=
  h.trans (.when (hf b (by rwa [h.pulsing])) c)

/-- One step for each of some pulsing cells. -/
theorem Device.MovesPulses.forAll {k : Nat} {f : Nat → Device → Device}
    (h : ∀ (n : Nat) (e : Device), n ∈ e.pulsing k → Device.MovesPulses k e (f n e)) (l : List Nat) (d : Device)
    (hl : ∀ n ∈ l, n ∈ d.pulsing k) : Device.MovesPulses k d (d.forAll l f) := by
  induction l generalizing d with
  | nil => exact .refl k d
  | cons n l ih =>
    obtain ⟨hn, hrest⟩ := List.forall_mem_cons.mp hl
    have hstep := h n d hn
    exact hstep.trans (ih (f n d) fun m hm => by rw [hstep.pulsing]; exact hrest m hm)

/-- The pulsing cells are found from the map, the cell states and what an early start has put into the rotation. -/
theorem Device.pulsing_congr {d e : Device} {k : Nat} (hmap : e.get (O.phaseMap k) = d.get (O.phaseMap k))
    (hstate : ∀ n : Nat, e.get (O.cellState n) = d.get (O.cellState n)) (hes : (e.feed k).es = (d.feed k).es)
    (hback : (e.feed k).drainBack = (d.feed k).drainBack) : e.pulsing k = d.pulsing k := by
  have hentry : e.mapEntry k = d.mapEntry k := funext fun j => congrArg (field · j 1) hmap
  have hcount : e.mapCount k = d.mapCount k := congrArg (field · 12 1) hmap
  have hreserve : e.mapReserve k = d.mapReserve k := congrArg (field · 13 1) hmap
  have hcells : e.feedCells k = d.feedCells k := by
    simp only [Device.feedCells, Device.listed, hentry, hcount, hreserve]
  have hcode (n : Nat) : e.cellSt n = d.cellSt n := congrArg Int.toNat (hstate n)
  unfold Device.pulsing
  dsimp only
  rw [hcells, hes, hback, funext hcode]

/-- Objects with a sub from 2 on do not decide which cells pulse. -/
theorem Device.pulsing_set {o : Obj} (h : 2 ≤ o.key % 256) (d : Device) (v : Int) (k : Nat) :
    (d.set o v).pulsing k = d.pulsing k := by
  have hkept {p : Obj} (hp : p.key % 256 < 2) : (d.set o v).get p = d.get p :=
    Device.get_set_other (fun heq => absurd hp (by rw [heq]; exact Nat.not_lt.mpr h)) d v
  exact Device.pulsing_congr (hkept (p := O.phaseMap k) (by simp only [Obj.key]; omega))
    (fun n => hkept (p := O.cellState n) (by simp only [Obj.key]; omega)) rfl rfl

theorem Device.movesPulses_set {d : Device} {k : Nat} {o : Obj} (h : o.key ∈ d.pulseKeys k) (hsub : 2 ≤ o.key % 256)
    (v : Int) : Device.MovesPulses k d (d.set o v) :=
  ⟨rfl, rfl, fun _ _ => rfl, d.keeps_set h v, fun _ _ => ⟨rfl, rfl⟩, d.pulsing_set hsub v k⟩

theorem Device.movesPulses_bump {d : Device} {k : Nat} {o : Obj} (h : o.key ∈ d.pulseKeys k) (hsub : 2 ≤ o.key % 256) :
    Device.MovesPulses k d (d.bump o) := by
  obtain ⟨v, n, hbump⟩ := d.bump_spec o
  have hset := Device.movesPulses_set h hsub v
  rw [hbump]
  exact ⟨rfl, rfl, hset.otherFeeds, hset.objects, hset.otherCells, hset.pulsing⟩

theorem Device.movesPulses_modCell {d : Device} {k n : Nat} (h : n ∈ d.pulsing k) (f : Cell → Cell) :
    Device.MovesPulses k d (d.modCell n f) :=
  ⟨rfl, rfl, fun _ _ => rfl, d.keeps_refl _,
    fun _ hj => ⟨rfl, modAt_getElem?_other _ _ _ _ fun heq => hj (heq ▸ h)⟩, rfl⟩

theorem Device.movesPulses_setPwm {d : Device} {k n : Nat} (h : n ∈ d.pulsing k) (t : Tri) :
    Device.MovesPulses k d (d.setPwm n t) :=
  ⟨rfl, rfl, fun _ _ => rfl, d.keeps_refl _,
    fun _ hj => ⟨modAt_getElem?_other _ _ _ _ fun heq => hj (heq ▸ h), rfl⟩, rfl⟩

/-- A part of a feed that a change leaves alone reads as before. -/
theorem Device.modFeed_keeps {α : Type} {part : Feed → α} {f : Feed → Feed} (h : ∀ x, part (f x) = part x) (d : Device)
    (k : Nat) : part ((d.modFeed k f).feed k) = part (d.feed k) := by
  by_cases hk : k < d.feeds.length
  · exact (congrArg part (modAt_getD_same _ _ _ _ hk)).trans (h _)
  · have hshort : (modAt d.feeds k f).length ≤ k := by rw [modAt_length]; omega
    have hkept : (d.modFeed k f).feed k = d.feed k := by
      simp only [Device.feed, Device.modFeed, List.getD_eq_getElem?_getD, List.getElem?_eq_none hshort,
        List.getElem?_eq_none (Nat.le_of_not_lt hk)]
    rw [hkept]

/-- A change of the feed's record that leaves the early start and the cells that drain back. -/
theorem Device.movesPulses_modFeed {f : Feed → Feed} (d : Device) (k : Nat)
    (hes : ∀ x : Feed, (f x).es = x.es := by exact fun _ => rfl)
    (hback : ∀ x : Feed, (f x).drainBack = x.drainBack := by exact fun _ => rfl) :
    Device.MovesPulses k d (d.modFeed k f) :=
  ⟨rfl, rfl, fun _ hj => modAt_getElem?_other _ _ _ _ hj, d.keeps_refl _, fun _ _ => ⟨rfl, rfl⟩,
    Device.pulsing_congr rfl (fun _ => rfl) (d.modFeed_keeps hes k) (d.modFeed_keeps hback k)⟩

/-- A round that is counted changes the feed's two counts and its record (03 R73, R74). -/
theorem Device.movesPulses_countRound (d : Device) (k : Nat) (r : Round) : Device.MovesPulses k d (d.countRound k r) := by
  unfold Device.countRound
  split
  · refine (Device.movesPulses_bump (o := O.limitedRounds k) ?_ ?_).trans (Device.movesPulses_modFeed _ k)
    · simp [Device.pulseKeys]
    · simp only [Obj.key]; omega
  · split
    · refine (Device.movesPulses_bump (o := O.cappedRounds k) ?_ ?_).trans (Device.movesPulses_modFeed _ k)
      · simp [Device.pulseKeys]
      · simp only [Obj.key]; omega
    · exact Device.movesPulses_modFeed d k

theorem foldl_movesPulses {α : Type} {k : Nat} {f : Device → α → Device} (h : ∀ d a, Device.MovesPulses k d (f d a))
    (l : List α) (d : Device) : Device.MovesPulses k d (l.foldl f d) := by
  induction l generalizing d with
  | nil => exact .refl k d
  | cons a l ih => exact (h d a).trans (ih _)

theorem Device.movesPulses_settleRounds (d : Device) (k : Nat) : Device.MovesPulses k d (d.settleRounds k) := by
  refine foldl_movesPulses (fun e _ => ?_) _ d
  split
  · exact .when ((e.movesPulses_countRound k _).trans (Device.movesPulses_modFeed _ k)) _
  · exact .refl k e

theorem Device.movesPulses_pulseOver (d : Device) (k no : Nat) : Device.MovesPulses k d (d.pulseOver k no) :=
  (Device.movesPulses_modFeed d k).trans (Device.movesPulses_settleRounds _ k)

theorem Device.movesPulses_trimStep {d : Device} {k n : Nat} (h : n ∈ d.pulsing k) :
    Device.MovesPulses k d (d.trimStep k n) := by
  unfold Device.trimStep
  dsimp only
  split
  · exact .refl k d
  · refine (Device.movesPulses_modCell h _).trans (Device.movesPulses_set ?_ ?_ _)
    · exact List.mem_append_right _ (List.mem_map_of_mem h)
    · simp only [Obj.key]; omega

theorem Device.movesPulses_highEdge {d : Device} {k n : Nat} (h : n ∈ d.pulsing k) :
    Device.MovesPulses k d (d.highEdge k n) := by
  have htrim := Device.movesPulses_trimStep h
  have hpwm := htrim.trans (Device.movesPulses_setPwm (htrim.pulsing ▸ h) .high)
  exact hpwm.trans (Device.movesPulses_modCell (hpwm.pulsing ▸ h) _)

/-- An edge of a pulse moves only its own feed's pulses (03 R64, R69). -/
theorem Device.movesPulses_pulseEdge {d : Device} {k n : Nat} (h : n ∈ d.pulsing k) :
    Device.MovesPulses k d (d.pulseEdge k n) := by
  unfold Device.pulseEdge
  split
  · exact .refl k d
  · refine .thenWhen (.thenWhen (.thenWhen (.thenWhen (.refl k d) h (fun e he => ?mid) _) h (fun e he => ?high) _) h
      (fun e he => ?fall) _) h (fun e he => ?low) _
    case mid => exact Device.movesPulses_setPwm he .mid
    case high => exact Device.movesPulses_highEdge he
    case fall => exact (Device.movesPulses_setPwm he .mid).trans (Device.movesPulses_pulseOver _ k _)
    case low =>
      split
      · exact Device.movesPulses_modCell he _
      · exact Device.movesPulses_setPwm he .low

/-- The levels of an interval move only the ripple of the pulsing cells and of the feed (03 R61–R63). -/
theorem Device.movesPulses_rippleFor (d : Device) (k dt : Nat) : Device.MovesPulses k d (d.rippleFor k dt) :=
  (Device.MovesPulses.forAll (fun _ _ hn => Device.movesPulses_modCell hn _) _ d fun _ hn => hn).trans
    (Device.movesPulses_modFeed _ k)

theorem Device.movesPulses_takeDead (d : Device) (k : Nat) : Device.MovesPulses k d (d.takeDead k) :=
  .forAll (fun _ _ hn => Device.movesPulses_modCell hn _) _ d fun _ hn => hn

/-- The levels of an interval, then the edges at its end. -/
theorem Device.movesPulses_edges (d : Device) (k dt : Nat) :
    Device.MovesPulses k d ((d.rippleFor k dt).forAll (d.pulsing k) fun c d => d.pulseEdge k c) := by
  have hlevels := d.movesPulses_rippleFor k dt
  exact hlevels.trans (.forAll (fun _ _ hn => Device.movesPulses_pulseEdge hn) _ _ fun _ hn => by rwa [hlevels.pulsing])

theorem Device.movesPulses_runEdges (k n dt : Nat) (d : Device) : Device.MovesPulses k d (d.runEdges k n dt) := by
  fun_induction Device.runEdges k n dt d with
  | case1 dt d => exact d.movesPulses_rippleFor k dt
  | case2 n d => exact .refl k d
  | case3 n dt d _ b _ ih => exact (d.movesPulses_edges k b).trans ih
  | case4 n dt d => exact d.movesPulses_edges k dt

/-- What passes in a feed since its previous event moves only its own pulses (03 R61–R64). -/
theorem Device.movesPulses_ripple (d : Device) (k dt : Nat) : Device.MovesPulses k d (d.ripple k dt) :=
  (d.movesPulses_takeDead k).trans (Device.movesPulses_runEdges k 64 dt _)

theorem Device.movesPulses_zeroCurrent {d : Device} {k n : Nat} (h : n ∈ d.pulsing k) :
    Device.MovesPulses k d (d.zeroCurrent n) := by
  unfold Device.zeroCurrent
  split
  · split
    · exact .refl k d
    · split
      · exact Device.movesPulses_modCell h _
      · refine .when ?_ _
        have hpwm := Device.movesPulses_setPwm h .mid
        exact hpwm.trans (Device.movesPulses_modCell (hpwm.pulsing ▸ h) _)
  · exact .refl k d

/-- A change of the record of one cell. -/
def Device.MovesCell (n : Nat) (a b : Device) : Prop :=
  b = { a with cells := b.cells } ∧ ∀ j : Nat, j ≠ n → b.cells[j]? = a.cells[j]?

theorem Device.MovesCell.refl (n : Nat) (d : Device) : Device.MovesCell n d d := ⟨rfl, fun _ _ => rfl⟩

theorem Device.MovesCell.trans {n : Nat} {a b c : Device} (h : Device.MovesCell n a b) (g : Device.MovesCell n b c) :
    Device.MovesCell n a c := by
  obtain ⟨hrest, hcells⟩ := h
  obtain ⟨grest, gcells⟩ := g
  exact ⟨by rw [grest, hrest], fun j hj => (gcells j hj).trans (hcells j hj)⟩

theorem Device.movesCell_modCell (n : Nat) (d : Device) (f : Cell → Cell) : Device.MovesCell n d (d.modCell n f) :=
  ⟨rfl, fun _ hj => modAt_getElem?_other _ _ _ _ hj⟩

/-- The comparison of a pulse's rise changes the record of its own cell only (03 R78). -/
theorem Device.movesCell_measurePulse (d : Device) (k n : Nat) (iStart iEnd : Int) :
    Device.MovesCell n d (d.measurePulse k n iStart iEnd) := by
  have hrise (e : Device) (eu : Nat) : Device.MovesCell n e (e.countRise k n eu iStart iEnd) := by
    unfold Device.countRise
    dsimp only
    split
    · exact e.movesCell_modCell n _
    · exact .refl n e
  unfold Device.measurePulse
  split
  · unfold Device.when
    split
    · exact (d.movesCell_modCell n _).trans (hrise _ _)
    · exact .refl n d
  · exact .refl n d

/-- What the lines that follow leave of a block whose changes are confined to five of its parts. -/
theorem Device.linesFollow_confined {d e : Device}
    (h : e = { d with regs := e.regs, pins := e.pins, cells := e.cells, feeds := e.feeds, free := e.free }) :
    e.linesFollow = { d with regs := e.linesFollow.regs, pins := e.linesFollow.pins, cells := e.linesFollow.cells,
                             feeds := e.linesFollow.feeds, free := e.linesFollow.free } := by
  rw [e.linesFollow_rest, h]

/-- PULSE_END and ZERO_CURRENT_DETECT of a cell of no feed. -/
theorem exec_pulse_none {n : Fin 96} {dt : Nat} {iStart iEnd : Int} {c : Instr} {d : Device}
    (hc : c = .pulseEnd n dt iStart iEnd ∨ c = .zeroCurrentDetect n dt) (hfeed : d.feedOf n = none) (w : List Instr) :
    exec c ⟨d, w⟩ = .next ⟨d.linesFollow, w⟩ := by
  rcases hc with rfl | rfl
  · change execPulseEnd n dt iStart iEnd ⟨d, w⟩ = _
    exact State.next_of (by simp only [hfeed])
  · change execZeroCurrentDetect n dt ⟨d, w⟩ = _
    exact State.next_of (by simp only [hfeed])

/-- PULSE_END and ZERO_CURRENT_DETECT of a cell of a feed: the feed's pulses move, and then at most the cell's own record. -/
theorem exec_pulse_some {n : Fin 96} {dt k : Nat} {iStart iEnd : Int} {c : Instr} {d : Device}
    (hc : c = .pulseEnd n dt iStart iEnd ∨ c = .zeroCurrentDetect n dt) (hfeed : d.feedOf n = some k) (w : List Instr) :
    ∃ a e : Device, Device.MovesPulses k d a ∧ Device.MovesCell n a e ∧ exec c ⟨d, w⟩ = .next ⟨e.linesFollow, w⟩ := by
  have hripple := d.movesPulses_ripple k dt
  rcases hc with rfl | rfl
  · refine ⟨_, _, hripple, (d.ripple k dt).movesCell_measurePulse k n iStart iEnd, ?_⟩
    change execPulseEnd n dt iStart iEnd ⟨d, w⟩ = _
    exact State.next_of (by simp only [hfeed])
  · have hzero : Device.MovesPulses k d ((d.ripple k dt).when ((d.ripple k dt).switches k && (d.ripple k dt).deActs k &&
        ((d.ripple k dt).pulsing k).contains n.val) fun d => d.zeroCurrent n) := by
      refine hripple.trans ?_
      unfold Device.when
      split
      · next hguard =>
        simp only [Bool.and_eq_true, List.contains_iff_mem] at hguard
        exact Device.movesPulses_zeroCurrent hguard.2
      · exact .refl k _
    refine ⟨_, _, hzero, .refl n _, ?_⟩
    change execZeroCurrentDetect n dt ⟨d, w⟩ = _
    exact State.next_of (by simp only [hfeed])

end Sys2Proof.Machine
end

section
open Sys2Proof Sys2Proof.Machine

/-- Settles O20: both commands let the feed's pulses move, then change the cell's own record at most. -/
theorem pulseCommandsTouchOnlyTheirFeed : Obligations.PulseCommandsTouchOnlyTheirFeed := by
  unfold Obligations.PulseCommandsTouchOnlyTheirFeed
  intro n dt iStart iEnd c d w hc
  cases hfeed : d.feedOf n with
  | none =>
    refine ⟨_, exec_pulse_none hc hfeed w, rfl, rfl, fun _ => ⟨?_, rfl, rfl⟩, fun _ _ => rfl, fun k hk => nomatch hk⟩
    exact Device.keeps_linesFollow (d.keeps_refl [])
  | some k =>
    obtain ⟨a, e, hmoves, ⟨hcell, hothers⟩, hexec⟩ := exec_pulse_some hc hfeed w
    have hpins : e.pins = a.pins := by rw [hcell]
    have hfeeds : e.feeds = a.feeds := by rw [hcell]
    have hkeeps : a.keeps e (d.pulseKeys k) := by rw [hcell]; exact a.keeps_refl _
    refine ⟨_, hexec, Device.linesFollow_confined (by rw [hcell, hmoves.rest]), ?pins,
      (fun hnone => nomatch hnone), ?feeds, ?cells⟩
    case pins =>
      rw [e.linesFollow_butLines, hpins, hmoves.outputs]
      rfl
    case feeds =>
      intro j hj
      exact (congrArg (·[j]?) hfeeds).trans (hmoves.otherFeeds j fun heq => hj (heq ▸ rfl))
    case cells =>
      rintro _ ⟨⟩
      refine ⟨Device.keeps_linesFollow (Device.keeps_trans hmoves.objects hkeeps), fun j hj => ?_⟩
      obtain ⟨hpwm, hkept⟩ := hmoves.otherCells j (by simpa using hj)
      exact ⟨(congrArg (fun p : Pins => p.pwm[j]?) hpins).trans hpwm, fun hne => (hothers j hne).trans hkept⟩

/-- Settles O21: each command sets its one object or nothing, and only DE_EXIT changes its feed as well. -/
theorem registerCommandsTouchOnlyTheirObject : Obligations.RegisterCommandsTouchOnlyTheirObject := by
  unfold Obligations.RegisterCommandsTouchOnlyTheirObject
  refine ⟨?oneObject, ?deExit⟩
  case oneObject =>
    rintro c key d w (⟨k, ⟨rfl, rfl⟩ | ⟨rfl, rfl⟩⟩ | ⟨r, rfl, rfl⟩ | ⟨rfl, rfl⟩ | ⟨n, rfl, rfl⟩)
    case inl.inl => exact exec_set_frame (O.ocState k) 0 (show execRecoveryComplete k ⟨d, w⟩ = _ from rfl)
    case inl.inr => exact exec_set_frame (O.deActive k) 1 (show execDeEntry k ⟨d, w⟩ = _ from rfl)
    case inr.inl => exact exec_set_frame (O.subtreeRetryCount r) 0 (exec_seqRetryCountReset_some r ⟨d, w⟩)
    case inr.inr.inl =>
      exact exec_set_frame O.sequenceRetryCount 0 (show execSeqRetryCountReset none ⟨d, w⟩ = _ from rfl)
    case inr.inr.inr => exact exec_set_frame (O.disagree n) 0 (show execDisagreeClear n ⟨d, w⟩ = _ from rfl)
  case deExit =>
    intro k d w
    refine exec_when_leaves (show execDeExit k ⟨d, w⟩ = _ from rfl)
      ⟨rfl, ?_, rfl, fun _ hj => modAt_getElem?_other _ _ _ _ hj⟩ ⟨rfl, ?_, rfl, fun _ _ => rfl⟩
    · exact Device.keeps_linesFollow (d.keeps_set (o := O.deActive k) (List.mem_singleton_self _) 0)
    · exact Device.keeps_linesFollow (d.keeps_refl [(O.deActive k).key])

/-- Settles O29: each command is a guarded change of the block; a pulse is looked up after the ripple up to it. -/
theorem pulseCommandsHaveTheirEffect : Obligations.PulseCommandsHaveTheirEffect := by
  unfold Obligations.PulseCommandsHaveTheirEffect
  refine ⟨?triggerFire, ?pulseEnd, ?currentLimitTrip, ?zeroCurrentDetect, ?floorPulse, ?deEntry, ?deExit⟩
  case triggerFire =>
    exact fun k dt rearmed d w hswitches => show execTriggerFire k dt rearmed ⟨d, w⟩ = _ from State.next_when hswitches
  case pulseEnd =>
    rintro n dt iStart iEnd k p e d w hfeed rfl hp hcut hmeasured hended
    change execPulseEnd n dt iStart iEnd ⟨d, w⟩ = _
    refine State.next_of ?_
    simp only [hfeed]
    exact Device.measurePulse_ended hp hcut hmeasured hended iStart iEnd
  case currentLimitTrip =>
    rintro n dt k p e d w hfeed rfl hp hcut hblank hhigh
    change execCurrentLimitTrip n dt ⟨d, w⟩ = _
    refine State.run_of ?_
    simp only [hfeed, Device.limitPulse, hp]
    exact Device.when_pos (by simp [hcut, hblank, hhigh])
  case zeroCurrentDetect =>
    rintro n dt k p e d w hfeed rfl hswitches hacts hpulsing hp hended hlow
    change execZeroCurrentDetect n dt ⟨d, w⟩ = _
    refine State.next_of ?_
    simp only [hfeed]
    refine (Device.when_pos (by simp only [hswitches, hacts, hpulsing, Bool.and_self])).trans ?_
    simp only [Device.zeroCurrent, hp]
    exact if_neg (by simp [hended, hlow])
  case floorPulse =>
    exact fun k dt rearmed d w hswitches hacts hfloor => show execFloorPulse k dt rearmed ⟨d, w⟩ = _ from
      State.next_when (by simp [hswitches, hacts, hfloor])
  case deEntry =>
    exact fun k d w hswitches henable hes hmean => show execDeEntry k ⟨d, w⟩ = _ from
      State.next_when (by simp [hswitches, henable, hes, hmean])
  case deExit =>
    exact fun k d w hswitches hforced hmean => show execDeExit k ⟨d, w⟩ = _ from
      State.next_when (by simp [hswitches, hforced, hmean])

/-- Settles O30: each command is a guarded change of the block, and its guard holds. -/
theorem cellFaultCommandsHaveTheirEffect : Obligations.CellFaultCommandsHaveTheirEffect := by
  unfold Obligations.CellFaultCommandsHaveTheirEffect
  refine ⟨?hiccupEntry, ?hiccupRestart, ?recoveryComplete, ?testPass, ?testFail, ?openPhase, ?imonRange, ?sumCheck,
    ?capacityLimit⟩
  case hiccupEntry =>
    exact fun k d w hruns hfeed hoc hrounds => show execHiccupEntry k ⟨d, w⟩ = _ from
      State.run_of ((Device.when_pos hruns).trans (if_pos ⟨hfeed, hoc, hrounds⟩))
  case hiccupRestart =>
    exact fun k d w hruns hfeed hoc => show execHiccupRestart k ⟨d, w⟩ = _ from
      State.next_when (by simp [hruns, hfeed, hoc])
  case recoveryComplete =>
    exact fun k d w hruns hfeed hoc => show execRecoveryComplete k ⟨d, w⟩ = _ from
      State.next_when (by simp [hruns, hfeed, hoc])
  case testPass => exact fun k d w hruns => show execPrestartTestPass k ⟨d, w⟩ = _ from State.run_when hruns
  case testFail =>
    exact fun k positions d w hlive hfeed => show execPrestartTestFail k positions ⟨d, w⟩ = _ from
      State.run_when (by simpa [hlive] using hfeed)
  case openPhase =>
    intro n k d w hfeed hruns hassigned hretired hrises
    change execOpenPhase n ⟨d, w⟩ = _
    refine State.run_of ?_
    simp only [hfeed]
    exact Device.when_cellFails hruns hassigned hretired hrises
  case imonRange =>
    intro n k d w hfeed hruns hassigned hretired hrange
    change execImonRangeFault n ⟨d, w⟩ = _
    refine State.run_of ?_
    simp only [hfeed]
    exact Device.when_cellFails hruns hassigned hretired hrange
  case sumCheck =>
    rintro k l d w rfl hruns hsamples hsuspended
    change execSumCheckJudgement k ⟨d, w⟩ = _
    exact State.run_of (Device.when_pos (by simp [hruns, hsamples, hsuspended]))
  case capacityLimit =>
    exact fun k mean d w hruns hretired hlimit hmean => show execCapacityLimit k mean ⟨d, w⟩ = _ from
      State.next_when (by simp [hruns, hretired, hlimit, hmean])

/-- Settles O33: each is an accepted write, carried out by the effect of its object. -/
theorem feedWritesHaveTheirEffect : Obligations.FeedWritesHaveTheirEffect := by
  unfold Obligations.FeedWritesHaveTheirEffect
  refine ⟨?readmit, ?phaseMap, ?feedEnable, ?feedDisable, ?targetVoltage, ?linkEnable⟩
  case readmit =>
    exact fun n path d w h => show execReadmit n path ⟨d, w⟩ = _ from
      State.write_wo (locate_readmit n) h rfl rfl (by simp; omega) (by simp [ownAnswerIds]) rfl rfl
  case phaseMap =>
    exact fun k path map d w h => show execPhaseMapWrite k path map ⟨d, w⟩ = _ from
      State.writeBytes_rws (locate_phaseMap k) h rfl (by simp) (by simp; omega) (by simp [ownAnswerIds, ownValueIds]) rfl rfl
  case feedEnable =>
    exact fun k path d w h => show execFeedEnable k path ⟨d, w⟩ = _ from
      State.write_rws (locate_feedEnable k) h rfl rfl (by simp; omega) (by simp [ownAnswerIds, ownValueIds]) rfl rfl
  case feedDisable =>
    exact fun k path d w h => show execFeedDisable k path ⟨d, w⟩ = _ from
      State.write_rws (locate_feedEnable k) h rfl rfl (by simp; omega) (by simp [ownAnswerIds, ownValueIds]) rfl rfl
  case targetVoltage =>
    exact fun k path mv d w h => show execTargetVoltageWrite k path mv ⟨d, w⟩ = _ from
      State.write_rws (locate_targetVoltage k) h rfl rfl (by simp; omega) (by simp [ownAnswerIds, ownValueIds])
        (Ty.decode_encode rfl rfl mv.isLt) rfl
  case linkEnable =>
    intro k path on d w h
    change execZflLinkEnableWrite k path on ⟨d, w⟩ = _
    refine State.write_rws (locate_linkEnable k) h rfl rfl (by simp; omega) (by simp [ownAnswerIds, ownValueIds]) ?_ ?_
    · cases on <;> rfl
    · cases on <;> rfl
end

section
open Sys2Proof Sys2Proof.Machine

/-- Settles O31: each command is a guarded change of the block, and its guard holds. The order of DRAIN_COMPLETE (the cells that
drain back first) is assumption log entry 41. -/
theorem feedCommandsHaveTheirEffect : Obligations.FeedCommandsHaveTheirEffect := by
  unfold Obligations.FeedCommandsHaveTheirEffect
  refine ⟨?loopSample, ?reached, ?shedStart, ?drainComplete, ?phaseAdd, ?stepEsWindowClose, ?stopComplete⟩
  case loopSample =>
    exact fun k dt vfb iF vbus imon d w hcore => show execLoopSample k dt vfb iF vbus imon ⟨d, w⟩ = _ from
      State.next_when hcore
  case reached =>
    exact fun k d w hruns hstate hsettling hreached => show execReached k ⟨d, w⟩ = _ from
      State.next_when (by simp [hruns, hstate, hsettling, hreached])
  case shedStart =>
    exact fun k d w hruns henable hstate hoc hphases hes hdraining hback hcapped hstepped hlevel =>
      show execShedStart k ⟨d, w⟩ = _ from
        State.next_when (by
          simp only [hruns, henable, hstate, hoc, hphases, hes, hdraining, hback, hcapped, hstepped, hlevel]
          rfl)
  case drainComplete =>
    exact fun k d w hruns hes => show execDrainComplete k ⟨d, w⟩ = _ from
      State.next_when (by simp only [hruns, hes, Bool.and_self])
  case phaseAdd =>
    exact fun k d w hruns hstate hlevel => show execPhaseAdd k ⟨d, w⟩ = _ from
      State.next_when (by simp [hruns, hstate, hlevel])
  case stepEsWindowClose =>
    exact fun k es d w hes hruns hended => show execStepEsWindowClose k ⟨d, w⟩ = _ from
      State.next_when (by simp [hes, hruns, hended])
  case stopComplete =>
    exact fun k d w hruns hstate horder htarget => show execStopComplete k ⟨d, w⟩ = _ from
      State.run_when (by simp only [hruns, hstate, horder, htarget]; rfl)

/-- Settles O32: each command is a guarded change of the block, and its guard holds. That BUS_OUT_OF_RANGE sends a feed of
FeedEnable 0 to DISABLED is assumption log entry 39. -/
theorem feedFaultCommandsHaveTheirEffect : Obligations.FeedFaultCommandsHaveTheirEffect := by
  unfold Obligations.FeedFaultCommandsHaveTheirEffect
  refine ⟨?startTimeout, ?outputOv, ?outputUv, ?senseOpen, ?busOutOfRange, ?busRestart⟩
  case startTimeout =>
    exact fun k d w hruns hstate => show execStartTimeout k ⟨d, w⟩ = _ from
      State.run_when (by simp [hruns, hstate])
  case outputOv =>
    exact fun k d w hswitches hrun => show execOutputOv k ⟨d, w⟩ = _ from
      State.run_when (by simp [hswitches, hrun])
  case outputUv =>
    exact fun k d w hruns hrun hstate hoc hcapped => show execOutputUv k ⟨d, w⟩ = _ from
      State.run_when (by simp [hruns, hrun, hstate, hoc, hcapped])
  case senseOpen =>
    exact fun k d w hruns henabled hnotLatched hnotFaulted hrun => show execSenseOpen k ⟨d, w⟩ = _ from
      State.run_when (by simp [hruns, henabled, hnotLatched, hnotFaulted, hrun])
  case busOutOfRange =>
    exact fun k d w hruns hlow hhigh hrun => show execBusOutOfRange k ⟨d, w⟩ = _ from
      State.run_when (by simp [hruns, hlow, hhigh, hrun])
  case busRestart =>
    exact fun k d w hruns hstate hlow hhigh => show execBusRestart k ⟨d, w⟩ = _ from
      State.next_when (by simp [hruns, hstate, hlow, hhigh])
end

section
/-! SUPPORT. What a link does with a tray's command that is well formed and whose number is new (05 R134, R139). -/

namespace Sys2Proof.Machine

/-- A tray's command passes the stages of its frame and of its number, and its content is judged after the frame is counted. -/
theorem Device.command_new {d : Device} {k type : Nat} {seq : Byte} {payload : List Byte} {len : Nat}
    {reserved : List (Nat × Nat)} {content : Device → Device} (hup : d.get (O.linkState k) = 2) (hlive : d.live = true)
    (hwell : badOffset len reserved payload = none)
    (hnew : (((d.rxFrame k).link k).last.map fun a => a.1) ≠ some seq.toNat) :
    d.command k type seq payload len reserved content = content (d.rxFrame k) := by
  rw [Device.command, if_pos ⟨hup, hlive⟩]
  cases hlast : ((d.rxFrame k).link k).last with
  | none => simp only [hwell, hlast]
  | some last =>
    have hseq : last.1 ≠ seq.toNat := by simpa [hlast] using hnew
    simp only [hwell, hlast, if_neg hseq]

/-- The answer to a SetVoltage, a Hint or a Query whose number is new, from what its content leaves. -/
theorem State.next_command_new {d e : Device} {w : List Instr} {k type : Nat} {seq : Byte} {payload : List Byte} {len : Nat}
    {reserved : List (Nat × Nat)} {content : Device → Device} (hup : d.get (O.linkState k) = 2) (hlive : d.live = true)
    (hwell : badOffset len reserved payload = none)
    (hnew : (((d.rxFrame k).link k).last.map fun a => a.1) ≠ some seq.toNat) (he : content (d.rxFrame k) = e) :
    State.next ⟨d, w⟩ (fun d => d.command k type seq payload len reserved content) = .next ⟨Device.linesFollow e, w⟩ :=
  State.next_of ((Device.command_new hup hlive hwell hnew).trans he)

end Sys2Proof.Machine
end

section
open Sys2Proof Sys2Proof.Machine

/-- Settles O34: a new command of the tray is judged by its content, the other frames by their own guards. The free DETAIL of a
Hint out of range is assumption log entry 44; that a corrupt frame counts in TRAINING too, with its missed turn, is entry 45. -/
theorem linkFramesHaveTheirEffect : Obligations.LinkFramesHaveTheirEffect := by
  unfold Obligations.LinkFramesHaveTheirEffect
  refine ⟨?setVoltage, ?setVoltageRefused, ?hint, ?query, ?idle, ?trayAck, ?unknownType, ?corruptFrame⟩
  case setVoltage =>
    exact fun k seq payload d w hup hlive hwell hnew hnone => show execZflSetVoltage k seq payload ⟨d, w⟩ = _ from
      State.next_command_new hup hlive hwell hnew (by simp only [hnone])
  case setVoltageRefused =>
    exact fun k seq payload r x d w hup hlive hwell hnew hrefused => show execZflSetVoltage k seq payload ⟨d, w⟩ = _ from
      State.next_command_new hup hlive hwell hnew (by simp only [hrefused])
  case hint =>
    exact fun k seq payload d w hup hlive hwell hnew => show execZflHint k seq payload ⟨d, w⟩ = _ from
      State.next_command_new hup hlive hwell hnew rfl
  case query =>
    exact fun k seq payload d w hup hlive hwell hnew => show execZflQuery k seq payload ⟨d, w⟩ = _ from
      State.next_command_new hup hlive hwell hnew rfl
  case idle =>
    exact fun k seq payload d w hnotDown hlive hempty => show execZflIdle k seq payload ⟨d, w⟩ = _ from
      State.next_of (by simp [hnotDown, hlive, hempty])
  case trayAck =>
    exact fun k seq payload n d w hup hlive hwell hout hseq hkind => show execZflTrayAck k seq payload ⟨d, w⟩ = _ from
      State.next_of (by simp only [hup, hlive, hwell, hout, hseq, hkind, and_self, if_true])
  case unknownType =>
    exact fun k type seq payload d w hlive hup hunknown => show execZflUnknownType k type seq payload ⟨d, w⟩ = _ from
      State.next_of (by simp only [hunknown, hlive, hup]; rfl)
  case corruptFrame =>
    exact fun k d w hlive hnotDown => show execZflCorruptFrame k ⟨d, w⟩ = _ from State.run_when (by simp [hlive, hnotDown])

/-- Settles O35: each command is a guarded change of the block, and its guard holds. -/
theorem linkCommandsHaveTheirEffect : Obligations.LinkCommandsHaveTheirEffect := by
  unfold Obligations.LinkCommandsHaveTheirEffect
  refine ⟨?alert, ?beat, ?turnMissed, ?noticeTimeout, ?trainingStart, ?trainingComplete, ?trainingRetry⟩
  case alert =>
    exact fun k d w hlive hup => show execZflAlert k ⟨d, w⟩ = _ from State.next_when (by simp [hlive, hup])
  case beat =>
    exact fun k d w hlive hup => show execZflBeat k ⟨d, w⟩ = _ from State.next_when (by simp [hlive, hup])
  case turnMissed =>
    exact fun k d w hlive hnotDown => show execZflTurnMissed k ⟨d, w⟩ = _ from State.run_when (by simp [hlive, hnotDown])
  case noticeTimeout =>
    exact fun k d w hlive hup => show execZflNoticeTimeout k ⟨d, w⟩ = _ from State.run_when (by simp [hlive, hup])
  case trainingStart =>
    exact fun k d w hlive henable hgate hdown => show execZflTrainingStart k ⟨d, w⟩ = _ from
      State.next_when (by simp [hlive, henable, hgate, hdown])
  case trainingComplete =>
    exact fun k tap d w hdone htap => show execZflTrainingComplete k tap ⟨d, w⟩ = _ from
      State.next_when (by simp [hdone, htap])
  case trainingRetry =>
    exact fun k d w hdone hnone => show execZflTrainingRetry k ⟨d, w⟩ = _ from
      State.next_when (by simp only [hdone, hnone, Bool.and_self])
end

section
/-! SUPPORT. What a command of one tray gate may change, and what the written objects of the gates bring (06 R156–R171). -/

namespace Sys2Proof.Machine

/-- The objects in which a tray gate shows its state, its presence and its retries (06 R156, R157, R161). -/
def trayGateKeys (k : Nat) : List Nat := [(O.tgState k).key, (O.presence k).key, (O.tgRetryCount k).key]

/-- From `a` to `b` only tray gate `k` has changed: its record, and the objects of `trayGateKeys`. -/
structure Device.MovesGate (k : Nat) (a b : Device) : Prop where
  rest : b = { a with regs := b.regs, gates := b.gates }
  objects : a.keeps b (trayGateKeys k)
  otherGates : ∀ j : Nat, j ≠ k → b.gates[j]? = a.gates[j]?

theorem Device.MovesGate.refl (k : Nat) (d : Device) : Device.MovesGate k d d :=
  ⟨rfl, d.keeps_refl _, fun _ _ => rfl⟩

theorem Device.MovesGate.trans {k : Nat} {a b c : Device} (h : Device.MovesGate k a b) (g : Device.MovesGate k b c) :
    Device.MovesGate k a c where
  rest := by rw [g.rest, h.rest]
  objects := Device.keeps_trans h.objects g.objects
  otherGates j hj := (g.otherGates j hj).trans (h.otherGates j hj)

theorem Device.MovesGate.when {k : Nat} {d : Device} {f : Device → Device} (h : Device.MovesGate k d (f d)) (b : Bool) :
    Device.MovesGate k d (d.when b f) := by
  cases b
  · exact .refl k d
  · exact h

theorem Device.movesGate_set {k : Nat} {o : Obj} (h : o.key ∈ trayGateKeys k) (d : Device) (v : Int) :
    Device.MovesGate k d (d.set o v) :=
  ⟨rfl, d.keeps_set h v, fun _ _ => rfl⟩

theorem Device.movesGate_modGate (k : Nat) (d : Device) (f : TrayGate → TrayGate) : Device.MovesGate k d (d.modGate k f) :=
  ⟨rfl, fun _ _ => rfl, fun _ hj => modAt_getElem?_other _ _ _ _ hj⟩

theorem Device.movesGate_presenceAnew (d : Device) (k : Nat) : Device.MovesGate k d (d.presenceAnew k) :=
  (d.movesGate_set (by simp [trayGateKeys]) _).trans (Device.movesGate_modGate k _ _)

/-- What is left of the rest of the block once the driven lines have followed a change of one tray gate. -/
theorem Device.MovesGate.linesFollow {k : Nat} {d e : Device} (h : Device.MovesGate k d e) :
    e.linesFollow = { d with regs := e.linesFollow.regs, pins := e.linesFollow.pins, gates := e.linesFollow.gates } ∧
      d.keeps e.linesFollow (trayGateKeys k ++ lineKeys) ∧ e.linesFollow.pins.butLines = d.pins.butLines ∧
      ∀ j : Nat, j ≠ k → e.linesFollow.gates[j]? = d.gates[j]? := by
  refine ⟨?rest, Device.keeps_linesFollow h.objects, ?pins, h.otherGates⟩
  case rest => rw [e.linesFollow_rest, h.rest]
  case pins => rw [e.linesFollow_butLines, h.rest]

/-- From `a` to `b` only the drive of diode gate `g` and its flag of conduction have changed. -/
structure Device.MovesDrive (g : Nat) (a b : Device) : Prop where
  rest : b = { a with regs := b.regs, pins := b.pins }
  objects : a.keeps b [(O.conducting g).key]
  otherPins : b.pins = { a.pins with gate := b.pins.gate }
  otherDrives : ∀ j : Nat, j ≠ g → b.pins.gate[j]? = a.pins.gate[j]?

theorem Device.MovesDrive.refl (g : Nat) (d : Device) : Device.MovesDrive g d d :=
  ⟨rfl, d.keeps_refl _, rfl, fun _ _ => rfl⟩

theorem Device.movesDrive_conducting (d : Device) (g : Nat) (on : Bool) (x : Drive) :
    Device.MovesDrive g d ((d.setFlag (O.conducting g) on).setDrive g x) where
  rest := rfl
  objects := d.keeps_set (o := O.conducting g) (List.mem_singleton_self _) (b2i on)
  otherPins := rfl
  otherDrives _ hj := modAt_getElem?_other _ _ _ _ hj

/-- What is left of the rest of the block once the driven lines have followed a change of one drive. -/
theorem Device.MovesDrive.linesFollow {g : Nat} {d e : Device} (h : Device.MovesDrive g d e) :
    e.linesFollow = { d with regs := e.linesFollow.regs, pins := e.linesFollow.pins } ∧
      d.keeps e.linesFollow ((O.conducting g).key :: lineKeys) ∧
      { e.linesFollow.pins.butLines with gate := d.pins.gate } = d.pins.butLines ∧
      ∀ j : Nat, j ≠ g → e.linesFollow.pins.gate[j]? = d.pins.gate[j]? := by
  refine ⟨?rest, Device.keeps_linesFollow h.objects, ?pins, h.otherDrives⟩
  case rest => rw [e.linesFollow_rest, h.rest]
  case pins =>
    rw [e.linesFollow_butLines, h.otherPins]
    rfl

theorem Device.effectLow_tgEnable {old : Device} {k : Nat} {v : Int} (h : old.get (O.tgEnable k) ≠ v) (d : Device) (n : Nat) :
    d.effectLow old (O.tgEnable k) n v = if v = 1 then d.tgEnableNow n else d.tgDisableNow n :=
  Device.when_pos (f := fun d => if v = 1 then d.tgEnableNow n else d.tgDisableNow n) (bne_iff_ne.mpr h)

theorem Device.effectLow_gateRequest {old : Device} {g : Nat} {v : Int} (h : old.get (O.gateRequest g) ≠ v) (d : Device)
    (n : Nat) : d.effectLow old (O.gateRequest g) n v = if v = 1 then d.requestDiode n else d.requestOff n :=
  Device.when_pos (f := fun d => if v = 1 then d.requestDiode n else d.requestOff n) (bne_iff_ne.mpr h)

/-- The block after an accepted write of an RWS object up to 0x4FFF: its effect, then the store and the answer. -/
theorem Device.hostWrite_rws {d e : Device} {path k : Nat} {o : Obj} {bs : List Byte} {v : Int}
    (hl : locate o.index o.sub = .obj o k) (h : d.accepts path o k bs) (hrws : o.access = .rws) (ha : o.apply ≠ .A)
    (hlow : o.index < 0x5000 ∧ o.index / 256 ≠ 0x1F) (hid : o.id ∉ ownAnswerIds ++ ownValueIds)
    (hv : o.kept (o.ty.decode bs) = v) (he : (d.set o v).effectLow d o k v = e) :
    d.hostWrite path o.index o.sub bs true = e.written path o v := by
  obtain ⟨hanswer, hvalue⟩ : o.id ∉ ownAnswerIds ∧ o.id ∉ ownValueIds := by simpa using hid
  rw [Device.hostWrite_accepted hl h ha, Device.writeNow_written hanswer, hv,
    Device.takeEffect_value (by simp [hrws]) hvalue, Device.effect_low hlow, he]

/-- The objects of a diode gate share their index, which lies below 0x5000 (06 R178). -/
theorem gateRequest_low (g : Fin 6) : (O.gateRequest g).index < 0x5000 ∧ (O.gateRequest g).index / 256 ≠ 0x1F := by
  simp only
  split
  · omega
  · omega

/-- The block with the drop V_AK of an ideal-diode gate known, or not known (06 R167). -/
def Device.setVak (d : Device) (g : Nat) (v : Option Rat) : Device :=
  { d with diodes := modAt d.diodes g fun x => { x with vak := v } }

/-- GATE_REQUEST_DIODE is a write of the request during which V_AK is known. -/
theorem exec_gateRequestDiode (g : Fin 6) (path : Fin 17) (vak : Int) (s : State) :
    exec (.gateRequestDiode g path vak) s = s.run fun d =>
      d.when (d.mayWrite path (O.gateRequest g).index 1) fun d =>
        ((d.setVak g (some (vak / 1000))).hostWrite path (O.gateRequest g).index 1 [1] true).setVak g none :=
  rfl

end Sys2Proof.Machine
end

section
open Sys2Proof Sys2Proof.Machine

/-- Settles O19: each command of a tray gate moves that gate only; DIODE_TURN_ON sets one flag and one drive. -/
theorem gateCommandsTouchOnlyTheirGate : Obligations.GateCommandsTouchOnlyTheirGate := by
  unfold Obligations.GateCommandsTouchOnlyTheirGate
  refine ⟨?trayGate, ?diodeTurnOn⟩
  case trayGate =>
    intro k c d w hc
    have hrests := (Device.MovesGate.refl k d).linesFollow
    rcases hc with rfl | rfl | rfl | rfl | rfl
    case inl =>
      have hstate : Device.MovesGate k d (d.set (O.tgState k) 3) := d.movesGate_set (by simp [trayGateKeys]) 3
      have hmoves := hstate.trans (Device.movesGate_modGate k _ fun g => { g with delayMet := true })
      exact exec_when_leaves (show execInsertDelayMet k ⟨d, w⟩ = _ from rfl) hmoves.linesFollow hrests
    case inr.inl =>
      exact exec_when_leaves (show execFoldbackEntry k ⟨d, w⟩ = _ from rfl) (d.movesGate_modGate k _).linesFollow hrests
    case inr.inr.inl =>
      exact exec_when_leaves (show execFoldbackRecovery k ⟨d, w⟩ = _ from rfl) (d.movesGate_modGate k _).linesFollow hrests
    case inr.inr.inr.inl =>
      have hmoves : Device.MovesGate k d (d.set (O.tgRetryCount k) 0) := d.movesGate_set (by simp [trayGateKeys]) 0
      exact exec_when_leaves (show execTgRetryReset k ⟨d, w⟩ = _ from rfl) hmoves.linesFollow hrests
    case inr.inr.inr.inr =>
      have hpresence : Device.MovesGate k d (d.setFlag (O.presence k) true) :=
        d.movesGate_set (by simp [trayGateKeys]) (b2i true)
      have hmoves := hpresence.trans
        (.when (f := fun d => d.presenceAnew k) (Device.movesGate_presenceAnew _ k) (d.tgSt k == 1))
      exact exec_when_leaves (show execPresenceQualified k ⟨d, w⟩ = _ from rfl) hmoves.linesFollow hrests
  case diodeTurnOn =>
    exact fun g d w => exec_when_leaves (show execDiodeTurnOn g ⟨d, w⟩ = _ from rfl)
      (d.movesDrive_conducting g true _).linesFollow (Device.MovesDrive.refl g d).linesFollow

/-- Settles O36: each command is a guarded change of the block, and its guard holds. -/
theorem trayGateCommandsHaveTheirEffect : Obligations.TrayGateCommandsHaveTheirEffect := by
  unfold Obligations.TrayGateCommandsHaveTheirEffect
  refine ⟨?qualifiedAbsent, ?qualifiedElsewhere, ?presenceLoss, ?insertDelayMet, ?inrushStart, ?inrushDone, ?inrushTimeout,
    ?tgShort, ?foldbackEntry, ?foldbackTimeout, ?foldbackRecovery, ?openNoTrip, ?cooldownEnd, ?retryReset⟩
  case qualifiedAbsent =>
    exact fun k d w hlive hstate => show execPresenceQualified k ⟨d, w⟩ = _ from
      State.next_of ((Device.when_pos hlive).trans (Device.when_pos (by simp [hstate])))
  case qualifiedElsewhere =>
    exact fun k d w hlive hstate => show execPresenceQualified k ⟨d, w⟩ = _ from
      State.next_of ((Device.when_pos hlive).trans (Device.when_neg (by simp [hstate])))
  case presenceLoss => exact fun k d w hcore => show execPresenceLoss k ⟨d, w⟩ = _ from State.run_when hcore
  case insertDelayMet =>
    exact fun k d w hlive hstate => show execInsertDelayMet k ⟨d, w⟩ = _ from State.next_when (by simp [hlive, hstate])
  case inrushStart =>
    exact fun k d w hlive hstate hcloses => show execInrushStart k ⟨d, w⟩ = _ from
      State.next_when (by simp [hlive, hstate, hcloses])
  case inrushDone =>
    exact fun k samples d w hlive hstate => show execInrushDone k samples ⟨d, w⟩ = _ from
      State.next_when (by simp [hlive, hstate])
  case inrushTimeout =>
    exact fun m d w hlive hstate => show execInrushTimeout m ⟨d, w⟩ = _ from State.run_when (by simp [hlive, hstate])
  case tgShort =>
    exact fun k d w hlive hdriven => show execTgShort k ⟨d, w⟩ = _ from State.run_when (by simpa [hlive] using hdriven)
  case foldbackEntry =>
    exact fun k d w hlive hstate => show execFoldbackEntry k ⟨d, w⟩ = _ from State.next_when (by simp [hlive, hstate])
  case foldbackTimeout =>
    exact fun k d w hlive hstate hfoldback => show execFoldbackTimeout k ⟨d, w⟩ = _ from
      State.run_when (by simp [hlive, hstate, hfoldback])
  case foldbackRecovery =>
    exact fun k d w hlive hstate => show execFoldbackRecovery k ⟨d, w⟩ = _ from State.next_when (by simp [hlive, hstate])
  case openNoTrip =>
    intro k window d w hlost hdriven
    change execTgOpenNoTrip k window ⟨d, w⟩ = _
    have hcause : (if window then d.tgWindowLost k else d.tgFeedLost k) = true := by
      rcases hlost with ⟨rfl, hwindow⟩ | ⟨rfl, hfeed⟩
      · exact hwindow
      · exact hfeed
    exact State.next_of ((Device.when_pos hcause).trans (Device.when_pos (by simpa using hdriven)))
  case cooldownEnd =>
    exact fun k d w hlive hstate => show execCooldownEnd k ⟨d, w⟩ = _ from State.next_when (by simp [hlive, hstate])
  case retryReset =>
    exact fun k d w hlive hstate => show execTgRetryReset k ⟨d, w⟩ = _ from State.next_when (by simp [hlive, hstate])

/-- Settles O37: each is an accepted write, carried out by the effect of its object. That GATE_REQUEST_DIODE brings V_AK is
assumption log entry 50. -/
theorem gateWritesHaveTheirEffect : Obligations.GateWritesHaveTheirEffect := by
  unfold Obligations.GateWritesHaveTheirEffect
  refine ⟨?tgAck, ?tgEnable, ?tgDisable, ?requestDiode, ?requestOff, ?gateAck⟩
  case tgAck =>
    exact fun k path d w h => show execTgAck k path ⟨d, w⟩ = _ from
      State.write_wo (locate_tgAck k) h rfl rfl (by simp; omega) (by simp [ownAnswerIds]) rfl rfl
  case tgEnable =>
    exact fun k path d w h hchange => show execTgEnable k path ⟨d, w⟩ = _ from
      State.write_rws (locate_tgEnable k) h rfl rfl (by simp; omega) (by simp [ownAnswerIds, ownValueIds]) rfl
        (Device.effectLow_tgEnable hchange _ _)
  case tgDisable =>
    exact fun k path d w h hchange => show execTgDisable k path ⟨d, w⟩ = _ from
      State.write_rws (locate_tgEnable k) h rfl rfl (by simp; omega) (by simp [ownAnswerIds, ownValueIds]) rfl
        (Device.effectLow_tgEnable hchange _ _)
  case requestDiode =>
    rintro g path vak _ d w rfl h hchange
    have ⟨hmay, _⟩ := h
    have hwrite : (d.setVak g (some (vak / 1000))).hostWrite path (O.gateRequest g).index (O.gateRequest g).sub [1] true =
        (((d.setVak g (some (vak / 1000))).set (O.gateRequest g) 1).requestDiode g).written path (O.gateRequest g) 1 :=
      Device.hostWrite_rws (locate_gateRequest g) h rfl (by simp) (gateRequest_low g)
        (by simp [ownAnswerIds, ownValueIds]) rfl (Device.effectLow_gateRequest hchange _ _)
    rw [exec_gateRequestDiode]
    exact State.run_of ((Device.when_pos hmay).trans (congrArg (·.setVak g none) hwrite))
  case requestOff =>
    exact fun g path d w h hchange => show execGateRequestOff g path ⟨d, w⟩ = _ from
      State.write_rws (locate_gateRequest g) h rfl rfl (gateRequest_low g) (by simp [ownAnswerIds, ownValueIds]) rfl
        (Device.effectLow_gateRequest hchange _ _)
  case gateAck =>
    exact fun g path d w h => show execGateAck g path ⟨d, w⟩ = _ from
      State.write_wo (locate_gateAck g) h rfl rfl (gateRequest_low g) (by simp [ownAnswerIds]) rfl rfl

/-- Settles O38: each command is a guarded change of the block, and its guard holds. That the filter of the bus bar starts at a
free value is assumption log entry 47. -/
theorem diodeGateCommandsHaveTheirEffect : Obligations.DiodeGateCommandsHaveTheirEffect := by
  unfold Obligations.DiodeGateCommandsHaveTheirEffect
  refine ⟨?prechargeDone, ?prechargeTimeout, ?reverseTurnOff, ?diodeTurnOn, ?dropFault, ?bankShorted, ?busBarMeasure⟩
  case prechargeDone =>
    exact fun g d w hpowered hmode => show execPrechargeDone g ⟨d, w⟩ = _ from
      State.next_when (by simp [hpowered, hmode])
  case prechargeTimeout =>
    exact fun g d w hpowered hmode => show execPrechargeTimeout g ⟨d, w⟩ = _ from
      State.run_when (by simp [hpowered, hmode])
  case reverseTurnOff =>
    exact fun g d w hpowered hmode hconducts => show execReverseTurnOff g ⟨d, w⟩ = _ from
      State.run_when (by simp [hpowered, hmode, hconducts])
  case diodeTurnOn =>
    exact fun g d w hpowered hmode hoff => show execDiodeTurnOn g ⟨d, w⟩ = _ from
      State.next_when (by simpa [hpowered, hmode] using hoff)
  case dropFault =>
    exact fun g d w hpowered hmode hconducts => show execDropFault g ⟨d, w⟩ = _ from
      State.run_when (by simp [hpowered, hmode, hconducts])
  case bankShorted =>
    exact fun g d w hpowered hoff hmode => show execBankShorted g ⟨d, w⟩ = _ from
      State.run_when (by simp [hpowered, hoff, hmode])
  case busBarMeasure =>
    exact fun step m d w hlive hstep => show execBusBarMeasure step m ⟨d, w⟩ = _ from
      State.next_when (by simp [hlive, hstep])
end

section
open Sys2Proof Sys2Proof.Machine

/-- Settles O27: each command is a guarded change of the block, and its guard holds; a transaction is the one its port has in
progress. Assumption log entries: a transaction is taken as a whole (160), a clock timeout raises the class-D event 0x0403 of the
port (57), and an UNSUPPORTED slot is probed too (53). -/
theorem pmbusCommandsHaveTheirEffect : Obligations.PmbusCommandsHaveTheirEffect := by
  unfold Obligations.PmbusCommandsHaveTheirEffect
  refine ⟨?transactionDone, ?clockTimeout, ?stuckRetry, ?probe, ?addTimeout, ?shedRampEnd, ?retryDelayEnd⟩
  case transactionDone =>
    intro p sda reply j d w hbusy hcore
    change execPmbusTransactionDone p sda reply ⟨d, w⟩ = _
    refine State.run_of ?_
    simp only [hbusy]
    exact Device.when_pos hcore
  case clockTimeout =>
    intro p sclLow j d w hbusy hcore
    change execPmbusClockTimeout p sclLow ⟨d, w⟩ = _
    refine State.run_of ?_
    simp only [hbusy]
    exact Device.when_pos hcore
  case stuckRetry =>
    exact fun p sda d w hcore hstuck hfreed => show execPmbusStuckRetry p sda ⟨d, w⟩ = _ from
      State.run_when (by simp [hcore, hstuck, hfreed])
  case probe =>
    exact fun r d w hmay henabled hstate => show execRectProbe r ⟨d, w⟩ = _ from
      State.next_when (by simpa [hmay, henabled] using hstate)
  case addTimeout =>
    exact fun r d w hactive henabled hstate hstuck hlaps => show execRectAddTimeout r ⟨d, w⟩ = _ from
      State.run_when (by simp [hactive, henabled, hstate, hstuck, hlaps])
  case shedRampEnd =>
    exact fun r d w hactive henabled hstate hramp hstuck hlaps => show execRectShedRampEnd r ⟨d, w⟩ = _ from
      State.next_when (by simp [hactive, henabled, hstate, hramp, hstuck, hlaps])
  case retryDelayEnd =>
    exact fun r d w hactive henabled hstate hlaps => show execRectRetryDelayEnd r ⟨d, w⟩ = _ from
      State.next_when (by simp [hactive, henabled, hstate, hlaps])
end

section
/-! SUPPORT. What a write of StringEnable that changes it brings (08 R218, R237). -/

namespace Sys2Proof.Machine

theorem Device.effectLow_stringEnable {old : Device} {n : Nat} {v : Int} (h : old.get (O.stringEnable n) ≠ v) (d : Device)
    (k : Nat) : d.effectLow old (O.stringEnable n) k v = if v = 1 then d.stringEnableNow k else d.stringDisableNow k :=
  Device.when_pos (f := fun d => if v = 1 then d.stringEnableNow k else d.stringDisableNow k) (bne_iff_ne.mpr h)

/-- Any write of ChargeEnable has an effect of its own only where it writes 0 (08 R218, R227). -/
theorem Device.effectLow_chargeEnable (d old : Device) (k : Nat) (on : Bool) :
    d.effectLow old O.chargeEnable k (b2i on) = d.when (!on) Device.chargeDisableNow := by
  cases on <;> rfl

end Sys2Proof.Machine
end

section
open Sys2Proof Sys2Proof.Machine

/-- Settles O39: each command is a guarded change of the block, and its guard holds; a pulse of the charger asks its trigger
after the ramp up to it. Assumption log entries: the third failed read in a row makes the string anonymous (64), a charger fault
stands over a removal (190), and the law of the charger's trim is left open (193). -/
theorem stringCommandsHaveTheirEffect : Obligations.StringCommandsHaveTheirEffect := by
  unfold Obligations.StringCommandsHaveTheirEffect
  refine ⟨?qualified, ?readDone, ?reread, ?removal, ?fire, ?windowTrip, ?fault, ?senseFault⟩
  case qualified =>
    exact fun x d w hlive hstate htherm hlow hhigh => show execStringQualified x ⟨d, w⟩ = _ from
      State.next_when (by simp [hlive, hstate, htherm, hlow, hhigh])
  case readDone =>
    exact fun n sync rest d w hlive hreading => show execIdentityReadDone n sync rest ⟨d, w⟩ = _ from
      State.run_when (by simp [hlive, hreading])
  case reread =>
    exact fun n d w hlive hstate hidle => show execIdentityReread n ⟨d, w⟩ = _ from
      State.next_when (by simp [hlive, hstate, hidle])
  case removal =>
    exact fun x d w hlive hstate hout => show execStringRemoval x ⟨d, w⟩ = _ from
      State.run_when (by simpa [hlive, hstate] using hout)
  case fire =>
    exact fun n dt i mean d w hmay htriggers => show execChargerFire n dt i mean ⟨d, w⟩ = _ from
      State.next_of ((Device.when_pos hmay).trans (Device.when_pos htriggers))
  case windowTrip =>
    exact fun o d w hcore hout => show execChargerWindowTrip o ⟨d, w⟩ = _ from
      State.next_when (by simpa [hcore] using hout)
  case fault =>
    exact fun n d w hlive htripped hstate => show execChargerFault n ⟨d, w⟩ = _ from
      State.run_when (by simp [hlive, htripped, hstate])
  case senseFault =>
    exact fun n d w hruns hcharging hdiffer => show execChargerSenseFault n ⟨d, w⟩ = _ from
      State.run_when (by simp [hruns, hcharging, hdiffer])

/-- Settles O40: each command is a guarded change of the block, and its guard holds. That the slope of
CHARGE_END_EVALUATION needs 60 whole evaluations without a gap is assumption log entry 62. -/
theorem chargeCommandsHaveTheirEffect : Obligations.ChargeCommandsHaveTheirEffect := by
  unfold Obligations.ChargeCommandsHaveTheirEffect
  refine ⟨?qualifyPass, ?qualifyTimeout, ?endEvaluation, ?backupStop, ?topoffEnd, ?recharge, ?cutoff, ?cutoffRelease⟩
  case qualifyPass =>
    exact fun n d w hruns hstate hheld => show execQualifyPass n ⟨d, w⟩ = _ from
      State.next_when (by simp [hruns, hstate, hheld])
  case qualifyTimeout =>
    exact fun n d w hruns hstate helapsed => show execQualifyTimeout n ⟨d, w⟩ = _ from
      State.run_when (by simp [hruns, hstate, helapsed])
  case endEvaluation =>
    exact fun n v therm d w hruns hstate => show execChargeEndEvaluation n v therm ⟨d, w⟩ = _ from
      State.next_when (by simp [hruns, hstate])
  case backupStop =>
    exact fun n causes d w hruns hstate hcause => show execBackupStop n causes ⟨d, w⟩ = _ from
      State.next_when (by simpa [hruns, hstate] using hcause)
  case topoffEnd =>
    exact fun n d w hruns hstate helapsed => show execTopoffEnd n ⟨d, w⟩ = _ from
      State.next_when (by simp [hruns, hstate, helapsed])
  case recharge =>
    exact fun n d w hruns hstate hdrained => show execRecharge n ⟨d, w⟩ = _ from
      State.next_when (by simpa [hruns, hstate] using hdrained)
  case cutoff =>
    exact fun n d w hruns hpresent hlow => show execCutoff n ⟨d, w⟩ = _ from
      State.next_when (by simp [hruns, hpresent, hlow])
  case cutoffRelease =>
    exact fun n d w hruns hhold hheld => show execCutoffRelease n ⟨d, w⟩ = _ from
      State.next_when (by simp [hruns, hhold, hheld])

/-- Settles O41: each is an accepted write, carried out by the effect of its object. -/
theorem stringWritesHaveTheirEffect : Obligations.StringWritesHaveTheirEffect := by
  unfold Obligations.StringWritesHaveTheirEffect
  refine ⟨?stringAck, ?stringEnable, ?stringDisable, ?chargeEnable, ?forgetLearned⟩
  case stringAck =>
    exact fun n path d w h => show execStringAck n path ⟨d, w⟩ = _ from
      State.write_wo (locate_stringAck n) h rfl rfl (by simp; omega) (by simp [ownAnswerIds]) rfl rfl
  case stringEnable =>
    exact fun n path d w h hchange => show execStringEnable n path ⟨d, w⟩ = _ from
      State.write_rws (locate_stringEnable n) h rfl rfl (by simp; omega) (by simp [ownAnswerIds, ownValueIds]) rfl
        (Device.effectLow_stringEnable hchange _ _)
  case stringDisable =>
    exact fun n path d w h hchange => show execStringDisable n path ⟨d, w⟩ = _ from
      State.write_rws (locate_stringEnable n) h rfl rfl (by simp; omega) (by simp [ownAnswerIds, ownValueIds]) rfl
        (Device.effectLow_stringEnable hchange _ _)
  case chargeEnable =>
    intro path on d w h
    change execChargeEnable path on ⟨d, w⟩ = _
    have hvalue : O.chargeEnable.kept (O.chargeEnable.ty.decode (O.chargeEnable.ty.encode (b2i on))) = b2i on := by
      cases on <;> rfl
    exact State.write_rws locate_chargeEnable h rfl rfl (by decide) (by decide) hvalue
      (Device.effectLow_chargeEnable _ _ _ on)
  case forgetLearned =>
    exact fun n path d w h => show execForgetLearned n path ⟨d, w⟩ = _ from
      State.write_wo (locate_forgetLearned n) h rfl rfl (by simp; omega) (by simp [ownAnswerIds]) rfl rfl
end

section
/-! SUPPORT. What a gauge sample and a turn of the recorder may change (09 R240–R256, 10 R268, 19 R477–R482, R491). -/

namespace Sys2Proof.Machine

/-- The objects that a gauge sample of a string changes (08 R238, 09 R241, R243). -/
def gaugeKeys (n : Nat) : List Nat :=
  [(O.overloads n).key, (O.coulombIntegral n).key, (O.stringVoltage n).key, (O.chargeCurrent n).key]

/-- From `a` to `b` only a gauge sample of string `n` has been taken. -/
structure Device.MovesGauge (n : Nat) (a b : Device) : Prop where
  rest : b = { a with regs := b.regs, strings := b.strings, hold := b.hold, free := b.free }
  objects : a.keeps b (gaugeKeys n)
  hold : b.hold = { a.hold with vNow := b.hold.vNow, iA := b.hold.iA, iB := b.hold.iB, loadSum := b.hold.loadSum,
                                loadN := b.hold.loadN, lowRuns := b.hold.lowRuns }
  otherStrings : ∀ j : Nat, j ≠ n → b.strings[j]? = a.strings[j]?

theorem Device.MovesGauge.refl (n : Nat) (d : Device) : Device.MovesGauge n d d :=
  ⟨rfl, d.keeps_refl _, rfl, fun _ _ => rfl⟩

theorem Device.MovesGauge.trans {n : Nat} {a b c : Device} (h : Device.MovesGauge n a b) (g : Device.MovesGauge n b c) :
    Device.MovesGauge n a c where
  rest := by rw [g.rest, h.rest]
  objects := Device.keeps_trans h.objects g.objects
  hold := by rw [g.hold, h.hold]
  otherStrings j hj := (g.otherStrings j hj).trans (h.otherStrings j hj)

/-- After that, a guarded change of the same string. -/
theorem Device.MovesGauge.thenWhen {n : Nat} {a b : Device} {f : Device → Device} (h : Device.MovesGauge n a b)
    (hf : ∀ e : Device, Device.MovesGauge n e (f e)) (c : Bool) : Device.MovesGauge n a (b.when c f) := by
  cases c
  · exact h
  · exact h.trans (hf b)

theorem Device.movesGauge_set {n : Nat} {o : Obj} (h : o.key ∈ gaugeKeys n) (d : Device) (v : Int) :
    Device.MovesGauge n d (d.set o v) :=
  ⟨rfl, d.keeps_set h v, rfl, fun _ _ => rfl⟩

theorem Device.movesGauge_bump {n : Nat} {o : Obj} (h : o.key ∈ gaugeKeys n) (d : Device) :
    Device.MovesGauge n d (d.bump o) := by
  obtain ⟨v, m, hbump⟩ := d.bump_spec o
  rw [hbump]
  exact ⟨rfl, d.keeps_set h v, rfl, fun _ _ => rfl⟩

theorem Device.movesGauge_modStr (n : Nat) (d : Device) (f : Str → Str) : Device.MovesGauge n d (d.modStr n f) :=
  ⟨rfl, d.keeps_refl _, rfl, fun _ hj => modAt_getElem?_other _ _ _ _ hj⟩

theorem Device.movesGauge_gaugeKeep (d : Device) (n : Nat) (m : GaugeIn) (c : GaugeCell) :
    Device.MovesGauge n d (d.gaugeKeep n m c) :=
  ((Device.MovesGauge.refl n d).thenWhen (fun e => e.movesGauge_bump (o := O.overloads n) (by simp [gaugeKeys])) c.ovl).trans
    (Device.movesGauge_modStr n _ _)

theorem Device.movesGauge_loadSample (d : Device) (n : Nat) (m : GaugeIn) : Device.MovesGauge n d (d.loadSample m) :=
  ⟨rfl, d.keeps_refl _, rfl, fun _ _ => rfl⟩

/-- A bus sample moves the runs of samples below the limit only (10 R268 b2). -/
theorem Device.movesGauge_busSample (d : Device) (n i : Nat) (v : Int) : Device.MovesGauge n d (d.busSample i v) := by
  unfold Device.busSample
  split
  · exact ⟨rfl, d.keeps_refl _, rfl, fun _ _ => rfl⟩
  · exact ⟨rfl, d.keeps_refl _, rfl, fun _ _ => rfl⟩

theorem Device.movesGauge_gaugeCount (d : Device) (n : Nat) (i : Rat) : Device.MovesGauge n d (d.gaugeCount n i) :=
  (d.movesGauge_modStr n _).trans (Device.movesGauge_set (by simp [gaugeKeys]) _ _)

/-- The end of a second shows the means of the voltage and of the charger's current (08 R238). -/
theorem Device.movesGauge_secondEnds (d : Device) (n : Nat) : Device.MovesGauge n d (d.secondEnds n) := by
  unfold Device.secondEnds
  dsimp only
  split
  · exact .refl n d
  · exact ((d.movesGauge_modStr n _).trans (Device.movesGauge_set (o := O.stringVoltage n) (by simp [gaugeKeys]) _ _)).trans
      (Device.movesGauge_set (by simp [gaugeKeys]) _ _)

/-- GAUGE_SAMPLE: the sample is kept, counted while the string is present, and watched while GE runs (09 R240–R256). -/
theorem Device.movesGauge_gaugeSample (d : Device) (n : Nat) (m : GaugeIn) : Device.MovesGauge n d (d.gaugeSample n m) := by
  have hkept := (d.movesGauge_gaugeKeep n m (d.gaugeCell n m)).trans (Device.movesGauge_loadSample _ n m)
  have hbus := hkept.trans (Device.movesGauge_busSample _ n (16 + n) m.vBus)
  have hwatched (e : Device) (v : Rat) : Device.MovesGauge n e ((e.watchSample n v).secondEnds n) :=
    (e.movesGauge_modStr n _).trans (Device.movesGauge_secondEnds _ n)
  unfold Device.gaugeSample
  dsimp only
  exact (hbus.thenWhen (fun e => e.movesGauge_gaugeCount n _) _).thenWhen (fun e => hwatched e _) _

/-- What is left of the rest of the block once the driven lines have followed a gauge sample. -/
theorem Device.MovesGauge.linesFollow {n : Nat} {d e : Device} (h : Device.MovesGauge n d e) :
    e.linesFollow = { d with regs := e.linesFollow.regs, pins := e.linesFollow.pins, strings := e.linesFollow.strings,
                             hold := e.linesFollow.hold, free := e.linesFollow.free } ∧
      d.keeps e.linesFollow (gaugeKeys n ++ lineKeys) ∧ e.linesFollow.pins.butLines = d.pins.butLines ∧
      e.linesFollow.hold = { d.hold with
        vNow := e.linesFollow.hold.vNow, iA := e.linesFollow.hold.iA, iB := e.linesFollow.hold.iB
        loadSum := e.linesFollow.hold.loadSum, loadN := e.linesFollow.hold.loadN, lowRuns := e.linesFollow.hold.lowRuns } ∧
      ∀ j : Nat, j ≠ n → e.linesFollow.strings[j]? = d.strings[j]? := by
  refine ⟨?rest, Device.keeps_linesFollow h.objects, ?pins, h.hold, h.otherStrings⟩
  case rest => rw [e.linesFollow_rest, h.rest]
  case pins => rw [e.linesFollow_butLines, h.rest]

/-- The objects that a turn of the recorder changes (19 R477, R481). -/
def turnKeys : List Nat := [O.recordWrites.key, O.mramWrites.key, O.full.key]

/-- A photo-finish slot without the position of its capture record (19 R491). -/
def PfSlot.unplaced (x : PfSlot) : PfSlot := { x with recordPos := none }

/-- From `a` to `b` only turns of the recorder's queue have been taken. -/
structure Device.MovesRecord (a b : Device) : Prop where
  rest : b = { a with regs := b.regs, mram := b.mram, recorder := b.recorder, pf := b.pf, free := b.free }
  objects : a.keeps b turnKeys
  mram : b.mram = { a.mram with log := b.mram.log, repeats := b.mram.repeats, frozen := b.mram.frozen,
                                refused := b.mram.refused, raised := b.mram.raised }
  slots : ∀ j : Nat, (b.pf[j]?).map PfSlot.unplaced = (a.pf[j]?).map PfSlot.unplaced

theorem Device.MovesRecord.refl (d : Device) : Device.MovesRecord d d :=
  ⟨rfl, d.keeps_refl _, rfl, fun _ => rfl⟩

theorem Device.MovesRecord.trans {a b c : Device} (h : Device.MovesRecord a b) (g : Device.MovesRecord b c) :
    Device.MovesRecord a c where
  rest := by rw [g.rest, h.rest]
  objects := Device.keeps_trans h.objects g.objects
  mram := by rw [g.mram, h.mram]
  slots j := (g.slots j).trans (h.slots j)

/-- After that, a guarded change of the recorder. -/
theorem Device.MovesRecord.thenWhen {a b : Device} {f : Device → Device} (h : Device.MovesRecord a b)
    (hf : ∀ e : Device, Device.MovesRecord e (f e)) (c : Bool) : Device.MovesRecord a (b.when c f) := by
  cases c
  · exact h
  · exact h.trans (hf b)

theorem Device.movesRecord_set {o : Obj} (h : o.key ∈ turnKeys) (d : Device) (v : Int) :
    Device.MovesRecord d (d.set o v) :=
  ⟨rfl, d.keeps_set h v, rfl, fun _ => rfl⟩

theorem Device.movesRecord_bump {o : Obj} (h : o.key ∈ turnKeys) (d : Device) : Device.MovesRecord d (d.bump o) := by
  obtain ⟨v, m, hbump⟩ := d.bump_spec o
  rw [hbump]
  exact ⟨rfl, d.keeps_set h v, rfl, fun _ => rfl⟩

theorem Device.movesRecord_bumpBy {o : Obj} (h : o.key ∈ turnKeys) (d : Device) (i : Int) :
    Device.MovesRecord d (d.bumpBy o i) := by
  obtain ⟨v, m, hbump⟩ := d.bumpBy_spec o i
  rw [hbump]
  exact ⟨rfl, d.keeps_set h v, rfl, fun _ => rfl⟩

/-- A turn on MRAM leaves all of it but the log and the recorder's four counters (19 R478–R482). -/
theorem Mram.takeTurn_rest (m : Mram) (frozen : Bool) (ev : Event) :
    m.takeTurn frozen ev =
      { m with log := (m.takeTurn frozen ev).log, repeats := (m.takeTurn frozen ev).repeats
               frozen := (m.takeTurn frozen ev).frozen, refused := (m.takeTurn frozen ev).refused
               raised := (m.takeTurn frozen ev).raised } := by
  unfold Mram.takeTurn
  dsimp only
  split
  · rfl
  · split
    · split
      · rfl
      · rfl
    · split
      · rfl
      · rfl

/-- The queue and MRAM after the turn of an event. -/
theorem Device.movesRecord_takeTurn (d : Device) (frozen : Bool) (ev : Event) (rest : List Event) :
    Device.MovesRecord d
      { d with mram := d.mram.takeTurn frozen ev, recorder := { d.recorder with queue := rest } } :=
  ⟨rfl, d.keeps_refl _, d.mram.takeTurn_rest frozen ev, fun _ => rfl⟩

/-- What a change of an entry leaves as it was is left so in the whole list. -/
theorem modAt_getElem?_map {α β : Type} {f : α → α} {part : α → β} (h : ∀ x, part (f x) = part x) (l : List α) (i j : Nat) :
    ((modAt l i f)[j]?).map part = (l[j]?).map part := by
  induction l generalizing i j with
  | nil => rfl
  | cons a l ih =>
    cases i with
    | zero =>
      cases j with
      | zero => exact congrArg some (h a)
      | succ j => rfl
    | succ i =>
      cases j with
      | zero => rfl
      | succ j => exact ih i j

/-- The position of a capture record goes into its slot (19 R491). -/
theorem Device.movesRecord_recordPos (d : Device) (n : Nat) (pos : Option Nat) :
    Device.MovesRecord d (d.modPf n fun x => { x with recordPos := pos }) :=
  ⟨rfl, d.keeps_refl _, rfl,
    modAt_getElem?_map (part := PfSlot.unplaced) (f := fun x : PfSlot => { x with recordPos := pos }) (fun _ => rfl) d.pf n⟩

/-- A turn: MRAM and the queue, the counts of writes, Full, and the slot of a capture record (19 R477–R482, R491). -/
theorem Device.movesRecord_recordTurn (d : Device) : Device.MovesRecord d d.recordTurn := by
  unfold Device.recordTurn
  split
  · exact .refl d
  · next ev rest _ =>
    have hturn := d.movesRecord_takeTurn (d.flag O.frozen) ev rest
    have hwritten (e : Device) : Device.MovesRecord e ((e.bump O.recordWrites).bumpBy O.mramWrites 2) :=
      (e.movesRecord_bump (by decide)).trans (Device.movesRecord_bumpBy (by decide) _ 2)
    have hfull (e : Device) : Device.MovesRecord e (e.setFlag O.full true) :=
      e.movesRecord_set (o := O.full) (by decide) (b2i true)
    have hshown := (hturn.thenWhen hwritten (d.mram.reached (d.mram.takeTurn (d.flag O.frozen) ev)).isSome).thenWhen hfull
      (decide (65536 ≤ (d.mram.takeTurn (d.flag O.frozen) ev).held))
    split
    · exact hshown.trans (Device.movesRecord_recordPos _ _ _)
    · exact hshown

/-- What is left of the rest of the block once the driven lines have followed a turn. -/
theorem Device.MovesRecord.linesFollow {d e : Device} (h : Device.MovesRecord d e) :
    e.linesFollow = { d with regs := e.linesFollow.regs, pins := e.linesFollow.pins, mram := e.linesFollow.mram,
                             recorder := e.linesFollow.recorder, pf := e.linesFollow.pf, free := e.linesFollow.free } ∧
      d.keeps e.linesFollow (turnKeys ++ lineKeys) ∧ e.linesFollow.pins.butLines = d.pins.butLines ∧
      e.linesFollow.mram = { d.mram with
        log := e.linesFollow.mram.log, repeats := e.linesFollow.mram.repeats, frozen := e.linesFollow.mram.frozen
        refused := e.linesFollow.mram.refused, raised := e.linesFollow.mram.raised } ∧
      ∀ j : Nat, (e.linesFollow.pf[j]?).map PfSlot.unplaced = (d.pf[j]?).map PfSlot.unplaced := by
  refine ⟨?rest, Device.keeps_linesFollow h.objects, ?pins, h.mram, h.slots⟩
  case rest => rw [e.linesFollow_rest, h.rest]
  case pins => rw [e.linesFollow_butLines, h.rest]

end Sys2Proof.Machine
end

section
open Sys2Proof Sys2Proof.Machine

/-- Settles O22: a sample moves its string and what hold-up keeps of it, a turn moves the recorder; unmet guards move nothing. -/
theorem gaugeAndRecorderTouchOnlyTheirOwn : Obligations.GaugeAndRecorderTouchOnlyTheirOwn := by
  unfold Obligations.GaugeAndRecorderTouchOnlyTheirOwn
  refine ⟨?gaugeSample, ?recordWrite⟩
  case gaugeSample =>
    exact fun n m d w => exec_when_leaves (show execGaugeSample n m ⟨d, w⟩ = _ from rfl)
      (d.movesGauge_gaugeSample n m).linesFollow (Device.MovesGauge.refl n d).linesFollow
  case recordWrite =>
    exact fun d w => exec_when_leaves (show execRecordWrite ⟨d, w⟩ = _ from rfl)
      d.movesRecord_recordTurn.linesFollow (Device.MovesRecord.refl d).linesFollow

/-- Settles O42: each command is a guarded change of the block, and its guard holds. That REST_ANCHOR makes the anchor due and
leaves it to the end of the lap is assumption log entry 166. -/
theorem gaugeCommandsHaveTheirEffect : Obligations.GaugeCommandsHaveTheirEffect := by
  unfold Obligations.GaugeCommandsHaveTheirEffect
  refine ⟨?gaugeSample, ?shuntOverload, ?kalmanStep, ?resistanceStep, ?restAnchor, ?disagreeSet, ?disagreeClear⟩
  case gaugeSample =>
    exact fun n m d w hcore => show execGaugeSample n m ⟨d, w⟩ = _ from State.next_when hcore
  case shuntOverload =>
    exact fun n d w hlive hrun => show execShuntOverloadEvent n ⟨d, w⟩ = _ from State.next_when (by simp [hlive, hrun])
  case kalmanStep =>
    exact fun v0 v1 v2 v3 d w hruns => show execKalmanStep v0 v1 v2 v3 ⟨d, w⟩ = _ from State.next_when hruns
  case resistanceStep =>
    intro n old new di r d w hruns hpresent hstep hr hmin hpos hmax
    subst hr
    change execResistanceStep n old new ⟨d, w⟩ = _
    refine State.next_of ((Device.when_pos (by simp [hruns, hpresent])).trans ?_)
    simp only [hstep]
    exact if_pos ⟨hmin, hpos, hmax⟩
  case restAnchor =>
    exact fun n v d w hruns hpresent hrested hanchored hrest => show execRestAnchor n v ⟨d, w⟩ = _ from
      State.next_when (by simp [hruns, hpresent, hrested, hanchored, hrest])
  case disagreeSet =>
    exact fun n d w hruns hpresent hclear hfar => show execDisagreeSet n ⟨d, w⟩ = _ from
      State.next_when (by simp [hruns, hpresent, hclear, hfar])
  case disagreeClear =>
    exact fun n d w hruns hset hnear => show execDisagreeClear n ⟨d, w⟩ = _ from
      State.next_when (by simp [hruns, hset, hnear])
end

section
/-! SUPPORT. Sums of a list with one entry changed, and values that are read back from bytes (00 R2, 16 R407). -/

namespace Sys2Proof

theorem modAt_const {α : Type} (l : List α) (i : Nat) (a : α) : modAt l i (fun _ => a) = l.set i a := by
  induction l generalizing i with
  | nil => rfl
  | cons b l ih => cases i <;> simp [modAt, ih]

/-- The entry that is put in takes the place of the old one in the sum. -/
theorem modAt_const_sum {l : List Int} {i : Nat} (h : i < l.length) (a : Int) :
    (modAt l i fun _ => a).sum = l.sum + (a - l.getD i 0) := by
  simp only [modAt_const, List.sum_set', h, dite_true, List.getD_eq_getElem]
  omega

theorem ofLe_append (as bs : List Byte) : ofLe (as ++ bs) = ofLe as + 256 ^ as.length * ofLe bs := by
  induction as with
  | nil => simp [ofLe]
  | cons a as ih => simp only [List.cons_append, ofLe, ih, List.length_cons, pow_succ]; ring

/-- The bytes of any integer spell it modulo their range (00 R2). -/
theorem ofLe_leBytes_emod (n : Nat) (v : Int) : (ofLe (leBytes n v) : Int) = v % 256 ^ n := by
  induction n generalizing v with
  | zero => simp [leBytes, ofLe]
  | succ n ih =>
    have hlow : ((BitVec.ofInt 8 v).toNat : Int) = v % 256 := by
      rw [BitVec.toNat_ofInt]; omega
    have hquot : v / (256 ^ n * 256) = v / 256 / 256 ^ n := by
      rw [mul_comm, Int.ediv_ediv_of_nonneg (by norm_num)]
    simp only [leBytes, ofLe, Nat.cast_add, Nat.cast_mul, hlow, ih, pow_succ, Int.emod_def, hquot]
    push_cast
    ring

/-- A two's complement value that fits its bytes is read back from them (16 R407). -/
theorem ofLeSigned_leBytes_int32 (x : BitVec 32) : ofLeSigned (leBytes 4 x.toInt) = x.toInt := by
  have hbytes := ofLe_leBytes_emod 4 x.toInt
  have hlow := BitVec.le_toInt x
  have hhigh := BitVec.toInt_lt (x := x)
  simp only [ofLeSigned, leBytes_length]
  norm_num at hbytes hlow hhigh ⊢
  split <;> omega

end Sys2Proof
end

section
/-! SUPPORT. What of the ledger its reports and its commits leave alone: the entries, and the two slots (11 R287, R289, R291). -/

namespace Sys2Proof.Machine

/-- What every step keeps holds after all of them. -/
theorem Device.forAll_keeps {P : Device → Prop} {f : Nat → Device → Device} {l : List Nat}
    (h : ∀ n ∈ l, ∀ d, P d → P (f n d)) {d : Device} (hd : P d) : P (d.forAll l f) := by
  unfold Device.forAll
  induction l generalizing d with
  | nil => exact hd
  | cons n l ih =>
    exact ih (fun m hm => h m (List.mem_cons_of_mem n hm)) (h n List.mem_cons_self d hd)

theorem Device.when_keeps {P : Device → Prop} {f : Device → Device} (h : ∀ d, P d → P (f d)) {d : Device} (hd : P d)
    (b : Bool) : P (d.when b f) := by
  cases b
  · exact hd
  · exact h d hd

/-- The ledger but for its freeze. -/
def Device.entries (d : Device) : Book := { d.ledger with frozen := false }

/-- The ledger but for its freeze, and its two slots in MRAM. -/
def Device.accounts (d : Device) : Book × LedgerRec × LedgerRec := (d.entries, d.mram.ledA, d.mram.ledB)

theorem Device.entries_of_accounts {d e : Device} (h : e.accounts = d.accounts) : e.entries = d.entries :=
  congrArg Prod.fst h

@[simp] theorem Device.accounts_when {f : Device → Device} (h : ∀ d, (f d).accounts = d.accounts) (d : Device) (b : Bool) :
    (d.when b f).accounts = d.accounts :=
  Device.when_keeps (P := fun e => e.accounts = d.accounts) (fun e he => (h e).trans he) rfl b

@[simp] theorem Device.accounts_forAll {f : Nat → Device → Device} (h : ∀ n d, (f n d).accounts = d.accounts) (d : Device)
    (l : List Nat) : (d.forAll l f).accounts = d.accounts :=
  Device.forAll_keeps (P := fun e => e.accounts = d.accounts) (fun n _ e he => (h n e).trans he) rfl

@[simp] theorem Device.accounts_set (d : Device) (o : Obj) (v : Int) : (d.set o v).accounts = d.accounts := rfl

@[simp] theorem Device.accounts_bump (d : Device) (o : Obj) : (d.bump o).accounts = d.accounts := by
  obtain ⟨v, n, hbump⟩ := d.bump_spec o
  rw [hbump]
  rfl

@[simp] theorem Device.accounts_bumpBy (d : Device) (o : Obj) (i : Int) : (d.bumpBy o i).accounts = d.accounts := by
  obtain ⟨v, n, hbump⟩ := d.bumpBy_spec o i
  rw [hbump]
  rfl

@[simp] theorem Device.accounts_sendNew (d : Device) (s kind : Nat) (body : List Byte) :
    (d.sendNew s kind body).accounts = d.accounts := by
  refine (Device.accounts_forAll (fun p e => ?_) _ _).trans (Device.accounts_set d _ _)
  split
  · exact Device.accounts_when (fun e => Device.accounts_bump (e.emit _) _) e _
  · rfl

@[simp] theorem Device.accounts_notifyOne (d : Device) (s : Nat) (body : List Byte) :
    (d.notifyOne s body).accounts = d.accounts := by
  unfold Device.notifyOne
  dsimp only
  split
  · exact Device.accounts_sendNew d s 0x20 body
  · split
    · rfl
    · exact Device.accounts_bump _ _

@[simp] theorem Device.accounts_notify (d : Device) (kind : Nat) (body : List Byte) :
    (d.notify kind body).accounts = d.accounts := by
  unfold Device.notify
  split
  · refine Device.accounts_forAll (fun s e => ?_) _ _
    split
    · exact Device.accounts_notifyOne e s body
    · rfl
  · rfl

/-- An event reaches the recorder's counts in MRAM at most (19 R482). -/
@[simp] theorem Device.accounts_offer (d : Device) (ev : Event) : (d.offer ev).accounts = d.accounts := by
  unfold Device.offer
  split
  · split <;> rfl
  · rfl

@[simp] theorem Device.accounts_alert (d : Device) (b : Nat) : (d.alert b).accounts = d.accounts := rfl

@[simp] theorem Device.accounts_interrupt (d : Device) (block sub cls code stamp : Nat) (params : List Byte) :
    (d.interrupt block sub cls code stamp params).accounts = d.accounts :=
  Device.accounts_notify _ _ _

@[simp] theorem Device.accounts_pulseFaultN (d : Device) : d.pulseFaultN.accounts = d.accounts := rfl

@[simp] theorem Device.accounts_updateFaultN (d : Device) : d.updateFaultN.accounts = d.accounts := rfl

@[simp] theorem Device.accounts_modFault (d : Device) (b : Nat) (f : FaultBlock → FaultBlock) :
    (d.modFault b f).accounts = d.accounts := rfl

@[simp] theorem Device.accounts_takeEvent (d : Device) (block source code cls : Nat) (params : List Byte) (two : Bool) :
    (d.takeEvent block source code cls params two).1.accounts = d.accounts := by
  unfold Device.takeEvent
  dsimp only
  split <;> split <;> simp

@[simp] theorem Device.accounts_raiseD (d : Device) (block source code : Nat) (params : List Byte) :
    (d.raiseD block source code params).accounts = d.accounts := Device.accounts_takeEvent _ _ _ _ _ _ _

/-- The class-A state of the ledger is its freeze (14 R358). -/
@[simp] theorem Device.accounts_blockClassA_ledger (d : Device) : (d.blockClassA 79).accounts = d.accounts := rfl

@[simp] theorem Device.accounts_holdA (d : Device) (b source code : Nat) : (d.holdA b source code).accounts = d.accounts := rfl

@[simp] theorem Device.accounts_escalate_ledger (d : Device) (source code firstStamp firstCode : Nat) :
    (d.escalate 79 source code firstStamp firstCode).accounts = d.accounts := by
  simp [Device.escalate, Device.when_neg]

/-- A class-B event of the ledger freezes it at most (14 R358, R359). -/
@[simp] theorem Device.accounts_raiseB_ledger (d : Device) (source code : Nat) (params : List Byte) :
    (d.raiseB 79 source code params).accounts = d.accounts := by
  unfold Device.raiseB
  dsimp only
  split <;> simp

/-- The check freezes the ledger at most (11 R291). -/
@[simp] theorem Device.accounts_ledgerCheck (d : Device) : d.ledgerCheck.accounts = d.accounts :=
  Device.accounts_when (fun e => (e.modBook _).accounts_raiseB_ledger 0 0x0707 []) d _

/-- The record that a commit writes (11 R289). -/
def Device.ledgerRecord (d : Device) (kind : Nat) (xfer : List Byte) : LedgerRec :=
  ⟨d.mram.ledgerRec.seq + 1, d.now, d.ledger, d.get O.powerOnCount, kind, xfer, false⟩

/-- A commit writes one slot and leaves the entries (11 R289). -/
theorem Device.accounts_commitLedger (d : Device) (kind : Nat) (xfer : List Byte) :
    (d.commitLedger kind xfer).accounts =
      if d.mram.newestLedger = some false then (d.entries, d.mram.ledA, d.ledgerRecord kind xfer)
      else (d.entries, d.ledgerRecord kind xfer, d.mram.ledB) := by
  simp only [Device.commitLedger, Device.accounts_ledgerCheck, Device.accounts_bumpBy]
  split <;> rfl

@[simp] theorem Device.entries_commitLedger (d : Device) (kind : Nat) (xfer : List Byte) :
    (d.commitLedger kind xfer).entries = d.entries := by
  have hcommit := congrArg Prod.fst (d.accounts_commitLedger kind xfer)
  rw [apply_ite Prod.fst, ite_self] at hcommit
  exact hcommit

end Sys2Proof.Machine
end

section
/-! SUPPORT. Which slot of the ledger is the newest valid one (11 R289). -/

namespace Sys2Proof.Machine

/-- Only a valid slot A is the newest. -/
theorem Mram.ledA_ok_of_newest {m : Mram} (h : m.newestLedger = some false) : m.ledA.ok = true := by
  by_contra hA
  unfold Mram.newestLedger at h
  split at h <;> simp_all

/-- A valid slot B is the newest unless slot A is. -/
theorem Mram.newestLedger_of_ledB_ok {m : Mram} (hB : m.ledB.ok = true) (h : m.newestLedger ≠ some false) :
    m.newestLedger = some true := by
  unfold Mram.newestLedger at h ⊢
  cases hA : m.ledA.ok <;> simp_all

theorem Mram.ledgerRec_of_true {m : Mram} (h : m.newestLedger = some true) : m.ledgerRec = m.ledB := by
  simp [Mram.ledgerRec, h]

theorem Mram.ledgerRec_of_false {m : Mram} (h : m.newestLedger = some false) : m.ledgerRec = m.ledA := by
  simp [Mram.ledgerRec, h]

/-- Slot B is the newest once it holds a valid record with the next sequence after slot A, the newest so far. -/
theorem Mram.newestLedger_after_ledB {m n : Mram} (h : m.newestLedger = some false) (hA : n.ledA = m.ledA)
    (hB : n.ledB.ok = true) (hseq : n.ledB.seq = m.ledgerRec.seq + 1) : n.newestLedger = some true := by
  rw [m.ledgerRec_of_false h] at hseq
  simp [Mram.newestLedger, hA, Mram.ledA_ok_of_newest h, hB, hseq]

/-- Slot A is the newest once it holds a valid record with the next sequence, where it was not the newest. -/
theorem Mram.newestLedger_after_ledA {m n : Mram} (h : m.newestLedger ≠ some false) (hB : n.ledB = m.ledB)
    (hA : n.ledA.ok = true) (hseq : n.ledA.seq = m.ledgerRec.seq + 1) : n.newestLedger = some false := by
  cases hok : m.ledB.ok with
  | false => simp [Mram.newestLedger, hA, hB, hok]
  | true =>
    rw [Mram.ledgerRec_of_true (Mram.newestLedger_of_ledB_ok hok h)] at hseq
    simp [Mram.newestLedger, hA, hB, hok, hseq]

theorem Device.ledgerRecord_ok (d : Device) (kind : Nat) (xfer : List Byte) : (d.ledgerRecord kind xfer).ok = true := by
  simp [LedgerRec.ok, Device.ledgerRecord]

end Sys2Proof.Machine
end

section
open Sys2Proof Sys2Proof.Machine

/-- Settles O12: the check after a commit leaves both slots, and the one that was written is newer by its sequence. -/
theorem commitWritesTheSlotThatIsNotTheNewest : Obligations.CommitWritesTheSlotThatIsNotTheNewest := by
  unfold Obligations.CommitWritesTheSlotThatIsNotTheNewest
  intro d kind xfer
  have hslots := congrArg Prod.snd (d.accounts_commitLedger kind xfer)
  by_cases hnewest : d.mram.newestLedger = some false
  · rw [if_pos hnewest] at hslots
    obtain ⟨hA, hB⟩ := Prod.mk.inj hslots
    have hnow := Mram.newestLedger_after_ledB hnewest hA (hB ▸ d.ledgerRecord_ok kind xfer) (by rw [hB]; rfl)
    exact ⟨(Mram.ledgerRec_of_true hnow).trans hB, fun _ => ⟨hA, hnow⟩, fun h => absurd hnewest h⟩
  · rw [if_neg hnewest] at hslots
    obtain ⟨hA, hB⟩ := Prod.mk.inj hslots
    have hnow := Mram.newestLedger_after_ledA hnewest hB (hA ▸ d.ledgerRecord_ok kind xfer) (by rw [hA]; rfl)
    exact ⟨(Mram.ledgerRec_of_false hnow).trans hA, fun h => absurd h hnewest, fun _ => ⟨hB, hnow⟩⟩

end

section
/-! SUPPORT. What each operation of the ledger does to its entries (11 R287–R306). -/

namespace Sys2Proof.Machine

@[simp] theorem Device.entries_set (d : Device) (o : Obj) (v : Int) : (d.set o v).entries = d.entries := rfl

@[simp] theorem Device.entries_bump (d : Device) (o : Obj) : (d.bump o).entries = d.entries :=
  Device.entries_of_accounts (d.accounts_bump o)

@[simp] theorem Device.entries_bumpBy (d : Device) (o : Obj) (i : Int) : (d.bumpBy o i).entries = d.entries :=
  Device.entries_of_accounts (d.accounts_bumpBy o i)

@[simp] theorem Device.entries_raiseD (d : Device) (block source code : Nat) (params : List Byte) :
    (d.raiseD block source code params).entries = d.entries :=
  Device.entries_of_accounts (d.accounts_raiseD block source code params)

@[simp] theorem Device.entries_modBook (d : Device) (f : Book → Book) :
    (d.modBook f).entries = { f d.ledger with frozen := false } := rfl

@[simp] theorem Device.entries_toState (d : Device) (id st reason : Nat) : (d.toState id st reason).entries = d.entries := rfl

@[simp] theorem Device.entries_evicted (d : Device) (t : Transfer) : (d.evicted t).entries = d.entries := by
  unfold Device.evicted
  split <;> rfl

@[simp] theorem Device.entries_addTransfer (d : Device) (t : Transfer) : (d.addTransfer t).entries = d.entries := by
  unfold Device.addTransfer
  split
  · rfl
  · split
    · exact d.entries_evicted _
    · rfl

@[simp] theorem Device.entries_commitXfer (d : Device) (kind id : Nat) : (d.commitXfer kind id).entries = d.entries :=
  d.entries_commitLedger kind _

@[simp] theorem Device.entries_sendCredit (d : Device) (h : Nat) (payload : List Byte) :
    (d.sendCredit h payload).entries = d.entries :=
  Device.entries_of_accounts (Device.accounts_when (fun e => e.accounts_sendNew h 0x30 payload) d _)

@[simp] theorem Device.entries_sendPeer (d : Device) (kind flags : Nat) (t : Transfer) :
    (d.sendPeer kind flags t).entries = d.entries := by
  unfold Device.sendPeer
  split
  · exact Device.entries_sendCredit _ _ _
  · rfl

@[simp] theorem Device.entries_creditAnswer (d : Device) (h kind id : Nat) : (d.creditAnswer h kind id).entries = d.entries := by
  unfold Device.creditAnswer
  split
  · exact Device.entries_sendCredit _ _ _
  · rfl

/-- An offer moves its amount from the pool into escrow-out (11 R299). -/
theorem Device.entries_offerNow (d : Device) (v : Int) :
    (d.offerNow v).entries = { d.ledger with
      pool := d.ledger.pool - field v 4 4, eout := d.ledger.eout + field v 4 4
      next := (d.ledger.next + 1) % 2 ^ 48, frozen := false } := by
  unfold Device.offerNow
  extract_lets a id booked t committed
  clear_value id t
  calc (committed.sendPeer 1 0 t).entries = committed.entries := committed.entries_sendPeer 1 0 t
    _ = ((booked.addTransfer t).commitXfer 1 id).entries := Device.entries_set _ O.lastOfferId id
    _ = (booked.addTransfer t).entries := (booked.addTransfer t).entries_commitXfer 1 id
    _ = booked.entries := booked.entries_addTransfer t

/-- An adjustment changes the allotment and the pool alike (11 R288, R306). -/
theorem Device.entries_adjustNow (d : Device) (v : Int) :
    (d.adjustNow v).entries = { d.ledger with pool := d.ledger.pool + v, allot := d.ledger.allot + v, frozen := false } :=
  Device.entries_commitLedger _ _ _

/-- A refusal leaves the ledger as it was (11 R299). -/
theorem Device.entries_creditRefuse (d : Device) (h id sender reason : Nat) (a : Int) :
    (d.creditRefuse h id sender reason a).entries = d.entries := by
  unfold Device.creditRefuse
  split
  · simp
  · rfl

/-- An accept raises the allotment and escrow-in by its amount (11 R288, R299). -/
theorem Device.entries_creditTake (d : Device) (h id sender : Nat) (a : Int) :
    (d.creditTake h id sender a).entries =
      if d.canCommit then { d.ledger with ein := d.ledger.ein + a, allot := d.ledger.allot + a, frozen := false }
      else d.entries := by
  unfold Device.creditTake
  split
  · simp
  · rfl

/-- A settle lowers the allotment and escrow-out by its amount (11 R288, R299). -/
theorem Device.entries_settleCommit (d : Device) (h : Nat) (t : Transfer) :
    (d.settleCommit h t).entries =
      if d.canTransfer then { d.ledger with eout := d.ledger.eout - t.amount, allot := d.ledger.allot - t.amount, frozen := false }
      else d.entries := by
  unfold Device.settleCommit
  split
  · simp
  · rfl

/-- A release moves its amount from escrow-in into the pool (11 R299). -/
theorem Device.entries_releaseCommit (d : Device) (h : Nat) (t : Transfer) :
    (d.releaseCommit h t).entries =
      if d.canTransfer then { d.ledger with ein := d.ledger.ein - t.amount, pool := d.ledger.pool + t.amount, frozen := false }
      else d.entries := by
  unfold Device.releaseCommit
  split
  · simp
  · rfl

/-- A return moves its amount from escrow-out back into the pool (11 R299). -/
theorem Device.entries_returnCredits (d : Device) (t : Transfer) (reason : Nat) :
    (d.returnCredits t reason).entries =
      if d.canTransfer then { d.ledger with eout := d.ledger.eout - t.amount, pool := d.ledger.pool + t.amount, frozen := false }
      else d.entries := by
  unfold Device.returnCredits
  split
  · simp
  · rfl

/-- A resolved escrow of amount `a`: returned, settled, released or dropped (11 R306). -/
def Book.resolved (b : Book) (a : Int) : Nat → Book
  | 0 => { b with eout := b.eout - a, pool := b.pool + a }
  | 1 => { b with eout := b.eout - a, allot := b.allot - a }
  | 2 => { b with ein := b.ein - a, pool := b.pool + a }
  | _ => { b with ein := b.ein - a, allot := b.allot - a }

theorem Device.entries_resolveNow_none {d : Device} {id : Nat} (h : d.transfer id = none) (action : Nat) :
    (d.resolveNow id action).entries = d.entries := by
  simp only [Device.resolveNow, h]

theorem Device.entries_resolveNow_some {d : Device} {id : Nat} {t : Transfer} (h : d.transfer id = some t) (action : Nat) :
    (d.resolveNow id action).entries = d.entries.resolved t.amount action := by
  simp only [Device.resolveNow, h, Device.entries_raiseD, Device.entries_commitXfer, Device.entries_toState]
  match action with
  | 0 | 1 | 2 | _ + 3 => rfl

end Sys2Proof.Machine
end

section
/-! SUPPORT. The balance of the ledger under each change of its entries (11 R287, R293–R295, R299, R306). -/

namespace Sys2Proof.Machine

theorem Book.balanced_iff (b : Book) :
    b.balanced ↔ b.allot = b.pool + b.grants.sum + b.rc + b.rh + b.eout + b.ein := Iff.rfl

/-- The freeze is no entry. -/
theorem Device.balanced_entries {d : Device} : d.entries.balanced ↔ d.ledger.balanced := Iff.rfl

/-- The balance stays where the allotment changes by as much as the pool and the two escrows together. -/
theorem Book.balanced_change {b c : Book} (h : b.balanced) (hgrants : c.grants = b.grants) (hrc : c.rc = b.rc)
    (hrh : c.rh = b.rh) (hsum : c.allot - b.allot = c.pool - b.pool + (c.eout - b.eout) + (c.ein - b.ein)) : c.balanced := by
  rw [Book.balanced_iff] at h ⊢
  rw [hgrants, hrc, hrh]
  omega

theorem Device.balanced_of_entries {d : Device} {b : Book} (hd : d.entries = b) (hb : b.balanced) : d.ledger.balanced :=
  Device.balanced_entries.mp (hd ▸ hb)

/-- The balance after a commit that is made under a condition. -/
theorem Device.balanced_of_guarded {d e : Device} {c : Bool} {b : Book} (he : e.entries = if c then b else d.entries)
    (hb : b.balanced) (h : d.ledger.balanced) : e.ledger.balanced := by
  refine Device.balanced_of_entries he ?_
  split
  · exact hb
  · exact h

theorem Book.balanced_resolved {b : Book} (h : b.balanced) (a : Int) (action : Nat) : (b.resolved a action).balanced := by
  unfold Book.resolved
  split <;> exact Book.balanced_change h rfl rfl rfl (by dsimp only; omega)

theorem Device.balanced_resolveNow {d : Device} (h : d.ledger.balanced) (id action : Nat) :
    (d.resolveNow id action).ledger.balanced := by
  cases hrecord : d.transfer id with
  | none => exact Device.balanced_of_entries (Device.entries_resolveNow_none hrecord action) h
  | some t =>
    exact Device.balanced_of_entries (Device.entries_resolveNow_some hrecord action) 
      (Book.balanced_resolved (Device.balanced_entries.mpr h) t.amount action)

/-- A reserve is paid by the pool (11 R294). -/
theorem Book.balanced_moveRc {b : Book} (h : b.balanced) (target : Int) : (b.moveRc target).balanced := by
  rw [Book.balanced_iff] at h ⊢
  simp only [Book.moveRc]
  omega

/-- See `Book.balanced_moveRc` (11 R295). -/
theorem Book.balanced_moveRh {b : Book} (h : b.balanced) (target : Int) : (b.moveRh target).balanced := by
  rw [Book.balanced_iff] at h ⊢
  simp only [Book.moveRh]
  omega

/-- A grant within the sixteen is paid by the pool (11 R293). -/
theorem Book.balanced_regrant {b : Book} {k : Nat} (h : b.balanced) (hk : k < b.grants.length) (g : Int) :
    (b.regrant k g).balanced := by
  rw [Book.balanced_iff] at h ⊢
  simp only [Book.regrant, Book.grant, modAt_const_sum hk]
  omega

/-- The ledger is balanced, and its grants are those of the sixteen feeds. -/
def Device.grantsBalanced (d : Device) : Prop := d.ledger.balanced ∧ d.ledger.grants.length = 16

theorem Device.grantsBalanced_set (d : Device) (o : Obj) (v : Int) (h : d.grantsBalanced) : (d.set o v).grantsBalanced := h

theorem Device.grantsBalanced_regrant {d : Device} {k : Nat} (hk : k < 16) (g : Book → Int) (h : d.grantsBalanced) :
    (d.modBook fun b => b.regrant k (g b)).grantsBalanced := by
  obtain ⟨hbalanced, hlength⟩ := h
  exact ⟨Book.balanced_regrant hbalanced (by omega) _, (modAt_length _ _ _).trans hlength⟩

theorem Device.grantsBalanced_lowerGrant {d : Device} {k : Nat} (hk : k < 16) (h : d.grantsBalanced) :
    (d.lowerGrant k).grantsBalanced := by
  simp only [Device.lowerGrant]
  split
  · exact Device.grantsBalanced_regrant hk (fun _ => d.get (O.grantRequest k)) h
  · exact h

theorem Device.grantsBalanced_raiseGrant {d : Device} {k : Nat} (hk : k < 16) (h : d.grantsBalanced) :
    (d.raiseGrant k).grantsBalanced := by
  simp only [Device.raiseGrant]
  split
  · exact Device.grantsBalanced_regrant hk (fun b => b.grant k + _) h
  · exact h

/-- The grants of a lap: those lowered, then those raised, each paid by the pool (11 R293). -/
theorem Device.grantsBalanced_serveGrants {d : Device} (h : d.grantsBalanced) : d.serveGrants.grantsBalanced := by
  have hfeed {k : Nat} (hk : k ∈ List.range 16) : k < 16 := List.mem_range.mp hk
  unfold Device.serveGrants
  refine Device.forAll_keeps (fun k _ e he => e.grantsBalanced_set _ _ he) (Device.when_keeps (fun e he => ?_) h _)
  have hlowered := Device.forAll_keeps (fun k hk e he => Device.grantsBalanced_lowerGrant (hfeed hk) he) he
  exact Device.when_keeps
    (fun e he => Device.forAll_keeps (fun k hk e he => Device.grantsBalanced_raiseGrant (hfeed hk) he) he) hlowered _

end Sys2Proof.Machine
end

section
open Sys2Proof Sys2Proof.Machine

/-- Settles O11: each commit moves its amount between two entries, or to or from one with the allotment, and its check does no more
than freeze the ledger. -/
theorem ledgerCommitsKeepTheBalance : Obligations.LedgerCommitsKeepTheBalance := by
  unfold Obligations.LedgerCommitsKeepTheBalance
  refine ⟨fun d h => ⟨?hosts, ?answers, ?transfers, Device.balanced_resolveNow h, ?grants⟩,
    fun b target h => ⟨Book.balanced_moveRc h target, Book.balanced_moveRh h target⟩,
    fun b k g h hk => Book.balanced_regrant h hk g⟩
  case hosts =>
    refine fun v => ⟨Device.balanced_of_entries (d.entries_offerNow v) (Book.balanced_change h rfl rfl rfl ?_),
      Device.balanced_of_entries (d.entries_adjustNow v) (Book.balanced_change h rfl rfl rfl ?_),
      congrArg Book.allot (d.entries_adjustNow v)⟩ <;> (dsimp only; omega)
  case answers =>
    refine fun hs id sender reason a => ⟨Device.balanced_of_entries (d.entries_creditRefuse hs id sender reason a) h,
      Device.balanced_of_guarded (d.entries_creditTake hs id sender a) (Book.balanced_change h rfl rfl rfl ?_) h,
      fun hc => congrArg Book.allot ((d.entries_creditTake hs id sender a).trans (if_pos hc))⟩
    dsimp only; omega
  case transfers =>
    refine fun hs reason t =>
      ⟨Device.balanced_of_guarded (d.entries_settleCommit hs t) (Book.balanced_change h rfl rfl rfl ?_) h,
        Device.balanced_of_guarded (d.entries_releaseCommit hs t) (Book.balanced_change h rfl rfl rfl ?_) h,
        Device.balanced_of_guarded (d.entries_returnCredits t reason) (Book.balanced_change h rfl rfl rfl ?_) h,
        fun hc => congrArg Book.allot ((d.entries_settleCommit hs t).trans (if_pos hc))⟩ <;> (dsimp only; omega)
  case grants =>
    exact fun hlength => (Device.grantsBalanced_serveGrants ⟨h, hlength⟩).1

end

section
/-! SUPPORT. A credit frame of a peer that is heard and new, and writes of write-only objects from their bytes (11 R298, 15 R389,
16 R411). -/

namespace Sys2Proof.Machine

/-- A frame from the MAC that is bound on its port is counted, and its message is judged (15 R388). -/
theorem Device.sessionFrame_bound {d : Device} {s p mac : Nat} (h : d.bound s p mac) (f : Device → Device) :
    d.sessionFrame s p mac f = f (d.heard p) := by
  obtain ⟨hhears, hsession, hmac⟩ := h
  rw [Device.sessionFrame, Device.when_pos (by simp [hhears, hsession])]
  simp only [hmac, if_true]
  rfl

theorem Device.replay_fresh {d : Device} {s seq : Nat} (h : d.seenSeq s seq = .fresh) (again f : Device → Device) :
    d.replay s seq again f = (f (d.takeSeq s seq)).exhausted s := by
  simp only [Device.replay, h]

/-- A credit message that reaches the credit layer: its number is taken, and then its effect (11 R298, 15 R389, R400). -/
theorem Device.creditFrame_heard {d e : Device} {fr : FrameIn} {f : Device → Device}
    (hopen : d.get (O.sessionState fr.session) = 2) (hbound : d.bound fr.session fr.port fr.mac.toNat)
    (hfresh : (d.heard fr.port).seenSeq fr.session fr.seq.toNat = .fresh)
    (he : e = (d.heard fr.port).takeSeq fr.session fr.seq.toNat) (hheard : e.creditHeard fr.session = true) :
    d.creditFrame fr f = (f e).exhausted fr.session := by
  subst he
  rw [Device.creditFrame, Device.openFrame, Device.when_pos (by simp [hopen]), Device.sessionFrame_bound hbound,
    Device.replay_fresh hfresh, Device.when_pos hheard]

/-- A value of type I32 is read back from its bytes (16 R407). -/
theorem Ty.decode_encode_int32 (x : BitVec 32) : Ty.i32.decode (Ty.i32.encode x.toInt) = x.toInt := by
  simp only [Ty.decode, Ty.signed, if_true, Ty.encode, Ty.size, Option.getD_some, ofLeSigned_leBytes_int32]

/-- An accepted write of a write-only object, from its bytes: its effect, then the answer. -/
theorem State.writeBytes_wo {d e : Device} {w : List Instr} {path : Fin 17} {o : Obj} {k : Nat} {bs : List Byte} {u v : Int}
    (hl : locate o.index o.sub = .obj o k) (h : d.accepts path o k bs) (hwo : o.access = .wo) (ha : o.apply = .L)
    (hid : o.id ∉ ownAnswerIds) (hv : o.kept (o.ty.decode bs) = v) (he : d.effect d path o k v bs = e) :
    State.writeBytes ⟨d, w⟩ path o bs = .next ⟨Device.linesFollow (Device.settle (e.written path o u)), w⟩ :=
  State.writeBytes_accepted hl h (by simp [ha]) (Device.writeNow_wo hid hwo hv he)

/-- The bytes of an EscrowResolve: the ID and the action (11 R306). -/
def resolveBytes (id : BitVec 64) (action : Byte) : List Byte := leBytes 8 id.toNat ++ [action, 0, 0, 0]

theorem field_resolveBytes (id : BitVec 64) (action : Byte) :
    field (ofLe (resolveBytes id action)) 0 8 = id.toNat ∧ field (ofLe (resolveBytes id action)) 8 1 = action.toNat := by
  have hid := id.isLt
  have haction := action.isLt
  simp only [resolveBytes, field, ofLe_append, ofLe_leBytes 8 id.toNat (by omega), leBytes_length, ofLe, Int.toNat_natCast]
  omega

/-- An accepted EscrowResolve makes the resolve commit of its ID and its action (11 R306). -/
theorem State.writeBytes_escrowResolve {d : Device} {w : List Instr} {path : Fin 17} {id : BitVec 64} {action : Byte}
    (h : d.accepts path O.escrowResolve 0 (resolveBytes id action)) :
    State.writeBytes ⟨d, w⟩ path O.escrowResolve (resolveBytes id action) =
      .next ⟨Device.linesFollow (Device.settle ((d.resolveNow id.toNat action.toNat).written path O.escrowResolve
        (ofLe (resolveBytes id action)))), w⟩ := by
  obtain ⟨hid, haction⟩ := field_resolveBytes id action
  refine State.writeBytes_wo locate_escrowResolve h rfl rfl (by decide) rfl ?_
  change d.resolveNow (field (ofLe (resolveBytes id action)) 0 8) (field (ofLe (resolveBytes id action)) 8 1) = _
  rw [hid, haction]

end Sys2Proof.Machine
end

section
open Sys2Proof Sys2Proof.Machine

/-- Settles O43: each message is heard in its session and new, and its effect is that of the credit layer. Assumption log entries:
a message whose sender does not fit its ID counts in BadMessages (68), an OFFER for a RELEASED record is answered ACCEPT (69),
ACCEPT settles and REFUSE returns from WITHDRAWING too (71); what hears a message is entries 108 and 157. -/
theorem creditMessagesHaveTheirEffect : Obligations.CreditMessagesHaveTheirEffect := by
  unfold Obligations.CreditMessagesHaveTheirEffect
  refine ⟨?offer, ?accept, ?refuse, ?settle, ?close, ?withdraw⟩
  case offer =>
    exact fun fr sender receiver id amount e d w hopen hbound hfresh he hheard =>
      show execCreditOffer fr sender receiver id amount ⟨d, w⟩ = _ from
        State.run_of (Device.creditFrame_heard hopen hbound hfresh he hheard)
  case accept =>
    exact fun fr sender receiver id e d w hopen hbound hfresh he hheard =>
      show execCreditAccept fr sender receiver id ⟨d, w⟩ = _ from
        State.run_of (Device.creditFrame_heard hopen hbound hfresh he hheard)
  case refuse =>
    exact fun fr sender receiver id reason e d w hopen hbound hfresh he hheard =>
      show execCreditRefuse fr sender receiver id reason ⟨d, w⟩ = _ from
        State.run_of (Device.creditFrame_heard hopen hbound hfresh he hheard)
  case settle =>
    exact fun fr sender receiver id e d w hopen hbound hfresh he hheard =>
      show execCreditSettle fr sender receiver id ⟨d, w⟩ = _ from
        State.run_of (Device.creditFrame_heard hopen hbound hfresh he hheard)
  case close =>
    exact fun fr sender receiver id e d w hopen hbound hfresh he hheard =>
      show execCreditClose fr sender receiver id ⟨d, w⟩ = _ from
        State.run_of (Device.creditFrame_heard hopen hbound hfresh he hheard)
  case withdraw =>
    exact fun fr sender receiver id amount e d w hopen hbound hfresh he hheard =>
      show execCreditWithdraw fr sender receiver id amount ⟨d, w⟩ = _ from
        State.run_of (Device.creditFrame_heard hopen hbound hfresh he hheard)

/-- Settles O44: each is an accepted write, carried out by the commit of its object. -/
theorem creditWritesHaveTheirEffect : Obligations.CreditWritesHaveTheirEffect := by
  unfold Obligations.CreditWritesHaveTheirEffect
  refine ⟨?offer, ?withdraw, ?escrowReturn, ?escrowSettle, ?escrowRelease, ?escrowDrop, ?adjust, ?ack⟩
  case offer =>
    exact fun path data d w h => show execTransferOffer path data ⟨d, w⟩ = _ from
      State.writeBytes_wo locate_transferOffer h rfl rfl (by decide) rfl rfl
  case withdraw =>
    exact fun path id d w h => show execTransferWithdraw path id ⟨d, w⟩ = _ from
      State.writeBytes_wo locate_transferWithdraw h rfl rfl (by decide) (Ty.decode_encode rfl rfl id.isLt) rfl
  case escrowReturn =>
    exact fun path id d w h => show execEscrowReturn path id ⟨d, w⟩ = _ from State.writeBytes_escrowResolve (action := 0) h
  case escrowSettle =>
    exact fun path id d w h => show execEscrowSettle path id ⟨d, w⟩ = _ from State.writeBytes_escrowResolve (action := 1) h
  case escrowRelease =>
    exact fun path id d w h => show execEscrowRelease path id ⟨d, w⟩ = _ from State.writeBytes_escrowResolve (action := 2) h
  case escrowDrop =>
    exact fun path id d w h => show execEscrowDrop path id ⟨d, w⟩ = _ from State.writeBytes_escrowResolve (action := 3) h
  case adjust =>
    exact fun path amount d w h => show execLedgerAdjust path amount ⟨d, w⟩ = _ from
      State.writeBytes_wo locate_ledgerAdjust h rfl rfl (by decide) (Ty.decode_encode_int32 amount) rfl
  case ack =>
    exact fun path d w h => show execLedgerAck path ⟨d, w⟩ = _ from
      State.writeBytes_wo locate_ledgerAck h rfl rfl (by decide) rfl rfl

end

section
/-! SUPPORT. The agreement of the three driven lines with the block: what their conditions read, what a command leaves, and a
tick (02 R27, 12 R333, 14 R368, 17 R441). -/

namespace Sys2Proof.Machine

/-- Every arm of the dispatch ends with the lines that follow. -/
theorem exec_linesFollow (c : Instr) (s : State) : ∃ e : Device, exec c s = .next ⟨e.linesFollow, s.pending⟩ := by
  cases c
  all_goals exact ⟨_, rfl⟩

/-- The condition of FAULT_N reads neither of the objects that show a line. -/
theorem Device.faultNow_of_keeps {d e : Device} (hobjects : d.keeps e lineKeys) (hfaults : e.faults = d.faults)
    (hpulse : e.faultPulse = d.faultPulse) : e.faultNow = d.faultNow := by
  simp only [Device.faultNow, Device.faultHold, Device.flag, hfaults, hpulse, hobjects O.controllerClassA (by decide),
    hobjects O.faultNHoldMask (by decide)]

/-- The condition of SEQ_FLT_N reads neither of the objects that show a line. -/
theorem Device.seqFltNow_of_keeps {d e : Device} (hobjects : d.keeps e lineKeys) (hseq : e.seq = d.seq) :
    e.seqFltNow = d.seqFltNow := by
  simp only [Device.seqFltNow, Device.flag, hseq, hobjects O.controllerClassA (by decide),
    hobjects O.seqFltMode (by decide), hobjects O.seqFltEnable (by decide)]

theorem Device.faultNow_updateSeqFlt (d : Device) : d.updateSeqFlt.faultNow = d.faultNow :=
  Device.faultNow_of_keeps (d.keeps_set (o := O.seqFltDriving) (by decide) _) rfl rfl

theorem Device.faultNow_linesFollow (d : Device) : d.linesFollow.faultNow = d.faultNow :=
  Device.faultNow_of_keeps (Device.keeps_linesFollow (d.keeps_refl [])) rfl rfl

theorem Device.seqFltNow_linesFollow (d : Device) : d.linesFollow.seqFltNow = d.seqFltNow :=
  Device.seqFltNow_of_keeps (Device.keeps_linesFollow (d.keeps_refl [])) rfl

/-- FAULT_N follows after SEQ_FLT_N, and the object that shows FAULT_N is another one. -/
theorem Device.linesFollow_seqFltDriving (d : Device) : d.linesFollow.flag O.seqFltDriving = d.seqFltNow :=
  calc d.linesFollow.flag O.seqFltDriving
    _ = d.updateSeqFlt.flag O.seqFltDriving := by
      unfold Device.flag
      exact congrArg (· == 1) (Device.get_set_other (p := O.faultNLevel) (by decide) _ _)
    _ = d.seqFltNow := Device.flag_setFlag_same _ _ _

theorem Device.linesFollow_faultNLevel (d : Device) : d.linesFollow.flag O.faultNLevel = !d.faultNow :=
  (Device.flag_setFlag_same _ O.faultNLevel _).trans (congrArg not d.faultNow_updateSeqFlt)

/-- Once the lines have followed they agree with the block. -/
theorem Device.linesFollow_agree (d : Device) : d.linesFollow.linesAgree := by
  unfold Device.linesAgree
  rw [d.faultNow_linesFollow, d.seqFltNow_linesFollow]
  exact ⟨rfl, congrArg not d.faultNow_updateSeqFlt, rfl, d.linesFollow_faultNLevel, d.linesFollow_seqFltDriving⟩

/-- A tick before which nothing of hold-up is due moves the stamp at most, which no line reads. -/
theorem Device.idle_agrees {d : Device} (hdue : d.hold.due = none) (h : d.linesAgree) : d.idle.linesAgree := by
  by_cases hticks : d.sys.coreRunning = true ∧ d.tb.stamp % 65536 < 65535
  · obtain ⟨hcore, hlap⟩ := hticks
    rw [Device.idle_ticks hcore hlap, Device.ruleDue_none hdue]
    exact h
  · rw [not_and_or, Bool.not_eq_true] at hticks
    rw [Device.idle_rests (hticks.imp_right fun _ => by omega)]
    exact h

/-- A step with no command waiting. -/
theorem idleStep_agrees {s s' : State} (h : s.dev.linesAgree) (hstep : idleStep s = .next s') : s'.dev.linesAgree := by
  cases hdue : s.dev.hold.due with
  | none =>
    rw [idleStep_none hdue] at hstep
    cases hstep
    exact Device.idle_agrees hdue h
  | some u =>
    rw [idleStep_due (by simp [hdue]) rfl] at hstep
    cases hstep
    exact Device.linesFollow_agree _

/-- A command, whatever the lines were before it. -/
theorem exec_agrees {c : Instr} {s s' : State} (hexec : exec c s = .next s') : s'.dev.linesAgree := by
  obtain ⟨e, he⟩ := exec_linesFollow c s
  rw [he] at hexec
  cases hexec
  exact e.linesFollow_agree

end Sys2Proof.Machine
end

section
/-! SUPPORT. Accepted writes of RWS objects wherever they lie, and what a write of the sequencer's own does (12 R322, R323, R325,
16 R409, R411). -/

namespace Sys2Proof.Machine

/-- An accepted write of an RWS object: the value, its effect, then the store and the answer. -/
theorem State.write_stored {d e : Device} {w : List Instr} {path : Fin 17} {o : Obj} {k : Nat} {u v : Int}
    (hl : locate o.index o.sub = .obj o k) (h : d.accepts path o k (o.ty.encode u)) (hrws : o.access = .rws)
    (ha : o.apply ≠ .A) (hid : o.id ∉ ownAnswerIds ++ ownValueIds) (hv : o.kept (o.ty.decode (o.ty.encode u)) = v)
    (he : (d.set o v).effect d path o k v (o.ty.encode u) = e) :
    State.write ⟨d, w⟩ path o u = .next ⟨Device.linesFollow (Device.settle (e.written path o v)), w⟩ := by
  obtain ⟨hanswer, hvalue⟩ : o.id ∉ ownAnswerIds ∧ o.id ∉ ownValueIds := by simpa using hid
  refine State.writeBytes_accepted hl h ha ?_
  rw [Device.writeNow_written hanswer, hv, Device.takeEffect_value (by simp [hrws]) hvalue, he]

theorem Device.effect_seqEnable (d old : Device) (path k : Nat) (v : Int) (bs : List Byte) :
    d.effect old path O.seqEnable k v bs = if v = 1 then d.seqUpNow else d.seqDownNow := rfl

theorem Device.effect_seqAck (d old : Device) (path k : Nat) (bs : List Byte) :
    d.effect old path O.seqAck k 1 bs = d.seqAckNow.releaseAck 78 := rfl

end Sys2Proof.Machine
end

section
open Sys2Proof Sys2Proof.Machine

/-- Settles O4: no line is asserted, and both objects read as such. -/
theorem linesAgreeAtReset : Obligations.LinesAgreeAtReset := by
  unfold Obligations.LinesAgreeAtReset
  exact ⟨rfl, rfl, rfl, rfl, rfl⟩

/-- Settles O5: a command, and a tick before which something was due, end with the lines that follow; any other tick changes
nothing that they read. -/
theorem linesAgreeAfterEveryStep : Obligations.LinesAgreeAfterEveryStep := by
  unfold Obligations.LinesAgreeAfterEveryStep
  rintro ⟨d, queue⟩ s' hagree hstep
  cases queue with
  | nil => exact idleStep_agrees (s := ⟨d, []⟩) hagree hstep
  | cons c w => exact exec_agrees (c := c) (s := ⟨d, w⟩) hstep

/-- Settles O45: each command is a guarded change of the block, and its guard holds. What a fall marks while no core is
active, and how one in a qualification is judged, is assumption log entry 196. -/
theorem railCommandsHaveTheirEffect : Obligations.RailCommandsHaveTheirEffect := by
  unfold Obligations.RailCommandsHaveTheirEffect
  refine ⟨?railStart, ?pgRise, ?railQualified, ?pgFall, ?pgTimeout, ?railStopStep, ?dischargeTimeout, ?subtreeRetry,
    ?sequenceRetry, ?subtreeCount, ?sequenceCount⟩
  case railStart =>
    exact fun r d w hcore hwaits hpreds => show execRailStart r ⟨d, w⟩ = _ from
      State.run_when (by simp only [hcore, hwaits, hpreds]; rfl)
  case pgRise =>
    exact fun r d w hlive hkind hlow hgood => show execPgRise r ⟨d, w⟩ = _ from
      State.run_when (by simp [hlive, hkind, hlow, hgood])
  case railQualified =>
    exact fun r d w hcore hqualifies hgood => show execRailQualified r ⟨d, w⟩ = _ from
      State.run_when (by simp [hcore, hqualifies, hgood])
  case pgFall =>
    exact fun r d w hlive hkind hgood hfeed => show execPgFall r ⟨d, w⟩ = _ from
      State.run_when (by simpa [hlive, hkind, hgood] using hfeed)
  case pgTimeout =>
    exact fun r d w hcore hstate hsource hdown => show execPgTimeout r ⟨d, w⟩ = _ from
      State.run_when (by simpa [hcore, hsource, hdown, or_assoc] using hstate)
  case railStopStep =>
    exact fun r d w hcore hdown hdependants => show execRailStopStep r ⟨d, w⟩ = _ from
      State.run_when (by simp only [hcore, hdown, hdependants]; rfl)
  case dischargeTimeout =>
    exact fun r d w hcore hstate => show execDischargeTimeout r ⟨d, w⟩ = _ from State.run_when (by simp [hcore, hstate])
  case subtreeRetry =>
    exact fun r d w hcore hstate hretries hoff => show execRetryDelayEnd (some r) ⟨d, w⟩ = _ from
      State.run_when (by simp only [hcore, hstate, hretries, hoff]; rfl)
  case sequenceRetry =>
    exact fun d w hcore hstate hoff => show execRetryDelayEnd none ⟨d, w⟩ = _ from
      State.run_when (by simp [hcore, hstate, hoff])
  case subtreeCount =>
    exact fun r d w hcore hup => (exec_seqRetryCountReset_some r ⟨d, w⟩).trans
      (State.next_when (by simp only [hcore, hup]; rfl))
  case sequenceCount =>
    exact fun d w hcore hstate => show execSeqRetryCountReset none ⟨d, w⟩ = _ from State.next_when (by simp [hcore, hstate])

/-- Settles O46: each command is a guarded change of the block, and its guard holds; the writes are carried out by the effect of
their object. Starts and acknowledgements outside the usual states are assumption log entry 195. -/
theorem sequencerLineCommandsHaveTheirEffect : Obligations.SequencerLineCommandsHaveTheirEffect := by
  unfold Obligations.SequencerLineCommandsHaveTheirEffect
  refine ⟨?low, ?rise, ?releaseMet, ?stuck, ?routePulseEnd, ?rstStretchDone, ?powerUp, ?powerDown, ?ack⟩
  case low =>
    exact fun d w hlive henable hline => show execSeqFltLow ⟨d, w⟩ = _ from
      State.run_when (by simp [hlive, henable, hline])
  case rise =>
    exact fun d w hlive henable hline => show execSeqFltRise ⟨d, w⟩ = _ from
      State.run_when (by simp [hlive, henable, hline])
  case releaseMet =>
    exact fun d w hcore henable hline => show execSeqFltReleaseMet ⟨d, w⟩ = _ from
      State.run_when (by simp [hcore, henable, hline])
  case stuck =>
    exact fun d w hcore henable hline hdrive hreleased hsaid => show execSeqFltStuck ⟨d, w⟩ = _ from
      State.next_when (by simp [hcore, henable, hline, hdrive, hreleased, hsaid])
  case routePulseEnd => exact fun d w hpulse => show execSeqFltRoutePulseEnd ⟨d, w⟩ = _ from State.next_when hpulse
  case rstStretchDone =>
    exact fun i d w hlive hcond => show execRstStretchDone i ⟨d, w⟩ = _ from State.next_when (by simp [hlive, hcond])
  case powerUp =>
    exact fun path d w h => show execSeqPowerUp path ⟨d, w⟩ = _ from
      State.write_stored locate_seqEnable h rfl (by decide) (by decide) rfl (Device.effect_seqEnable _ d path 0 1 _)
  case powerDown =>
    exact fun path d w h => show execSeqPowerDown path ⟨d, w⟩ = _ from
      State.write_stored locate_seqEnable h rfl (by decide) (by decide) rfl (Device.effect_seqEnable _ d path 0 0 _)
  case ack =>
    exact fun path d w h => show execSeqAck path ⟨d, w⟩ = _ from
      State.writeBytes_wo locate_seqAck h rfl rfl (by decide) rfl (Device.effect_seqAck d d path 0 _)
end

section
/-! SUPPORT. What a write of the objects of windows, the router, faults and lanes does (13 R347–R351, 14 R361, 18 R461–R470). -/

namespace Sys2Proof.Machine

theorem Device.effect_clear (d old : Device) (u path k : Nat) (bs : List Byte) :
    d.effect old path (O.clear u) k 1 bs = d.windowClear k :=
  Device.effect_high (by simp; omega) _ _ _ _ _ _

theorem Device.effect_edgeClear (d old : Device) (u path k : Nat) (v : Int) (bs : List Byte) :
    d.effect old path (O.edgeClear u) k v bs = d.edgeClearNow k v :=
  Device.effect_high (by simp; omega) _ _ _ _ _ _

theorem Device.effect_routeHold (d old : Device) (u path k : Nat) (v : Int) (bs : List Byte) :
    d.effect old path (O.routeHold u) k v bs = d.routeHoldNow k (old.flag (O.routeHold u)) :=
  Device.effect_high (by simp; omega) _ _ _ _ _ _

theorem Ty.decode_encode_bool (b : Bool) : Ty.bool.decode (Ty.bool.encode (b2i b)) = b2i b := by
  cases b <;> rfl

end Sys2Proof.Machine
end

section
open Sys2Proof Sys2Proof.Machine

/-- Settles O47: the events are guarded changes of the block, the writes are carried out by the effect of their object. That the
codes of a decision come with the command is assumption log entry 151. -/
theorem windowCommandsHaveTheirEffect : Obligations.WindowCommandsHaveTheirEffect := by
  unfold Obligations.WindowCommandsHaveTheirEffect
  refine ⟨?decision, ?timerExpiry, ?evoPulseEnd, ?clear, ?latchClear, ?edgeClear, ?routeHold, ?routerEnable⟩
  case decision =>
    exact fun tick codes d w hcore => show execWindowDecision tick codes ⟨d, w⟩ = _ from State.run_when hcore
  case timerExpiry =>
    exact fun j d w hcore hrunning => show execRouterTimerExpiry j ⟨d, w⟩ = _ from State.run_when (by simp [hcore, hrunning])
  case evoPulseEnd => exact fun j d w => rfl
  case clear =>
    exact fun u path d w h => show execWindowClear u path ⟨d, w⟩ = _ from
      State.writeBytes_wo (locate_clear u) h rfl rfl (by simp [ownAnswerIds]) rfl (Device.effect_clear d d u path u _)
  case latchClear =>
    exact fun path mask d w h => show execLatchClearMaskWrite path mask ⟨d, w⟩ = _ from
      State.writeBytes_wo locate_latchClearMask h rfl rfl (by decide) (Ty.decode_encode rfl rfl mask.isLt) rfl
  case edgeClear =>
    exact fun u path flags d w h => show execEdgeClear u path flags ⟨d, w⟩ = _ from
      State.writeBytes_wo (locate_edgeClear u) h rfl rfl (by simp [ownAnswerIds]) (Ty.decode_encode rfl rfl flags.isLt)
        (Device.effect_edgeClear d d u path u _ _)
  case routeHold =>
    exact fun u path hold d w h => show execRouteHold u path hold ⟨d, w⟩ = _ from
      State.write_stored (locate_routeHold u) h rfl (by simp) (by simp [ownAnswerIds, ownValueIds]) (Ty.decode_encode_bool hold)
        (Device.effect_routeHold _ d u path u _ _)
  case routerEnable =>
    exact fun path d w h => show execRouterEnable path ⟨d, w⟩ = _ from
      State.write_stored locate_routerEnable h rfl (by decide) (by decide) rfl rfl

/-- Settles O48: the events are guarded changes of the block, the acknowledgement is a write carried out by the effect of its
object. That a rise which stays above the limit is raised once is assumption log entry 150. -/
theorem faultAndThermalCommandsHaveTheirEffect : Obligations.FaultAndThermalCommandsHaveTheirEffect := by
  unfold Obligations.FaultAndThermalCommandsHaveTheirEffect
  refine ⟨?ack, ?pulseEnd, ?sample, ?rise, ?shutdown, ?coreStop⟩
  case ack =>
    exact fun b path d w h => show execFaultAck b path ⟨d, w⟩ = _ from
      State.writeBytes_wo (locate_faultAck b) h rfl rfl (by simp [ownAnswerIds]) rfl
        (Device.effect_high (by simp; omega) _ _ _ _ _ _)
  case pulseEnd => exact fun d w => rfl
  case sample =>
    exact fun sample d w hcore hgd => show execThermalSample sample ⟨d, w⟩ = _ from State.run_when (by simp [hcore, hgd])
  case rise =>
    exact fun d w hcore hgd hsensor hfull => show execRiseRateEvaluation ⟨d, w⟩ = _ from
      State.run_when (by simp [hcore, hgd, hsensor, hfull])
  case shutdown => exact fun d w hvdd => show execThermalShutdown ⟨d, w⟩ = _ from State.run_when hvdd
  case coreStop =>
    exact fun d w hcore ha hblock hcode => show execThermalCoreStop ⟨d, w⟩ = _ from
      State.next_when (by simp [hcore, ha, hblock, hcode])
end

section
/-! SUPPORT. Writes of objects that keep a value and are not stored, and what a write of the lanes', the recorder's and the
packages' objects does (16 R409, 18 R461–R470, 19 R481–R492, 20 R500–R506). -/

namespace Sys2Proof.Machine

/-- An accepted write of an object that keeps a value and is not stored: the value, its effect, then the answer. -/
theorem State.write_rw {d e : Device} {w : List Instr} {path : Fin 17} {o : Obj} {k : Nat} {u v : Int}
    (hl : locate o.index o.sub = .obj o k) (h : d.accepts path o k (o.ty.encode u)) (hrw : o.access = .rw)
    (ha : o.apply ≠ .A) (hid : o.id ∉ ownAnswerIds ++ ownValueIds) (hv : o.kept (o.ty.decode (o.ty.encode u)) = v)
    (he : (d.set o v).effect d path o k v (o.ty.encode u) = e) :
    State.write ⟨d, w⟩ path o u = .next ⟨Device.linesFollow (Device.settle (e.written path o v)), w⟩ := by
  obtain ⟨hanswer, hvalue⟩ : o.id ∉ ownAnswerIds ∧ o.id ∉ ownValueIds := by simpa using hid
  refine State.writeBytes_accepted hl h ha ?_
  rw [Device.writeNow_written hanswer, hv, Device.takeEffect_value (by simp [hrw]) hvalue, he]

theorem Device.effect_pfEnable {old : Device} {v : Int} (h : old.get O.pfEnable ≠ v) (d : Device) (path k : Nat)
    (bs : List Byte) :
    d.effect old path O.pfEnable k v bs = if v = 1 then d.pfEnabled else d.pfDisabled :=
  Device.when_pos (f := fun d => if v = 1 then d.pfEnabled else d.pfDisabled) (bne_iff_ne.mpr h)

theorem Device.writeNow_standbyRequest (d : Device) (path k : Nat) :
    d.writeNow path O.standbyRequest k (O.standbyRequest.ty.encode 1) true =
      (d.answer path 0xA050 1 0 0 []).standbyNow := rfl

theorem Device.writeNow_packageVerify (d : Device) (path k : Nat) :
    d.writeNow path O.packageVerify k (O.packageVerify.ty.encode 1) true = d.verifyNow path := rfl

theorem Device.writeNow_packageInstall (d : Device) (path k : Nat) :
    d.writeNow path O.packageInstall k (O.packageInstall.ty.encode 1) true = d.installNow path := rfl

end Sys2Proof.Machine
end

section
open Sys2Proof Sys2Proof.Machine

/-- Settles O59: the events are guarded changes of the block, the writes are carried out by the effect of their object. That a
standby is answered before it is entered is assumption log entry 137, the free code of the lock-wait notice entry 138. -/
theorem startCommandsHaveTheirEffect : Obligations.StartCommandsHaveTheirEffect := by
  unfold Obligations.StartCommandsHaveTheirEffect
  refine ⟨?step, ?lockWait, ?bringup, ?standby, ?write, ?verify, ?verifyDone, ?install, ?installDone, ?discard⟩
  case step => exact fun d w hsteps => show execAutostartStep ⟨d, w⟩ = _ from State.run_when (by simpa using hsteps)
  case lockWait =>
    exact fun d w hauto hstep happlied hready hlaps => show execAutostartLockWaitExpiry ⟨d, w⟩ = _ from
      State.run_when (by simp [hauto, hstep, happlied, hready, hlaps])
  case bringup =>
    exact fun d w hcore hretrying => show execBringupTimeout ⟨d, w⟩ = _ from State.run_when (by simp [hcore, hretrying])
  case standby =>
    exact fun path d w h => show execStandbyRequest path ⟨d, w⟩ = _ from
      State.writeBytes_accepted locate_standbyRequest h (by decide) (Device.writeNow_standbyRequest d path 0)
  case write =>
    exact fun path data d w h => show execPackageWrite path data ⟨d, w⟩ = _ from
      State.writeBytes_wo locate_packageWrite h rfl rfl (by decide) rfl rfl
  case verify =>
    exact fun path d w h => show execPackageVerify path ⟨d, w⟩ = _ from
      State.writeBytes_accepted locate_packageVerify h (by decide) (Device.writeNow_packageVerify d path 0)
  case verifyDone => exact fun d w hcore => show execPackageVerifyDone ⟨d, w⟩ = _ from State.run_when hcore
  case install =>
    exact fun path d w h => show execPackageInstall path ⟨d, w⟩ = _ from
      State.writeBytes_accepted locate_packageInstall h (by decide) (Device.writeNow_packageInstall d path 0)
  case installDone =>
    exact fun ok d w hcore hbrown => show execPackageInstallDone ok ⟨d, w⟩ = _ from State.run_when (by simp [hcore, hbrown])
  case discard =>
    exact fun path d w h => show execPackageDiscard path ⟨d, w⟩ = _ from
      State.writeBytes_wo locate_packageDiscard h rfl rfl (by decide) rfl rfl

/-- Settles O51: each command is a guarded change of the block, and its guard holds. That a void measurement is repeated once, and
that 0xFFFF stands where no echo came, is assumption log entry 104. -/
theorem portCommandsHaveTheirEffect : Obligations.PortCommandsHaveTheirEffect := by
  unfold Obligations.PortCommandsHaveTheirEffect
  refine ⟨?bad, ?foreign, ?fcs, ?collision, ?beaconLoss, ?beacon, ?silent, ?measured⟩
  case bad => exact fun p second d w hhears => show execIopBadFrame p second ⟨d, w⟩ = _ from State.run_when hhears
  case foreign => exact fun p d w hhears => show execForeignFrame p ⟨d, w⟩ = _ from State.run_when hhears
  case fcs => exact fun p d w hhears => show execFcsErrorFrame p ⟨d, w⟩ = _ from State.run_when hhears
  case collision => exact fun p d w hhears => show execCollision p ⟨d, w⟩ = _ from State.run_when hhears
  case beaconLoss =>
    exact fun p d w hhears hlow hhigh hfell => show execBeaconLoss p ⟨d, w⟩ = _ from
      State.run_of (Device.when_pos (by simp [hhears, hlow, hhigh, hfell]))
  case beacon =>
    exact fun p d w hhears hfell => show execBeaconReceived p ⟨d, w⟩ = _ from State.run_when (by simp [hhears, hfell])
  case silent =>
    exact fun p d w hhears hsilent => show execPortSilent p ⟨d, w⟩ = _ from State.run_when (by simp [hhears, hsilent])
  case measured =>
    exact fun p echo fault d w hhears hmeasures => show execSegmentMeasureDone p echo fault ⟨d, w⟩ = _ from
      State.run_when (by simp [hhears, hmeasures])

/-- Settles O52: each is an accepted write, carried out by the effect of its object. -/
theorem networkWritesHaveTheirEffect : Obligations.NetworkWritesHaveTheirEffect := by
  unfold Obligations.NetworkWritesHaveTheirEffect
  refine ⟨?measure, ?sync, ?key, ?keyClear, ?rights⟩
  case measure =>
    exact fun p path d w h => show execSegmentMeasure p path ⟨d, w⟩ = _ from
      State.write_wo (locate_segmentMeasure p) h rfl rfl (by have := p.isLt; simp; omega) (by simp [ownAnswerIds]) rfl rfl
  case sync =>
    exact fun path pair d w h => show execWallClockSync path pair ⟨d, w⟩ = _ from
      State.writeBytes_wo locate_wallClockSync h rfl rfl (by decide) rfl rfl
  case key =>
    exact fun slot path key d w h => show execKeyWrite slot path key ⟨d, w⟩ = _ from
      State.writeBytes_wo (locate_key slot) h rfl rfl (by simp [ownAnswerIds]) rfl
        (Device.effect_low (by have := slot.isLt; simp; omega) _ _ _ _ _ _)
  case keyClear =>
    exact fun slot path d w h => show execKeyClear slot path ⟨d, w⟩ = _ from
      State.write_wo (locate_keyClear slot) h rfl rfl (by have := slot.isLt; simp; omega) (by simp [ownAnswerIds]) rfl rfl
  case rights =>
    exact fun slot path rights d w h => show execRightsWrite slot path rights ⟨d, w⟩ = _ from
      State.write_rws (locate_rights slot) h rfl rfl (by have := slot.isLt; simp; omega) (by simp [ownAnswerIds, ownValueIds])
        (Ty.decode_encode rfl rfl rights.isLt) rfl

/-- Settles O54: each command is a guarded change of the block, and its guard holds. -/
theorem managementCommandsHaveTheirEffect : Obligations.ManagementCommandsHaveTheirEffect := by
  unfold Obligations.ManagementCommandsHaveTheirEffect
  refine ⟨?transaction, ?wake, ?wakeFailure, ?stuck, ?opRead, ?opWrite, ?opDone, ?causeClear, ?refresh⟩
  case transaction =>
    exact fun data d w hvaon hruns => show execMgmtWriteTransaction data ⟨d, w⟩ = _ from
      State.run_when (by simpa [hvaon] using hruns)
  case wake => exact fun ns m d w hstandby => show execMgmtWake ns m ⟨d, w⟩ = _ from State.run_when (by simp [hstandby])
  case wakeFailure => exact fun d w hstandby => show execWakeFailure ⟨d, w⟩ = _ from State.run_when (by simp [hstandby])
  case stuck => exact fun d w hvaon => show execMgmtStuckRelease ⟨d, w⟩ = _ from State.run_when hvaon
  case opRead =>
    exact fun d w hopen hstate hop hresult => show execWindowOpRead ⟨d, w⟩ = _ from
      State.run_of (Device.when_pos (by simp [hopen, hstate, hop, hresult]))
  case opWrite =>
    exact fun stored d w hopen hstate hop hstarted => show execWindowOpWrite stored ⟨d, w⟩ = _ from
      State.run_of (Device.when_pos (by simp [hopen, hstate, hop, hstarted]))
  case opDone =>
    exact fun d w hcore hne hstate => show execWindowOpDone ⟨d, w⟩ = _ from State.run_when (by simp [hcore, hne, hstate])
  case causeClear =>
    exact fun mask d w hvaon hcore => show execAlertCauseClear mask ⟨d, w⟩ = _ from State.run_when (by simp [hvaon, hcore])
  case refresh =>
    exact fun d w hlive hgd => show execFastStatusRefresh ⟨d, w⟩ = _ from State.run_when (by simp [hlive, hgd])

/-- Settles O55: each command is a guarded change of the block, and its guard holds. What the end of a training sets, and that it
arms a capture, is assumption log entry 124; the operands of a patrol step are entry 155. -/
theorem memoryCommandsHaveTheirEffect : Obligations.MemoryCommandsHaveTheirEffect := by
  unfold Obligations.MemoryCommandsHaveTheirEffect
  refine ⟨?training, ?retry, ?parity, ?patrol, ?refresh, ?calibration⟩
  case training =>
    exact fun ok d w hcore hstate => show execDdrTrainingDone ok ⟨d, w⟩ = _ from State.run_when (by simp [hcore, hstate])
  case retry =>
    exact fun d w hcore hstate => show execDdrTrainingRetry ⟨d, w⟩ = _ from State.run_when (by simpa [hcore] using hstate)
  case parity =>
    exact fun again d w hcore hstate => show execCaParityError again ⟨d, w⟩ = _ from State.run_when (by simp [hcore, hstate])
  case patrol =>
    exact fun mram upset holds inSecond d w hcore hup => show execPatrolScrub mram upset holds inSecond ⟨d, w⟩ = _ from
      State.run_when (by simpa [hcore] using hup)
  case refresh => exact fun d w hcore hstate => show execDdrRefresh ⟨d, w⟩ = _ from State.run_when (by simp [hcore, hstate])
  case calibration =>
    exact fun d w hcore hstate => show execZqCalibration ⟨d, w⟩ = _ from State.run_when (by simp [hcore, hstate])

/-- Settles O56: the writes are carried out by the effect of their object, the idle notice is a guarded change of the block. -/
theorem laneCommandsHaveTheirEffect : Obligations.LaneCommandsHaveTheirEffect := by
  unfold Obligations.LaneCommandsHaveTheirEffect
  refine ⟨?push, ?claim, ?release, ?flush, ?idle⟩
  case push =>
    exact fun q path data d w h => show execPushSegment q path data ⟨d, w⟩ = _ from
      State.writeBytes_wo (locate_pushSegment q) h rfl rfl (by simp [ownAnswerIds]) rfl
        (Device.effect_high (by simp; omega) _ _ _ _ _ _)
  case claim =>
    exact fun q path d w h => show execLaneClaim q path ⟨d, w⟩ = _ from
      State.writeBytes_wo (locate_claim q) h rfl rfl (by simp [ownAnswerIds]) rfl
        (Device.effect_high (by simp; omega) _ _ _ _ _ _)
  case release =>
    exact fun q path seq d w h => show execLaneRelease q path seq ⟨d, w⟩ = _ from
      State.writeBytes_wo (locate_release q) h rfl rfl (by simp [ownAnswerIds]) (Ty.decode_encode rfl rfl seq.isLt)
        (Device.effect_high (by simp; omega) _ _ _ _ _ _)
  case flush =>
    exact fun q path d w h => show execLaneFlush q path ⟨d, w⟩ = _ from
      State.write_stored (locate_laneEnable q) h rfl (by simp) (by simp [ownAnswerIds, ownValueIds]) rfl
        (Device.effect_high (by simp; omega) _ _ _ _ _ _)
  case idle =>
    exact fun q d w hcore htime hitems hidle => show execLaneIdle q ⟨d, w⟩ = _ from
      State.run_when (by simp only [hcore, hitems, hidle, bne_iff_ne.mpr htime]; rfl)

/-- Settles O57: the events are guarded changes of the block, the writes are carried out by the effect of their object. -/
theorem recorderCommandsHaveTheirEffect : Obligations.RecorderCommandsHaveTheirEffect := by
  unfold Obligations.RecorderCommandsHaveTheirEffect
  refine ⟨?turn, ?freeze, ?unfreeze, ?timeout, ?key, ?request, ?response, ?expiry⟩
  case turn =>
    exact fun d w hcore hbe hbrown => show execRecordWrite ⟨d, w⟩ = _ from State.next_when (by simp [hcore, hbe, hbrown])
  case freeze =>
    exact fun path d w h => show execFreeze path ⟨d, w⟩ = _ from
      State.write_rw locate_freeze h rfl (by decide) (by decide) rfl rfl
  case unfreeze =>
    exact fun path d w h => show execUnfreeze path ⟨d, w⟩ = _ from
      State.write_rw locate_freeze h rfl (by decide) (by decide) rfl rfl
  case timeout =>
    exact fun d w hcore hfrozen => show execFreezeTimeout ⟨d, w⟩ = _ from State.run_when (by simp [hcore, hfrozen])
  case key =>
    exact fun path key d w h => show execClearKeyWrite path key ⟨d, w⟩ = _ from
      State.writeBytes_wo locate_clearKey h rfl rfl (by decide) rfl rfl
  case request =>
    exact fun path d w h => show execClearRequest path ⟨d, w⟩ = _ from
      State.writeBytes_wo locate_clearRequest h rfl rfl (by decide) rfl rfl
  case response =>
    exact fun path mac d w h => show execClearResponse path mac ⟨d, w⟩ = _ from
      State.writeBytes_wo locate_clearResponse h rfl rfl (by decide) rfl rfl
  case expiry => exact fun d w => rfl

/-- Settles O58: the events are guarded changes of the block, the writes are carried out by the effect of their object. -/
theorem photoFinishCommandsHaveTheirEffect : Obligations.PhotoFinishCommandsHaveTheirEffect := by
  unfold Obligations.PhotoFinishCommandsHaveTheirEffect
  refine ⟨?frame, ?frozen, ?trigger, ?enable, ?disable, ?release⟩
  case frame =>
    exact fun words d w hcore hbe hddr => show execPfFrame words ⟨d, w⟩ = _ from State.next_when (by simp [hcore, hbe, hddr])
  case frozen =>
    exact fun d w hcore hbe hstate hpost => show execPfCaptureFrozen ⟨d, w⟩ = _ from
      State.run_when (by simp [hcore, hbe, hstate, hpost])
  case trigger =>
    exact fun path d w h => show execPfTrigger path ⟨d, w⟩ = _ from
      State.writeBytes_wo locate_pfTrigger h rfl rfl (by decide) rfl rfl
  case enable =>
    exact fun path d w h hoff => show execPfEnable path ⟨d, w⟩ = _ from
      State.write_stored locate_pfEnable h rfl (by decide) (by decide) rfl (Device.effect_pfEnable hoff _ path 0 _)
  case disable =>
    exact fun path d w h hon => show execPfDisable path ⟨d, w⟩ = _ from
      State.write_stored locate_pfEnable h rfl (by decide) (by decide) rfl (Device.effect_pfEnable hon _ path 0 _)
  case release =>
    exact fun path slot d w h => show execPfRelease path slot ⟨d, w⟩ = _ from
      State.writeBytes_wo locate_pfRelease h rfl rfl (by decide) (Ty.decode_encode rfl rfl slot.isLt) rfl
end

section
/-! SUPPORT. A frame of an open session by the answer of the replay window, and operations that may start or wait (15 R387–R397). -/

namespace Sys2Proof.Machine

theorem Device.replay_duplicate {d : Device} {s seq : Nat} (h : d.seenSeq s seq = .duplicate) (again f : Device → Device) :
    d.replay s seq again f = again (d.bump (O.sessionDuplicates s)) := by
  simp only [Device.replay, h]

/-- A frame of an open session that is heard and new: its number is taken, and then its effect (15 R389, R390). -/
theorem Device.openFrame_fresh {d : Device} {s p mac seq : Nat} (hopen : d.get (O.sessionState s) = 2) (hbound : d.bound s p mac)
    (hfresh : (d.heard p).seenSeq s seq = .fresh) (f : Device → Device) :
    d.openFrame s p mac seq f = (f ((d.heard p).takeSeq s seq)).exhausted s := by
  rw [Device.openFrame, Device.when_pos (by simp [hopen]), Device.sessionFrame_bound hbound, Device.replay_fresh hfresh]

theorem Device.startOp_of_mayStart {d : Device} {s seq i : Nat} {op : Op} (h : d.mayStart s seq i op) (f : Op → Device → Device) :
    d.startOp s seq i f = f op d := by
  obtain ⟨hopen, r, hop, hheld⟩ := h
  rw [Device.startOp, Device.when_pos hopen, hop]
  exact Device.when_pos (by simp [hheld])

theorem Device.pendingWait_of_started {d : Device} {s seq i : Nat} {r : Req} {ix : BitVec 16} {sb : Byte} {c m t : BitVec 32}
    (hopen : d.pathOpen s = true) (hop : d.opAt s seq i = some (r, ⟨.wait ix sb c m t, true, none⟩))
    (f : Nat → BitVec 32 → BitVec 32 → Nat × List Byte × Device → Device) :
    d.pendingWait s seq i f = f ix.toNat c m (d.readObject s ix.toNat sb.toNat) := by
  rw [Device.pendingWait, Device.when_pos hopen, hop]

end Sys2Proof.Machine
end

section
open Sys2Proof Sys2Proof.Machine

/-- Settles O49: each frame is heard on its port and takes the branch of its content, the other commands are guarded changes of the
block. A copy of an OPEN is recognised by assumption log entry 95, and the opener holds its session open once it has sent CONFIRM
by entry 98; an OPEN with a wrong tag is counted as R384 says. -/
theorem sessionCommandsHaveTheirEffect : Obligations.SessionCommandsHaveTheirEffect := by
  unfold Obligations.SessionCommandsHaveTheirEffect
  refine ⟨?opened, ?openBad, ?openNoKey, ?openAck, ?confirm, ?confirmAgain, ?close, ?confirmTimeout, ?idleClose, ?peerOpen⟩
  case opened =>
    intro p mac slot mode nonce tag key d w hhears hkey hverified hcopy
    change execIopOpen p mac slot mode nonce tag ⟨d, w⟩ = _
    refine State.run_of ((Device.when_pos hhears).trans ?_)
    simp only [hkey, hverified, if_true]
    exact if_neg (by simpa [Device.heard] using hcopy)
  case openBad =>
    intro p mac slot mode nonce tag key d w hhears hkey hverified
    change execIopOpen p mac slot mode nonce tag ⟨d, w⟩ = _
    refine State.run_of ((Device.when_pos hhears).trans ?_)
    simp [hkey, hverified]
  case openNoKey =>
    intro p mac slot mode nonce tag d w hhears hkey
    change execIopOpen p mac slot mode nonce tag ⟨d, w⟩ = _
    refine State.run_of ((Device.when_pos hhears).trans ?_)
    simp only [hkey]
  case openAck =>
    intro h p mac id result mode nonceC nonceH d w hbound hstate hopener hnonce hresult
    change execIopOpenAck h p mac id result mode nonceC nonceH ⟨d, w⟩ = _
    refine State.run_of ((Device.sessionFrame_bound hbound _).trans ?_)
    exact (Device.when_pos (by simp [hstate, hopener, hnonce])).trans (if_pos hresult)
  case confirm =>
    intro h p mac d w hopener hbound hfresh hstate
    change execIopConfirm h p mac ⟨d, w⟩ = _
    refine State.run_of ((Device.when_pos (by simp [hopener])).trans ?_)
    rw [Device.sessionFrame_bound hbound, Device.replay_fresh hfresh, Device.when_pos (by simp [hstate])]
  case confirmAgain =>
    intro h p mac d w hopener hbound hseen
    change execIopConfirm h p mac ⟨d, w⟩ = _
    refine State.run_of ((Device.when_pos (by simp [hopener])).trans ?_)
    rw [Device.sessionFrame_bound hbound, Device.replay_duplicate hseen]
  case close =>
    exact fun h p mac seq reason d w hopen hbound hfresh => show execIopClose h p mac seq reason ⟨d, w⟩ = _ from
      State.run_of (Device.openFrame_fresh hopen hbound hfresh _)
  case confirmTimeout =>
    exact fun h d w hstate => show execSessionConfirmTimeout h ⟨d, w⟩ = _ from State.run_when (by simp [hstate])
  case idleClose =>
    exact fun h d w hopen hwaits => show execSessionIdleClose h ⟨d, w⟩ = _ from
      State.run_of (Device.when_pos (by simp only [hopen, hwaits]; rfl))
  case peerOpen =>
    intro i ports key c e d w hports hsome hset hlower hnone hkey hfreed hentry
    change execPeerSessionOpen i ⟨d, w⟩ = _
    refine State.run_of ?_
    simp only [hports]
    refine (Device.when_pos (by simp [hset, hlower, hnone, hsome])).trans ?_
    simp only [hkey, hfreed, hentry]

/-- Settles O50: a frame of an open session by the replay window, an operation that may start by its kind, a wait by what its object
reads. -/
theorem requestCommandsHaveTheirEffect : Obligations.RequestCommandsHaveTheirEffect := by
  unfold Obligations.RequestCommandsHaveTheirEffect
  refine ⟨?request, ?again, ?read, ?write, ?nop, ?wait, ?waitRefused, ?waitComplete, ?waitTimeout, ?notifyAck, ?notifyRetry⟩
  case request =>
    intro h p mac seq fence retry soon body d w hopen hbound hfresh
    change execIopRequest h p mac seq fence retry soon body ⟨d, w⟩ = _
    refine State.run_of ((Device.when_pos (by simp [hopen])).trans ?_)
    rw [Device.sessionFrame_bound hbound, Device.replay_fresh hfresh]
  case again =>
    intro h p mac seq fence retry soon body d w hopen hbound hseen hretry
    change execIopRequest h p mac seq fence retry soon body ⟨d, w⟩ = _
    refine State.run_of ((Device.when_pos (by simp [hopen])).trans ?_)
    rw [Device.sessionFrame_bound hbound, Device.replay_duplicate hseen]
    exact if_pos hretry
  case read =>
    exact fun h seq i ix sb d w hstart => show execOpRead h seq i ⟨d, w⟩ = _ from
      State.run_of (Device.startOp_of_mayStart hstart _)
  case write =>
    exact fun h seq i stored ix sb v d w hstart => show execOpWrite h seq i stored ⟨d, w⟩ = _ from
      State.run_of (Device.startOp_of_mayStart hstart _)
  case nop =>
    exact fun h seq i d w hstart => show execOpNop h seq i ⟨d, w⟩ = _ from State.run_of (Device.startOp_of_mayStart hstart _)
  case wait =>
    intro h seq i ix sb c m t d w hstart hgood
    change execOpWait h seq i ⟨d, w⟩ = _
    refine State.run_of ((Device.startOp_of_mayStart hstart _).trans ?_)
    simp only [hgood]
  case waitRefused =>
    intro h seq i ix sb c m t d w hstart hbad
    change execOpWait h seq i ⟨d, w⟩ = _
    refine State.run_of ((Device.startOp_of_mayStart hstart _).trans ?_)
    obtain ⟨n, hcode⟩ := Nat.exists_eq_succ_of_ne_zero hbad
    simp only [hcode]
  case waitComplete =>
    exact fun h seq i r ix sb c m t d w hopen hop hread hmet => show execWaitComplete h seq i ⟨d, w⟩ = _ from
      State.run_of ((Device.pendingWait_of_started hopen hop _).trans (if_pos ⟨hread, hmet⟩))
  case waitTimeout =>
    intro h seq i r ix sb c m t d w hopen hop hretrying
    change execWaitTimeout h seq i ⟨d, w⟩ = _
    refine State.run_of ((Device.pendingWait_of_started hopen hop _).trans ?_)
    cases hblock : ownerBlock ix.toNat with
    | none => rfl
    | some b =>
      simp only [hblock] at hretrying
      simp [hretrying]
  case notifyAck =>
    exact fun h p mac seq acked d w hopen hbound hfresh => show execIopNotifyAck h p mac seq acked ⟨d, w⟩ = _ from
      State.run_of (Device.openFrame_fresh hopen hbound hfresh _)
  case notifyRetry => exact fun h seq d w hopen => show execNotifyRetry h seq ⟨d, w⟩ = _ from State.run_when (by simp [hopen])
end

section
/-! SUPPORT. Single bits of unsigned words, and the replay window as a set of numbers (00 R3, 15 R389). -/

namespace Sys2Proof.Machine

theorem bit_natCast (m i : Nat) : bit m i = m.testBit i := by
  rw [bit, bits, Int.toNat_natCast, Nat.testBit_eq_decide_div_mod_eq]
  rfl

/-- Adding the power of a bit that is 0 sets this bit and no other. -/
theorem testBit_add_two_pow {m i : Nat} (h : m.testBit i = false) (j : Nat) :
    (m + 2 ^ i).testBit j = (m.testBit j || decide (i = j)) := by
  rcases Nat.lt_trichotomy j i with hj | rfl | hj
  · rw [Nat.add_comm, Nat.testBit_two_pow_add_gt hj]
    simp [Nat.ne_of_gt hj]
  · rw [Nat.add_comm, Nat.testBit_two_pow_add_eq, h]
    simp
  · obtain ⟨n, rfl⟩ : ∃ n, j = n + (i + 1) := ⟨j - (i + 1), by omega⟩
    have heven : m / 2 ^ i % 2 = 0 := by simpa [Nat.testBit_eq_decide_div_mod_eq] using h
    have hdiv : (m + 2 ^ i) / 2 ^ (i + 1) = m / 2 ^ (i + 1) := by
      rw [Nat.pow_succ, ← Nat.div_div_eq_div_mul, ← Nat.div_div_eq_div_mul, Nat.add_div_right _ (Nat.two_pow_pos i)]
      omega
    rw [Nat.testBit_add, hdiv, ← Nat.testBit_add]
    simp [Nat.ne_of_lt hj]

/-- `setBit` on an unsigned word gives an unsigned word, with this bit set as well. -/
theorem setBit_natCast (m i : Nat) : ∃ u : Nat, setBit m i = u ∧ ∀ j, u.testBit j = (m.testBit j || decide (i = j)) := by
  rw [setBit, bit_natCast]
  cases hbit : m.testBit i with
  | true =>
    refine ⟨m, if_pos rfl, fun j => ?_⟩
    by_cases hj : i = j
    · simp [← hj, hbit]
    · simp [hj]
  | false => exact ⟨m + 2 ^ i, by simp, testBit_add_two_pow hbit⟩

/-- A window moved up by `n`: its bits move, and the lowest is set. -/
theorem testBit_window {m n j : Nat} (hn : 0 < n) :
    ((m * 2 ^ min 64 n + 1) % 2 ^ 64).testBit j = (decide (j < 64) && (decide (j = 0) || (decide (n ≤ j) && m.testBit (j - n)))) := by
  have heven : (m * 2 ^ min 64 n).testBit 0 = false := by
    rw [Nat.testBit_mul_two_pow]
    simp
    omega
  have hadd := testBit_add_two_pow heven j
  rw [Nat.pow_zero] at hadd
  rw [Nat.testBit_mod_two_pow, hadd, Nat.testBit_mul_two_pow, Bool.or_comm]
  by_cases hj : j < 64
  · by_cases hle : n ≤ j
    · simp [hj, hle, Nat.min_eq_right (by omega : n ≤ 64), eq_comm]
    · have : ¬ min 64 n ≤ j := by omega
      simp [hj, hle, this, eq_comm]
  · simp [hj]

theorem Device.replayMask_natCast {d : Device} {s : Nat} (h : 0 ≤ d.get (O.replayMask s)) :
    d.get (O.replayMask s) = (d.getN (O.replayMask s) : Int) := (Int.toNat_of_nonneg h).symm

/-- A number is not fresh if it is not above the highest one, and is below the window or has its bit there (15 R389). -/
theorem Device.seenSeq_ne_fresh_iff {d : Device} {s n : Nat} (h : 0 ≤ d.get (O.replayMask s)) :
    d.seenSeq s n ≠ .fresh ↔ n ≤ d.getN (O.rxSeqHigh s) ∧
      (n + 64 ≤ d.getN (O.rxSeqHigh s) ∨ (d.getN (O.replayMask s)).testBit (d.getN (O.rxSeqHigh s) - n) = true) := by
  rw [Device.seenSeq, Device.replayMask_natCast h, bit_natCast]
  split_ifs <;> simp_all

/-- What a number that enters the window leaves: the highest number, and the bits counted from it. -/
theorem Device.takeSeq_window {d : Device} {s seq : Nat} (h : 0 ≤ d.get (O.replayMask s)) :
    ∃ u : Nat, (d.takeSeq s seq).get (O.replayMask s) = u ∧
      (d.takeSeq s seq).getN (O.rxSeqHigh s) = max (d.getN (O.rxSeqHigh s)) seq ∧
      if d.getN (O.rxSeqHigh s) < seq then
        u = (d.getN (O.replayMask s) * 2 ^ min 64 (seq - d.getN (O.rxSeqHigh s)) + 1) % 2 ^ 64
      else ∀ j, u.testBit j = ((d.getN (O.replayMask s)).testBit j || decide (d.getN (O.rxSeqHigh s) - seq = j)) := by
  have hkeys : (O.rxSeqHigh s).key ≠ (O.replayMask s).key := by simp
  rw [Device.takeSeq]
  split_ifs with hnew
  · refine ⟨_, Device.get_set_same _ _ _, ?_, rfl⟩
    rw [Device.getN, Device.get_set_other hkeys, Device.get_set_same, Int.toNat_natCast]
    omega
  · obtain ⟨u, hu, hbits⟩ := setBit_natCast (d.getN (O.replayMask s)) (d.getN (O.rxSeqHigh s) - seq)
    refine ⟨u, ?_, ?_, hbits⟩
    · rw [Device.get_set_same, Device.replayMask_natCast h, hu]
    · rw [Device.getN, Device.get_set_other hkeys, ← Device.getN]
      omega

/-- The bits of a window that a number has entered: those of the numbers that were in it, and its own. -/
theorem Device.takeSeq_testBit {d : Device} {s seq u n : Nat}
    (hu : if d.getN (O.rxSeqHigh s) < seq then
        u = (d.getN (O.replayMask s) * 2 ^ min 64 (seq - d.getN (O.rxSeqHigh s)) + 1) % 2 ^ 64
      else ∀ j, u.testBit j = ((d.getN (O.replayMask s)).testBit j || decide (d.getN (O.rxSeqHigh s) - seq = j)))
    (hn : n = seq ∨ (n ≤ d.getN (O.rxSeqHigh s) ∧ (d.getN (O.replayMask s)).testBit (d.getN (O.rxSeqHigh s) - n) = true)) :
    max (d.getN (O.rxSeqHigh s)) seq < n + 64 → u.testBit (max (d.getN (O.rxSeqHigh s)) seq - n) = true := by
  intro hinside
  generalize d.getN (O.rxSeqHigh s) = high at *
  split_ifs at hu with hnew
  · rw [hu, Nat.max_eq_right hnew.le, testBit_window (by omega)]
    rcases hn with rfl | ⟨hle, hbit⟩
    · simp
    · have hmoved : seq - n - (seq - high) = high - n := by omega
      simp only [hmoved, hbit, Bool.and_true, Bool.and_eq_true, Bool.or_eq_true, decide_eq_true_eq]
      omega
  · rw [hu, Nat.max_eq_left (by omega)]
    rcases hn with rfl | ⟨-, hbit⟩
    · simp
    · simp [hbit]

end Sys2Proof.Machine
end

section
open Sys2Proof Sys2Proof.Machine

/-- Settles O10: a number that enters sets its own bit of the window, and the window that moves up keeps the bits that stay in
it. -/
theorem replayWindowNeverTakesANumberTwice : Obligations.ReplayWindowNeverTakesANumberTwice := by
  unfold Obligations.ReplayWindowNeverTakesANumberTwice
  intro d s seq hmask _
  obtain ⟨u, hu, hhigh, hbits⟩ := Device.takeSeq_window (seq := seq) hmask
  have hmask' : 0 ≤ (d.takeSeq s seq).get (O.replayMask s) := by omega
  have hword : (d.takeSeq s seq).getN (O.replayMask s) = u := by rw [Device.getN, hu, Int.toNat_natCast]
  have hholds : ∀ n, n = seq ∨ d.seenSeq s n ≠ .fresh → (d.takeSeq s seq).seenSeq s n ≠ .fresh := by
    intro n hn
    rw [Device.seenSeq_ne_fresh_iff hmask', hhigh, hword]
    rw [Device.seenSeq_ne_fresh_iff hmask] at hn
    refine ⟨by omega, or_iff_not_imp_left.mpr fun hinside => ?_⟩
    refine Device.takeSeq_testBit hbits ?_ (by omega)
    rcases hn with hn | ⟨hle, hbelow | hbit⟩
    · exact .inl hn
    · omega
    · exact .inr ⟨hle, hbit⟩
  exact ⟨hholds seq (.inl rfl), fun n hn => hholds n (.inr hn), hhigh, hmask'⟩
end

section
/-! SUPPORT. What telling the sessions, the recorder and the driven lines of something changes at most (14 R363, R368, 15 R399, 17
R441, 19 R477). -/

namespace Sys2Proof.Machine

/-- From `a` to `b` only the sessions, the recorder, the driven lines and their objects have moved. -/
structure Device.Tells (a b : Device) : Prop where
  reports : a.onlyReports b
  faults : b.faults = a.faults
  pins : b.pins.butLines = a.pins.butLines
  classA : b.get O.controllerClassA = a.get O.controllerClassA

theorem Device.Tells.refl (d : Device) : Device.Tells d d := ⟨rfl, rfl, rfl, rfl⟩

theorem Device.Tells.trans {a b c : Device} (h : Device.Tells a b) (g : Device.Tells b c) : Device.Tells a c :=
  ⟨Device.onlyReports_trans h.reports g.reports, g.faults.trans h.faults, g.pins.trans h.pins, g.classA.trans h.classA⟩

theorem Device.Tells.when {d : Device} {f : Device → Device} (h : ∀ e, Device.Tells e (f e)) (b : Bool) :
    Device.Tells d (d.when b f) :=
  Device.when_keeps (P := Device.Tells d) (fun e he => he.trans (h e)) (.refl d) b

theorem Device.Tells.forAll {d : Device} {l : List Nat} {f : Nat → Device → Device} (h : ∀ n e, Device.Tells e (f n e)) :
    Device.Tells d (d.forAll l f) :=
  Device.forAll_keeps (P := Device.Tells d) (fun n _ e he => he.trans (h n e)) (.refl d)

theorem Device.tells_set {o : Obj} (h : O.controllerClassA.key ≠ o.key) (d : Device) (v : Int) : Device.Tells d (d.set o v) :=
  ⟨rfl, rfl, rfl, Device.get_set_other h d v⟩

theorem Device.tells_bump {o : Obj} (h : O.controllerClassA.key ≠ o.key) (d : Device) : Device.Tells d (d.bump o) := by
  obtain ⟨v, n, hbump⟩ := d.bump_spec o
  rw [hbump]
  exact (d.tells_set h v).trans ⟨rfl, rfl, rfl, rfl⟩

theorem Device.tells_modSession (d : Device) (s : Nat) (f : Session → Session) : Device.Tells d (d.modSession s f) :=
  ⟨rfl, rfl, rfl, rfl⟩

theorem Device.tells_sendNew (d : Device) (s kind : Nat) (body : List Byte) : Device.Tells d (d.sendNew s kind body) := by
  refine (d.tells_set (o := O.txSeq s) (by simp only [Obj.key]; omega) _).trans (.forAll fun p e => ?_)
  split
  · refine .when (fun e => ?_) _
    exact Device.Tells.trans (b := e.emit _) ⟨rfl, rfl, rfl, rfl⟩ (Device.tells_bump (o := O.txFrames p) (by simp only [Obj.key]; omega) _)
  · exact .refl e

theorem Device.tells_notifyOne (d : Device) (s : Nat) (body : List Byte) : Device.Tells d (d.notifyOne s body) := by
  unfold Device.notifyOne
  dsimp only
  split
  · exact (d.tells_sendNew s 0x20 body).trans (Device.tells_modSession _ s _)
  · split
    · exact d.tells_modSession s _
    · exact (d.tells_modSession s _).trans (Device.tells_bump (o := O.notifyDropped s) (by simp only [Obj.key]; omega) _)

theorem Device.tells_notify (d : Device) (kind : Nat) (body : List Byte) : Device.Tells d (d.notify kind body) := by
  unfold Device.notify
  split
  · refine .forAll fun s e => ?_
    split
    · exact e.tells_notifyOne s body
    · exact .refl e
  · exact .refl d

theorem Device.tells_offer (d : Device) (ev : Event) : Device.Tells d (d.offer ev) := by
  unfold Device.offer
  split
  · split <;> exact ⟨rfl, rfl, rfl, rfl⟩
  · exact ⟨rfl, rfl, rfl, rfl⟩

theorem Device.tells_alert (d : Device) (b : Nat) : Device.Tells d (d.alert b) := ⟨rfl, rfl, rfl, rfl⟩

theorem Device.tells_interrupt (d : Device) (block sub cls code stamp : Nat) (params : List Byte) :
    Device.Tells d (d.interrupt block sub cls code stamp params) :=
  Device.Tells.trans (b := (d.emit (.irq block sub)).alert cls) ⟨rfl, rfl, rfl, rfl⟩ (Device.tells_notify _ _ _)

theorem Device.tells_modPins {f : Pins → Pins} (h : ∀ p, (f p).butLines = p.butLines) (d : Device) :
    Device.Tells d (d.modPins f) := ⟨rfl, rfl, h _, rfl⟩

theorem Device.tells_updateFaultN (d : Device) : Device.Tells d d.updateFaultN :=
  (Device.tells_modPins (f := fun p => { p with faultN := !d.faultNow }) (fun _ => rfl) d).trans
    (Device.tells_set (o := O.faultNLevel) (by decide) _ _)

theorem Device.tells_pulseFaultN (d : Device) : Device.Tells d d.pulseFaultN := by
  have hpulse : Device.Tells d { d with faultPulse := true } := ⟨rfl, rfl, rfl, rfl⟩
  exact (hpulse.trans (Device.tells_modPins (f := fun p => { p with faultN := false }) (fun _ => rfl) _)).trans
    (Device.tells_set (o := O.faultNLevel) (by decide) _ _)

/-- An event enters its block, and is told. -/
theorem Device.tells_takeEvent (d : Device) (block source code cls : Nat) (params : List Byte) (two : Bool) :
    Device.Tells (d.modFault block fun _ => ((d.fault block).take cls source code d.now params).1)
      (d.takeEvent block source code cls params two).1 := by
  have hoffer := Device.tells_offer (d.modFault block fun _ => ((d.fault block).take cls source code d.now params).1)
    ⟨code, source, block, cls, d.now, params, two⟩
  unfold Device.takeEvent
  dsimp only
  refine Device.Tells.trans ?_ (Device.tells_updateFaultN _)
  refine hoffer.trans ?_
  generalize (d.modFault block _).offer _ = e
  have hheard := fun t => e.tells_interrupt block (faultSub cls) cls code t params
  split <;> split
  · exact (hheard _).trans (Device.tells_pulseFaultN _)
  · exact hheard _
  · exact e.tells_pulseFaultN
  · exact .refl e

/-- The status of the blocks after an event: that of its own block has taken it. -/
theorem Device.faults_takeEvent (d : Device) (block source code cls : Nat) (params : List Byte) (two : Bool) :
    (d.takeEvent block source code cls params two).1.faults =
      modAt d.faults block fun _ => ((d.fault block).take cls source code d.now params).1 :=
  (d.tells_takeEvent block source code cls params two).faults

theorem Device.fault_modAt_same {d e : Device} {b : Nat} {f : FaultBlock → FaultBlock} (hb : b < d.faults.length)
    (h : e.faults = modAt d.faults b f) : e.fault b = f (d.fault b) := by
  rw [Device.fault, h, modAt_getD_same _ _ _ _ hb, Device.fault]

theorem Device.fault_takeEvent {d : Device} {block : Nat} (hb : block < d.faults.length) (source code cls : Nat)
    (params : List Byte) (two : Bool) :
    (d.takeEvent block source code cls params two).1.fault block =
      ((d.fault block).take cls source code d.now params).1 :=
  Device.fault_modAt_same hb (d.faults_takeEvent block source code cls params two)

end Sys2Proof.Machine
end

section
/-! SUPPORT. What an event does to the status of its block, by its class and by what the block holds (14 R356–R360). -/

namespace Sys2Proof.Machine

/-- The (source, class) pairs that a block has seen at a stamp (14 R357). -/
def FaultBlock.seenAt (f : FaultBlock) (stamp : Nat) : List (Nat × Nat) := if f.seenStamp = stamp then f.seen else []

/-- The status of a block that has counted an event and has entered it nowhere. -/
def FaultBlock.noted (f : FaultBlock) (cls source stamp : Nat) : FaultBlock :=
  { f with
    seenStamp := stamp
    seen := (source, cls) :: f.seenAt stamp
    countD := if cls = 0 then f.countD + 1 else f.countD
    countC := if cls = 1 then f.countC + 1 else f.countC
    countB := if cls = 2 then f.countB + 1 else f.countB }

theorem FaultBlock.take_D (f : FaultBlock) (source code stamp : Nat) (params : List Byte) :
    f.take 0 source code stamp params = (f.noted 0 source stamp, false) := by
  simp [FaultBlock.take, FaultBlock.noted, FaultBlock.seenAt]

/-- Class A held: nothing is entered, and nothing escalates (14 R358). -/
theorem FaultBlock.take_held {f : FaultBlock} (h : f.aHeld = true) {cls : Nat} (hcls : cls = 1 ∨ cls = 2)
    (source code stamp : Nat) (params : List Byte) :
    f.take cls source code stamp params = (f.noted cls source stamp, false) := by
  rcases hcls with rfl | rfl <;> simp [FaultBlock.take, FaultBlock.noted, FaultBlock.seenAt, h]

section Taken

variable {f : FaultBlock} {source stamp : Nat}

/-- The first class-C event opens the entry (14 R360). -/
theorem FaultBlock.take_C_first (hA : f.aHeld = false) (hseen : (f.seenAt stamp).contains (source, 1) = false)
    (hopen : f.cOpen = false) (code : Nat) (params : List Byte) :
    f.take 1 source code stamp params =
      ({ f.noted 1 source stamp with
          cOpen := true, cFirstStamp := stamp, cFirstCode := code, cMerge := 1, cLastStamp := stamp, cParams := params },
        false) := by
  rw [FaultBlock.seenAt] at hseen
  simp only [FaultBlock.take, FaultBlock.noted, FaultBlock.seenAt, hA, hseen, hopen]
  rfl

/-- A later one merges into it (14 R360). -/
theorem FaultBlock.take_C_later (hA : f.aHeld = false) (hseen : (f.seenAt stamp).contains (source, 1) = false)
    (hopen : f.cOpen = true) (code : Nat) (params : List Byte) :
    f.take 1 source code stamp params =
      ({ f.noted 1 source stamp with cMerge := min 65535 (f.cMerge + 1), cLastStamp := stamp }, false) := by
  rw [FaultBlock.seenAt] at hseen
  simp only [FaultBlock.take, FaultBlock.noted, FaultBlock.seenAt, hA, hseen, hopen]
  rfl

/-- A class-B event of a listed source escalates if its listing is earlier (14 R359). -/
theorem FaultBlock.take_B_listed (hA : f.aHeld = false) (hseen : (f.seenAt stamp).contains (source, 2) = false) {st c : Nat}
    (hlisted : (f.bSources.find? fun x => x.1 == source) = some (source, st, c)) (code : Nat) (params : List Byte) :
    f.take 2 source code stamp params = (f.noted 2 source stamp, decide (st < stamp)) := by
  rw [FaultBlock.seenAt] at hseen
  simp only [FaultBlock.take, FaultBlock.noted, FaultBlock.seenAt, hA, hseen, hlisted]
  rfl

/-- One of a source that is not listed opens the entry, if none is open (14 R359). -/
theorem FaultBlock.take_B_first (hA : f.aHeld = false) (hseen : (f.seenAt stamp).contains (source, 2) = false)
    (hempty : f.bSources = []) (code : Nat) (params : List Byte) :
    f.take 2 source code stamp params =
      ({ f.noted 2 source stamp with
          bSources := [(source, stamp, code)], bFirstStamp := stamp, bFirstCode := code, bParams := params }, false) := by
  rw [FaultBlock.seenAt] at hseen
  simp only [FaultBlock.take, FaultBlock.noted, FaultBlock.seenAt, hA, hseen, hempty]
  rfl

/-- And is added to an open one (14 R359). -/
theorem FaultBlock.take_B_added (hA : f.aHeld = false) (hseen : (f.seenAt stamp).contains (source, 2) = false)
    (hnew : (f.bSources.find? fun x => x.1 == source) = none) (hsome : f.bSources ≠ []) (code : Nat) (params : List Byte) :
    f.take 2 source code stamp params =
      ({ f.noted 2 source stamp with bSources := f.bSources ++ [(source, stamp, code)] }, false) := by
  rw [FaultBlock.seenAt] at hseen
  have hlisted : f.bSources.isEmpty = false := by simpa using hsome
  simp only [FaultBlock.take, FaultBlock.noted, FaultBlock.seenAt, hA, hseen, hnew, hlisted]
  rfl

end Taken

/-- An acknowledged C entry stays closed under what follows the acknowledgement: of events, only class-D notices. -/
def Device.ackedC (b : Nat) (d : Device) : Prop := (d.fault b).cOpen = false

theorem Device.ackedC_of_faults {b : Nat} {d e : Device} (h : e.faults = d.faults) (hd : d.ackedC b) : e.ackedC b := by
  rw [Device.ackedC, Device.fault, h]
  exact hd

theorem Device.ackedC_raiseD {b : Nat} {d : Device} (hd : d.ackedC b) (block source code : Nat) (params : List Byte) :
    (d.raiseD block source code params).ackedC b := by
  have hfaults := d.faults_takeEvent block source code 0 params false
  by_cases hb : b < d.faults.length
  · by_cases hblock : block = b
    · subst hblock
      rw [Device.ackedC, Device.raiseD, Device.fault_takeEvent hb, FaultBlock.take_D]
      exact hd
    · rw [Device.ackedC, Device.raiseD, Device.fault, hfaults, modAt_getD_other _ _ _ _ _ hblock]
      exact hd
  · have hshort : (modAt d.faults block fun _ => ((d.fault block).take 0 source code d.now params).1).length ≤ b := by
      rw [modAt_length]; omega
    rw [Device.ackedC, Device.raiseD, Device.fault, hfaults, List.getD_eq_default _ _ hshort]
    rfl

theorem Device.faults_bump (d : Device) (o : Obj) : (d.bump o).faults = d.faults := by
  obtain ⟨v, n, hbump⟩ := d.bump_spec o
  rw [hbump]
  rfl

theorem Device.faults_pumpNotices (d : Device) (k : Nat) : (d.pumpNotices k).faults = d.faults := by
  unfold Device.pumpNotices
  dsimp only
  split
  · split <;> rfl
  · rfl

theorem Device.faults_capNotice (d : Device) (k : Nat) : (d.capNotice k).faults = d.faults := by
  unfold Device.capNotice
  dsimp only
  split
  · rw [Device.faults_pumpNotices]
    refine Device.when_keeps (P := fun e => e.faults = d.faults) (fun e he => ?_) ?_ _
    · exact (Device.faults_bump _ _).trans he
    · exact Device.when_keeps (P := fun e => e.faults = d.faults) (fun e he => (Device.faults_bump _ _).trans he) rfl _
  · rfl

/-- What an acknowledgement does to its feed raises class-D notices at most (11 R310). -/
theorem Device.ackedC_enforceAck {b : Nat} {d : Device} (hd : d.ackedC b) (k : Nat) : (d.enforceAck k).ackedC b := by
  refine Device.when_keeps (P := Device.ackedC b) (fun e he => ?_) hd _
  refine Device.ackedC_of_faults (Device.faults_capNotice _ k) (Device.ackedC_raiseD ?_ _ _ _ _)
  exact Device.ackedC_of_faults (d := e) rfl he

/-- An acknowledgement closes the C entry (14 R361). -/
theorem Device.ackedC_ackBlock {d : Device} {b : Nat} (hb : b < d.faults.length) : (d.ackBlock b).ackedC b := by
  unfold Device.ackBlock
  refine Device.ackedC_of_faults (Device.tells_updateFaultN _).faults ?_
  refine Device.ackedC_of_faults (Device.tells_notify _ _ _).faults ?_
  refine Device.ackedC_of_faults (d := Device.when _ _ _) rfl ?_
  refine Device.when_keeps (P := Device.ackedC b) (fun e he => ?_) ?closed _
  case closed =>
    rw [Device.ackedC, Device.fault_modAt_same hb rfl]
  · refine Device.ackedC_enforceAck ?_ b
    refine Device.when_keeps (P := Device.ackedC b) (fun e he => ?_) ?_ _
    · exact Device.ackedC_of_faults (d := e) rfl he
    · exact Device.ackedC_of_faults (d := e) rfl he

end Sys2Proof.Machine
end

section
open Sys2Proof Sys2Proof.Machine

/-- Settles O6: the first class-C event opens the entry, the later ones merge into it, and an acknowledgement closes it. Which events
of one stamp count as one is assumption log entry 86. -/
theorem classCEntryOpensAndMerges : Obligations.ClassCEntryOpensAndMerges := by
  unfold Obligations.ClassCEntryOpensAndMerges
  refine ⟨fun d b hb => Device.ackedC_ackBlock hb, fun f source code stamp params hA hseen => ⟨fun hopen => ?_, fun hopen => ?_⟩,
    fun d b source code params hb => Device.fault_takeEvent hb source code 1 params false⟩
  · rw [FaultBlock.take_C_first hA hseen hopen]
    exact ⟨rfl, rfl, rfl, rfl, rfl⟩
  · rw [FaultBlock.take_C_later hA hseen hopen]
    exact ⟨hopen, rfl, rfl, rfl, rfl, rfl⟩

/-- Settles O7: by whether the block holds class A, whether the source is listed, and whether an entry is open. -/
theorem classBEventEscalatesWhenListedBefore : Obligations.ClassBEventEscalatesWhenListedBefore := by
  unfold Obligations.ClassBEventEscalatesWhenListedBefore
  intro f source code stamp params hseen
  refine ⟨fun st c hA hlisted => ?_, fun hA hnew => ?_, fun hA => ?_⟩
  · rw [FaultBlock.take_B_listed hA hseen hlisted]
    exact ⟨rfl, rfl⟩
  · by_cases hempty : f.bSources = []
    · rw [FaultBlock.take_B_first hA hseen hempty, hempty]
      exact ⟨rfl, rfl, fun _ => ⟨rfl, rfl, rfl⟩⟩
    · rw [FaultBlock.take_B_added hA hseen hnew hempty]
      exact ⟨rfl, rfl, fun hnone => absurd hnone hempty⟩
  · rw [FaultBlock.take_held hA (.inr rfl)]
    exact ⟨rfl, rfl⟩

/-- Settles O8: the notice is guarded by the flag that it sets, and a Claim clears the flag before it takes an item. -/
theorem laneIdleIsNoticedOnceUntilTheNextClaim : Obligations.LaneIdleIsNoticedOnceUntilTheNextClaim := by
  unfold Obligations.LaneIdleIsNoticedOnceUntilTheNextClaim
  refine ⟨fun q d w hcore htime hitems hidle => ?_, fun q d w hquiet => ?_, fun d q path => ?_⟩
  · change execLaneIdle q ⟨d, w⟩ = _
    exact State.run_of (Device.when_pos (by simp [hcore, htime, hitems, hidle]))
  · change execLaneIdle q ⟨d, w⟩ = _
    exact State.run_of (Device.when_neg (by rcases hquiet with h | h <;> simp [h]))
  · unfold Device.claimNow
    dsimp only
    have hclear := Device.flag_setFlag_same (d.dropDamaged q) (O.laneIdle q) false
    split
    · exact hclear
    · exact hclear
end

section
/-! SUPPORT. GF(256): a product with αⁿ is n products with α, and α has order 255 (18 R450, R451). -/

namespace Sys2Proof.Machine

theorem gfTimesX_xor (a b : Byte) : gfTimesX (a ^^^ b) = gfTimesX a ^^^ gfTimesX b := by
  have hshift := BitVec.shiftLeft_xor_distrib a b 1
  rw [gfTimesX, gfTimesX, gfTimesX, BitVec.getLsbD_xor, hshift]
  cases ha : a.getLsbD 7 <;> cases hb : b.getLsbD 7
  case true.true =>
    calc a <<< 1 ^^^ b <<< 1
      _ = a <<< 1 ^^^ b <<< 1 ^^^ (0x1D#8 ^^^ 0x1D#8) := by simp
      _ = a <<< 1 ^^^ 0x1D#8 ^^^ (b <<< 1 ^^^ 0x1D#8) := by ac_rfl
  all_goals simp
  all_goals ac_rfl

theorem gfTimesX_iterate_xor (n : Nat) (a b : Byte) : gfTimesX^[n] (a ^^^ b) = gfTimesX^[n] a ^^^ gfTimesX^[n] b := by
  induction n generalizing a b with
  | zero => rfl
  | succ n ih => rw [Function.iterate_succ_apply, gfTimesX_xor, ih]; rfl

/-- Term i of the product of a and b. -/
def gfTerm (a b : Byte) (i : Nat) : Byte := if b.getLsbD i then gfTimesX^[i] a else 0#8

/-- A product is the sum of its eight terms. -/
theorem gfMul_eq_terms (a b : Byte) :
    gfMul a b = gfTerm a b 0 ^^^ gfTerm a b 1 ^^^ gfTerm a b 2 ^^^ gfTerm a b 3 ^^^ gfTerm a b 4 ^^^ gfTerm a b 5 ^^^
      gfTerm a b 6 ^^^ gfTerm a b 7 := by
  have hterm : ∀ (r : Byte) (i : Nat) (x : Byte), (if b.getLsbD i = true then r ^^^ x else r) =
      r ^^^ if b.getLsbD i = true then x else 0#8 := by
    intro r i x
    split <;> simp
  simp [gfMul, List.range_succ, hterm, gfTerm]

theorem gfTimesX_gfTerm (a b : Byte) (i : Nat) :
    gfTimesX (gfTerm a b i) = if b.getLsbD i then gfTimesX^[i + 1] a else 0#8 := by
  unfold gfTerm
  split
  · exact (Function.iterate_succ_apply' _ _ _).symm
  · rfl

theorem gfTerm_xor (a b c : Byte) (i : Nat) : gfTerm a (b ^^^ c) i = gfTerm a b i ^^^ gfTerm a c i := by
  unfold gfTerm
  rw [BitVec.getLsbD_xor]
  cases b.getLsbD i <;> cases c.getLsbD i <;> simp

/-- The product is linear in its second factor. -/
theorem gfMul_xor (a b c : Byte) : gfMul a (b ^^^ c) = gfMul a b ^^^ gfMul a c := by
  simp only [gfMul_eq_terms, gfTerm_xor]
  ac_rfl

theorem gfTerm_shiftLeft_zero (a b : Byte) : gfTerm a (b <<< 1) 0 = 0#8 := by simp [gfTerm]

theorem gfTerm_shiftLeft_succ (a b : Byte) {i : Nat} (hi : i < 7) :
    gfTerm a (b <<< 1) (i + 1) = gfTimesX (gfTerm a b i) := by
  have hlt : i + 1 < 8 := by omega
  rw [gfTimesX_gfTerm, gfTerm, BitVec.getLsbD_shiftLeft]
  simp [hlt]

/-- x⁸ is x⁴ + x³ + x² + 1 (18 R450). -/
theorem gfMul_reduction (a : Byte) : gfMul a 0x1D#8 = gfTimesX^[8] a := by
  revert a
  decide +kernel

theorem gfMul_gfTimesX (a b : Byte) : gfMul a (gfTimesX b) = gfTimesX (gfMul a b) := by
  have hlow : gfMul a (b <<< 1) ^^^ gfTimesX (gfTerm a b 7) = gfTimesX (gfMul a b) := by
    simp only [gfMul_eq_terms, gfTimesX_xor, gfTerm_shiftLeft_zero, gfTerm_shiftLeft_succ a b (by decide : 0 < 7),
      gfTerm_shiftLeft_succ a b (by decide : 1 < 7), gfTerm_shiftLeft_succ a b (by decide : 2 < 7),
      gfTerm_shiftLeft_succ a b (by decide : 3 < 7), gfTerm_shiftLeft_succ a b (by decide : 4 < 7),
      gfTerm_shiftLeft_succ a b (by decide : 5 < 7), gfTerm_shiftLeft_succ a b (by decide : 6 < 7)]
    simp
  rw [← hlow, gfTimesX_gfTerm, gfTimesX]
  cases b.getLsbD 7
  · simp
  · simp only [if_true, gfMul_xor, gfMul_reduction]

theorem gfMul_one (a : Byte) : gfMul a 1#8 = a := by
  simp [gfMul_eq_terms, gfTerm]

/-- A product with αⁿ is n products with α. -/
theorem gfMul_gfPow (a : Byte) (n : Nat) : gfMul a (gfPow n) = gfTimesX^[n] a := by
  induction n with
  | zero => exact gfMul_one a
  | succ n ih => rw [gfPow, gfMul_gfTimesX, ih, Function.iterate_succ_apply']

theorem gfPow_order : gfPow 255 = 1#8 := by decide +kernel

theorem gfTimesX_period (a : Byte) : Function.IsPeriodicPt gfTimesX 255 a := by
  rw [Function.IsPeriodicPt, Function.IsFixedPt, ← gfMul_gfPow, gfPow_order, gfMul_one]

/-- No element but 0 comes back after 15 or 17 products with α. -/
theorem gfMul_gfPow_ne {a : Byte} (h : a ≠ 0#8) : gfMul a (gfPow 15) ≠ a ∧ gfMul a (gfPow 17) ≠ a := by
  revert a
  decide +kernel

/-- No element but 0 comes back in fewer than 36 products with α: a period would divide 15 or 17. -/
theorem gfTimesX_iterate_ne {a : Byte} (h : a ≠ 0#8) {n : Nat} (hpos : 0 < n) (hn : n < 36) : gfTimesX^[n] a ≠ a := by
  intro hback
  have hgcd : Function.IsPeriodicPt gfTimesX (n.gcd 255) a := Function.IsPeriodicPt.gcd hback (gfTimesX_period a)
  have hdvd : ∀ m < 36, 0 < m → m.gcd 255 ∣ 15 ∨ m.gcd 255 ∣ 17 := by decide
  obtain ⟨h15, h17⟩ := gfMul_gfPow_ne h
  rw [gfMul_gfPow] at h15 h17
  rcases hdvd n hn hpos with hd | hd
  · exact h15 (hgcd.trans_dvd hd)
  · exact h17 (hgcd.trans_dvd hd)

theorem gfTimesX_injective : Function.Injective gfTimesX :=
  Function.LeftInverse.injective (g := gfTimesX^[254]) fun a => gfTimesX_period a

/-- Different numbers of products with α below 36 lead to different elements. -/
theorem gfTimesX_iterate_inj {a : Byte} (h : a ≠ 0#8) {m n : Nat} (hm : m < 36) (hn : n < 36)
    (heq : gfTimesX^[m] a = gfTimesX^[n] a) : m = n := by
  by_contra hne
  wlog hlt : m < n generalizing m n
  · exact this hn hm heq.symm (Ne.symm hne) (by omega)
  · refine gfTimesX_iterate_ne h (n := n - m) (by omega) (by omega) (gfTimesX_injective.iterate m ?_)
    rw [← Function.iterate_add_apply, Nat.add_sub_cancel' hlt.le, heq]

end Sys2Proof.Machine
end

section
/-! SUPPORT. What an error in one symbol does to the syndromes of a codeword (18 R451). -/

namespace Sys2Proof.Machine

/-- The remainder of a codeword by x − αⁱ, from a value carried in. -/
def remainderFrom (i : Nat) (word : List Byte) (s : Byte) : Byte := word.foldl (fun s r => gfMul s (gfPow i) ^^^ r) s

theorem remainderFrom_cons (i : Nat) (r : Byte) (word : List Byte) (s : Byte) :
    remainderFrom i (r :: word) s = remainderFrom i word (gfTimesX^[i] s ^^^ r) := by
  rw [remainderFrom, List.foldl_cons, gfMul_gfPow]
  rfl

/-- What is added to the value carried in goes through all the products. -/
theorem remainderFrom_xor (i : Nat) (word : List Byte) (s t : Byte) :
    remainderFrom i word (s ^^^ t) = remainderFrom i word s ^^^ gfTimesX^[i * word.length] t := by
  induction word generalizing s t with
  | nil => rfl
  | cons r word ih =>
    have hstep : gfTimesX^[i] (s ^^^ t) ^^^ r = gfTimesX^[i] s ^^^ r ^^^ gfTimesX^[i] t := by
      rw [gfTimesX_iterate_xor]
      ac_rfl
    rw [remainderFrom_cons, remainderFrom_cons, hstep, ih, ← Function.iterate_add_apply, List.length_cons, Nat.mul_succ]

/-- An error in the symbol with `p` symbols after it. -/
theorem remainderFrom_modAt (i : Nat) (e : Byte) {word : List Byte} {j p : Nat} (h : j + p + 1 = word.length) (s : Byte) :
    remainderFrom i (modAt word j fun x => x ^^^ e) s = remainderFrom i word s ^^^ gfTimesX^[i * p] e := by
  induction word generalizing j s with
  | nil => simp at h
  | cons r word ih =>
    cases j with
    | zero =>
      have hp : p = word.length := by simpa using h
      subst hp
      rw [modAt, remainderFrom_cons, remainderFrom_cons, ← BitVec.xor_assoc, remainderFrom_xor]
    | succ j =>
      rw [modAt, remainderFrom_cons, remainderFrom_cons]
      exact ih (by simp at h; omega) _

/-- The syndromes of a codeword with one symbol error (18 R451). -/
theorem syndrome_modAt {word : List Byte} (hlength : word.length = 36) {i : Nat} (hzero : syndrome word i = 0#8) {p : Nat}
    (hp : p < 36) (e : Byte) : syndrome (modAt word (35 - p) fun s => s ^^^ e) i = gfTimesX^[i * p] e := by
  have herror := remainderFrom_modAt i e (word := word) (j := 35 - p) (p := p) (by omega) 0#8
  rw [show remainderFrom i word 0#8 = 0#8 from hzero, BitVec.zero_xor] at herror
  exact herror

theorem decodeWord_clean {word : List Byte} (h : ∀ i, i < 4 → syndrome word i = 0#8) : decodeWord word = .clean :=
  if_pos ⟨h 0 (by decide), h 1 (by decide), h 2 (by decide), h 3 (by decide)⟩

/-- Syndromes in the ratio αᵖ name position p. -/
theorem decodeWord_corrected {word : List Byte} {e : Byte} (he : e ≠ 0#8) {p : Nat} (hp : p < 36)
    (h : ∀ i, i < 4 → syndrome word i = gfTimesX^[i * p] e) : decodeWord word = .corrected p e := by
  have hfind : ((List.range 36).find? fun q => gfMul e (gfPow q) == gfTimesX^[p] e &&
      gfMul (gfTimesX^[p] e) (gfPow q) == gfTimesX^[2 * p] e &&
      gfMul (gfTimesX^[2 * p] e) (gfPow q) == gfTimesX^[3 * p] e) = some p := by
    rw [List.find?_range_eq_some]
    refine ⟨?found, by simpa using hp, fun q hq => ?first⟩
    case found =>
      simp only [gfMul_gfPow, ← Function.iterate_add_apply, Bool.and_eq_true, beq_iff_eq]
      exact ⟨⟨trivial, by congr 1; omega⟩, by congr 1; omega⟩
    case first =>
      have hne : gfMul e (gfPow q) ≠ gfTimesX^[p] e := by
        rw [gfMul_gfPow]
        exact fun heq => absurd (gfTimesX_iterate_inj he (by omega) hp heq) (by omega)
      simp [hne]
  have h0 : syndrome word 0 = e := by simpa using h 0 (by decide)
  have h1 : syndrome word 1 = gfTimesX^[p] e := by simpa using h 1 (by decide)
  rw [decodeWord]
  simp only [h0, h1, h 2 (by decide), h 3 (by decide), hfind]
  exact (if_neg fun hclean => he hclean.1).trans (if_neg he)

end Sys2Proof.Machine
end

section
open Sys2Proof Sys2Proof.Machine

/-- Settles O18: the syndromes of an error e at position p are e, e·αᵖ, e·α²ᵖ and e·α³ᵖ, and no other position below 36 has this
ratio. -/
theorem decoderCorrectsEverySingleSymbolError : Obligations.DecoderCorrectsEverySingleSymbolError := by
  unfold Obligations.DecoderCorrectsEverySingleSymbolError
  exact fun word hlength hzero => ⟨decodeWord_clean hzero, fun p e hp he =>
    decodeWord_corrected he hp fun i hi => syndrome_modAt hlength (hzero i hi) hp e⟩
end

section
/-! SUPPORT. The recorder's counters under a turn of its queue, and what else touches its MRAM (19 R478–R482, R487). -/

namespace Sys2Proof.Machine

/-- What a turn does to the log and its counters: the event is frozen out, refused, merged into the newest record, or written as a
new one, of which at most 65 536 stand (19 R478–R480). -/
theorem Mram.takeTurn_cases (m : Mram) (frozen : Bool) (ev : Event) :
    m.takeTurn frozen ev = { m with raised := m.raised + 1, frozen := m.frozen + 1 } ∨
    m.takeTurn frozen ev = { m with raised := m.raised + 1, refused := m.refused + 1 } ∨
    (∃ r rest, m.log = r :: rest ∧ m.takeTurn frozen ev =
      { m with raised := m.raised + 1, log := { r with repeats := r.repeats + 1, lastStamp := ev.stamp } :: rest,
               repeats := m.repeats + 1 }) ∨
    (m.held < 65536 ∧ m.takeTurn frozen ev =
      { m with raised := m.raised + 1, log := ⟨ev, frozen, 0, ev.stamp, false⟩ :: m.log }) := by
  unfold Mram.takeTurn
  dsimp only
  split
  · exact .inl rfl
  · split
    case isTrue hmerges =>
      cases hlog : m.log with
      | nil => simp [Mram.merges, hlog] at hmerges
      | cons r rest => exact .inr (.inr (.inl ⟨r, rest, rfl, rfl⟩))
    case isFalse =>
      split
      · exact .inr (.inl rfl)
      · next hroom => exact .inr (.inr (.inr ⟨Nat.lt_of_not_le hroom, rfl⟩))

/-- Each outcome of a turn counts the event once (19 R482). -/
theorem Mram.counted_takeTurn {m : Mram} (h : m.counted) (frozen : Bool) (ev : Event) : (m.takeTurn frozen ev).counted := by
  obtain ⟨hraised, hrepeats⟩ := h
  rw [Mram.held] at hraised
  rcases m.takeTurn_cases frozen ev with hturn | hturn | ⟨r, rest, hlog, hturn⟩ | ⟨-, hturn⟩
  · rw [hturn]
    exact ⟨by simp only [Mram.held]; omega, hrepeats⟩
  · rw [hturn]
    exact ⟨by simp only [Mram.held]; omega, hrepeats⟩
  · rw [hturn]
    rw [hlog] at hraised hrepeats
    simp only [List.map_cons, List.sum_cons] at hrepeats
    simp only [List.length_cons] at hraised
    exact ⟨by simp only [Mram.held, List.length_cons]; omega, by simp only [List.map_cons, List.sum_cons]; omega⟩
  · rw [hturn]
    exact ⟨by simp only [Mram.held, List.length_cons]; omega, by simp only [List.map_cons, List.sum_cons]; omega⟩

/-- A turn leaves the events of the records held, behind at most one new one (19 R473). -/
theorem Mram.takeTurn_events (m : Mram) (frozen : Bool) (ev : Event) :
    m.log.map Record.ev <:+ (m.takeTurn frozen ev).log.map Record.ev := by
  rcases m.takeTurn_cases frozen ev with hturn | hturn | ⟨r, rest, hlog, hturn⟩ | ⟨-, hturn⟩
  · rw [hturn]
  · rw [hturn]
  · rw [hturn, hlog]
    exact List.suffix_rfl
  · rw [hturn]
    exact List.suffix_cons _ _

theorem Mram.takeTurn_held (m : Mram) (frozen : Bool) (ev : Event) :
    (m.takeTurn frozen ev).held = m.held ∨ ((m.takeTurn frozen ev).held = m.held + 1 ∧ m.held < 65536) := by
  rcases m.takeTurn_cases frozen ev with hturn | hturn | ⟨r, rest, hlog, hturn⟩ | ⟨hroom, hturn⟩
  · exact .inl (by rw [hturn]; rfl)
  · exact .inl (by rw [hturn]; rfl)
  · exact .inl (by rw [hturn, Mram.held, Mram.held, hlog]; rfl)
  · exact .inr ⟨by rw [hturn]; rfl, hroom⟩

theorem Device.mram_bump (d : Device) (o : Obj) : (d.bump o).mram = d.mram := by
  obtain ⟨v, n, hbump⟩ := d.bump_spec o
  rw [hbump]
  rfl

theorem Device.mram_bumpBy (d : Device) (o : Obj) (i : Int) : (d.bumpBy o i).mram = d.mram := by
  obtain ⟨v, n, hbump⟩ := d.bumpBy_spec o i
  rw [hbump]
  rfl

theorem Device.mram_pfArm (d : Device) : d.pfArm.mram = d.mram := by
  unfold Device.pfArm
  split <;> rfl

theorem Device.mram_when {f : Device → Device} (h : ∀ e, (f e).mram = e.mram) (d : Device) (b : Bool) :
    (d.when b f).mram = d.mram :=
  Device.when_keeps (P := fun e => e.mram = d.mram) (fun e he => (h e).trans he) rfl b

/-- MRAM after a turn of the queue is that of its event (19 R477). -/
theorem Device.mram_recordTurn {d : Device} {ev : Event} {rest : List Event} (h : d.recorder.queue = ev :: rest) :
    d.recordTurn.mram = d.mram.takeTurn (d.flag O.frozen) ev := by
  have hcount : ∀ e : Device, ((e.bump O.recordWrites).bumpBy O.mramWrites 2).mram = e.mram := fun e =>
    (Device.mram_bumpBy _ _ _).trans (e.mram_bump _)
  have hfull : ∀ e : Device, (e.setFlag O.full true).mram = e.mram := fun _ => rfl
  simp only [Device.recordTurn, h]
  split
  · exact (Device.mram_when hfull _ _).trans (Device.mram_when hcount _ _)
  · exact (Device.mram_when hfull _ _).trans (Device.mram_when hcount _ _)

theorem Device.counted_recordTurn {d : Device} (h : d.mram.counted) : d.recordTurn.mram.counted := by
  cases hqueue : d.recorder.queue with
  | nil => simpa [Device.recordTurn, hqueue] using h
  | cons ev rest =>
    rw [Device.mram_recordTurn hqueue]
    exact Mram.counted_takeTurn h _ ev

/-- GD's count of what was lost is added to both sides of the identity (19 R482). -/
theorem Device.counted_recorderBack {d : Device} (h : d.mram.counted) : d.recorderBack.mram.counted := by
  obtain ⟨hraised, hrepeats⟩ := h
  unfold Device.recorderBack
  dsimp only
  rw [Device.mram_when Device.mram_pfArm]
  refine ⟨?_, hrepeats⟩
  simp only [Mram.held] at hraised ⊢
  omega

/-- A clear leaves one record, of itself (19 R487). -/
theorem Device.counted_clearNow (d : Device) (path : Nat) : (d.clearNow path).mram.counted := by
  unfold Device.clearNow
  dsimp only
  rw [Device.stampAt, Device.set_mram, Device.mram_bumpBy, Device.mram_bump]
  exact ⟨rfl, rfl⟩

end Sys2Proof.Machine
end

section
open Sys2Proof Sys2Proof.Machine

/-- Settles O13: each turn counts its event once, in one of the four counts. That an event is counted at its turn or refusal is
assumption log entry 129; GD's addition and the clear are entries 132 and 133. -/
theorem recorderCountsEveryEventAndNeverChangesARecord : Obligations.RecorderCountsEveryEventAndNeverChangesARecord := by
  unfold Obligations.RecorderCountsEveryEventAndNeverChangesARecord
  refine ⟨fun m frozen ev => ⟨fun h => Mram.counted_takeTurn h frozen ev, m.takeTurn_events frozen ev, ?one, ?most⟩,
    fun d w h => ⟨Device.counted_recorderBack h, d.counted_clearNow, ?turn⟩⟩
  case one => rcases m.takeTurn_held frozen ev with hheld | ⟨hheld, -⟩ <;> omega
  case most => rcases m.takeTurn_held frozen ev with hheld | ⟨hheld, hroom⟩ <;> omega
  case turn =>
    exact exec_when_leaves (P := fun e => e.mram.counted) (c := .recordWrite)
      (b := fun d => d.sys.coreRunning && d.runs engBE && !d.sys.brownOut) rfl (Device.counted_recordTurn h) h
end

section
/-! SUPPORT. The cells of a pool: what each lane holds of it, and what changes of a lane and of a free list do to the identity of the
pool (18 R460–R470). -/

namespace Sys2Proof.Machine

/-- Cells of pool p that a lane of pool `own` holds: items, claimed item, packet in progress (18 R468). -/
def Lane.heldIn (p own : Nat) (l : Lane) : Nat :=
  (l.items.map (Item.cellsIn p)).sum +
    ((match l.claim with
      | some c => c.1.cellsIn p
      | none => 0) + if own = p then l.packetCells else 0)

/-- The identity of pool p while `n` of its cells are on their way to the free list, with the lengths of the lists that hold it. -/
def Device.poolAgreesWith (p n : Nat) (d : Device) : Prop :=
  (d.mem.lanes.length = 128 ∧ d.mem.free.length = 2) ∧
    d.poolFree p + ((List.range 128).map fun q => (d.lane q).heldIn p (d.poolOf q)).sum + n = d.poolTotal p

theorem Device.poolHeld_eq (d : Device) (p : Nat) :
    d.poolAllocated p + d.poolInFlight p = ((List.range 128).map fun q => (d.lane q).heldIn p (d.poolOf q)).sum :=
  (List.sum_map_add ..).symm

theorem Device.poolAgreesWith_zero {d : Device} (hlanes : d.mem.lanes.length = 128) (hfree : d.mem.free.length = 2) {p : Nat} :
    d.poolAgreesWith p 0 ↔ d.poolAgrees p := by
  rw [Device.poolAgreesWith, Device.poolAgrees, ← Device.poolHeld_eq]
  omega

theorem Device.poolAgrees_of_with {d : Device} {p : Nat} (h : d.poolAgreesWith p 0) : d.poolAgrees p := by
  obtain ⟨hlanes, hfree⟩ := h.1
  exact (Device.poolAgreesWith_zero hlanes hfree).mp h

/-- The memories and what decides the pools are as they were. -/
structure Device.SamePools (a b : Device) : Prop where
  mem : b.mem = a.mem
  poolOf : b.poolOf = a.poolOf
  poolTotal : b.poolTotal = a.poolTotal

theorem Device.SamePools.trans {a b c : Device} (h : Device.SamePools a b) (g : Device.SamePools b c) : Device.SamePools a c :=
  ⟨g.mem.trans h.mem, g.poolOf.trans h.poolOf, g.poolTotal.trans h.poolTotal⟩

theorem Device.SamePools.agrees {a b : Device} (h : Device.SamePools a b) {p n : Nat} (ha : a.poolAgreesWith p n) :
    b.poolAgreesWith p n := by
  obtain ⟨hlengths, hsum⟩ := ha
  refine ⟨by rwa [h.mem], ?_⟩
  simp only [Device.poolFree, Device.lane, h.mem, h.poolOf, h.poolTotal] at hsum ⊢
  exact hsum

/-- The counters and flags of the lanes, at 0x7200 + q, decide no pool (18 R460). -/
theorem Device.samePools_set {o : Obj} (hindex : 0x7200 ≤ o.index) (hsub : o.key % 256 ≠ 2) (d : Device) (v : Int) :
    Device.SamePools d (d.set o v) := by
  have hpool : ∀ q, (d.set o v).get (O.lanePool q) = d.get (O.lanePool q) := fun q =>
    Device.get_set_other (by simp only [Obj.key] at hsub ⊢; omega) d v
  have hstate : (d.set o v).get O.ddrState = d.get O.ddrState :=
    Device.get_set_other (by simp only [Obj.key] at hsub ⊢; omega) d v
  have hsize : (d.set o v).get O.bulkPoolSize = d.get O.bulkPoolSize :=
    Device.get_set_other (by simp only [Obj.key] at hsub ⊢; omega) d v
  refine ⟨rfl, funext fun q => ?_, funext fun p => ?_⟩
  · rw [Device.poolOf, Device.getN, hpool, ← Device.getN, ← Device.poolOf]
  · rw [Device.poolTotal, Device.getN, hstate, hsize, ← Device.getN, ← Device.poolTotal]

theorem Device.samePools_bump {o : Obj} (hindex : 0x7200 ≤ o.index) (hsub : o.key % 256 ≠ 2) (d : Device) :
    Device.SamePools d (d.bump o) := by
  obtain ⟨v, n, hbump⟩ := d.bump_spec o
  rw [hbump]
  exact (d.samePools_set hindex hsub v).trans ⟨rfl, rfl, rfl⟩

theorem Device.samePools_bumpBy {o : Obj} (hindex : 0x7200 ≤ o.index) (hsub : o.key % 256 ≠ 2) (d : Device) (i : Int) :
    Device.SamePools d (d.bumpBy o i) := by
  obtain ⟨v, n, hbump⟩ := d.bumpBy_spec o i
  rw [hbump]
  exact (d.samePools_set hindex hsub v).trans ⟨rfl, rfl, rfl⟩

theorem Device.lane_modLane_same {d : Device} {q : Nat} (hq : q < d.mem.lanes.length) (f : Lane → Lane) :
    (d.modLane q f).lane q = f (d.lane q) := modAt_getD_same _ _ _ _ hq

theorem Device.lane_modLane_other {d : Device} {q j : Nat} (hj : q ≠ j) (f : Lane → Lane) : (d.modLane q f).lane j = d.lane j :=
  modAt_getD_other _ _ _ _ _ hj

/-- A sum over the first numbers with one term less. -/
theorem sum_range_sub {f g : Nat → Nat} {q m n : Nat} (hq : q < m) (hother : ∀ j, j ≠ q → g j = f j) (hterm : f q = g q + n) :
    ((List.range m).map f).sum = ((List.range m).map g).sum + n := by
  have hsum : ∀ h : Nat → Nat, ((List.range m).map h).sum = ∑ j ∈ Finset.range m, h j := fun _ => rfl
  have hmem : q ∈ Finset.range m := Finset.mem_range.mpr hq
  have hrest : ∑ j ∈ (Finset.range m).erase q, g j = ∑ j ∈ (Finset.range m).erase q, f j :=
    Finset.sum_congr rfl fun j hj => hother j (Finset.ne_of_mem_erase hj)
  rw [hsum, hsum, ← Finset.add_sum_erase _ f hmem, ← Finset.add_sum_erase _ g hmem, hrest]
  omega

/-- What a lane gives up is on its way. -/
theorem Device.poolAgreesWith_modLane {d : Device} {p q n : Nat} (hq : q < 128) (h : d.poolAgreesWith p n) {f : Lane → Lane}
    {m : Nat} (hf : (d.lane q).heldIn p (d.poolOf q) = (f (d.lane q)).heldIn p (d.poolOf q) + m) :
    (d.modLane q f).poolAgreesWith p (n + m) := by
  obtain ⟨⟨hlanes, hfree⟩, hsum⟩ := h
  have hheld := sum_range_sub (f := fun j => (d.lane j).heldIn p (d.poolOf j))
    (g := fun j => ((d.modLane q f).lane j).heldIn p (d.poolOf j)) (n := m) hq
    (fun j hj => by rw [Device.lane_modLane_other (Ne.symm hj)])
    (by rw [Device.lane_modLane_same (by omega)]; exact hf)
  refine ⟨⟨(modAt_length _ _ _).trans hlanes, hfree⟩, ?_⟩
  change d.poolFree p + ((List.range 128).map fun j => ((d.modLane q f).lane j).heldIn p (d.poolOf j)).sum + (n + m) =
    d.poolTotal p
  omega

/-- Cells on their way enter the free list. -/
theorem Device.poolAgreesWith_modFree {d : Device} {p r m n : Nat} (hp : p < 2)
    (h : d.poolAgreesWith p (n + if r = p then m else 0)) : (d.modFree r fun k => k + m).poolAgreesWith p n := by
  obtain ⟨⟨hlanes, hfree⟩, hsum⟩ := h
  have hmoved : (d.modFree r fun k => k + m).poolFree p = d.poolFree p + if r = p then m else 0 := by
    split
    · next hr => subst hr; exact modAt_getD_same _ _ _ _ (by omega)
    · next hr => exact modAt_getD_other _ _ _ _ _ hr
  refine ⟨⟨hlanes, (modAt_length _ _ _).trans hfree⟩, ?_⟩
  rw [hmoved]
  change d.poolFree p + _ + ((List.range 128).map fun j => (d.lane j).heldIn p (d.poolOf j)).sum + n = d.poolTotal p
  omega

theorem Device.samePools_loseItem (d : Device) (q : Nat) (b : Bool) :
    Device.SamePools d (d.loseItem q (if b then O.damaged q else O.overwritten q)) := by
  refine Device.SamePools.trans (b := d.bump (if b then O.damaged q else O.overwritten q)) ?_
    (Device.samePools_bump (o := O.lostItems q) (by simp) (by simp only [Obj.key]; omega) _)
  cases b
  · exact Device.samePools_bump (o := O.overwritten q) (by simp) (by simp only [Obj.key]; omega) d
  · exact Device.samePools_bump (o := O.damaged q) (by simp) (by simp only [Obj.key]; omega) d

/-- The oldest item goes back to the free list of its pool (18 R466). -/
theorem Device.agrees_overwrite {d : Device} {p q : Nat} (hp : p < 2) (hq : q < 128) (h : d.poolAgreesWith p 0) :
    (d.overwrite q).poolAgreesWith p 0 := by
  unfold Device.overwrite
  split
  · exact h
  · next i rest hitems =>
    refine (Device.samePools_loseItem _ q i.damaged).agrees
      (Device.poolAgreesWith_modFree hp (Device.poolAgreesWith_modLane hq h ?_))
    simp only [Lane.heldIn, hitems, List.map_cons, List.sum_cons, Item.cellsIn, Lane.packetCells]
    omega

/-- The cells of the packet in progress go back to the free list of the lane's pool (18 R463). -/
theorem Device.agrees_rewind {d : Device} {p q : Nat} (hp : p < 2) (hq : q < 128) (h : d.poolAgreesWith p 0) :
    (d.rewind q).poolAgreesWith p 0 := by
  unfold Device.rewind
  split
  · exact h
  · next pk hpacket =>
    refine (Device.samePools_bumpBy (o := O.rewoundCells q) (by simp) (by simp only [Obj.key]; omega) _ _).agrees ?_
    refine (Device.samePools_bump (o := O.rewinds q) (by simp) (by simp only [Obj.key]; omega) _).agrees ?_
    refine Device.poolAgreesWith_modFree hp (Device.poolAgreesWith_modLane hq h ?_)
    simp only [Lane.heldIn, hpacket, Lane.packetCells, ite_self]
    omega

/-- The cells of the claimed item go back to the free list of its pool (18 R465). -/
theorem Device.agrees_releaseNow {d : Device} {p q : Nat} (hp : p < 2) (hq : q < 128) (h : d.poolAgreesWith p 0) :
    (d.releaseNow q).poolAgreesWith p 0 := by
  unfold Device.releaseNow
  split
  · next c hclaim =>
    refine Device.poolAgreesWith_modFree hp (Device.poolAgreesWith_modLane hq h ?_)
    simp only [Lane.heldIn, hclaim, Lane.packetCells, Item.cellsIn]
    omega
  · exact h

/-- Items on their way go back one by one, each to the free list of its pool. -/
theorem Device.agrees_freeItems {p : Nat} (hp : p < 2) (items : List Item) {d : Device}
    (h : d.poolAgreesWith p (items.map (Item.cellsIn p)).sum) :
    (items.foldl (fun d i => d.modFree i.pool fun f => f + i.cells) d).poolAgreesWith p 0 := by
  induction items generalizing d with
  | nil => exact h
  | cons i items ih =>
    refine ih (Device.poolAgreesWith_modFree hp ?_)
    rw [List.map_cons, List.sum_cons, Nat.add_comm] at h
    exact h

/-- A flush empties the lane but for the claimed item (18 R470). -/
theorem Device.agrees_laneFlush {d : Device} {p q : Nat} (hp : p < 2) (hq : q < 128) (h : d.poolAgreesWith p 0) :
    (d.laneFlush q).poolAgreesWith p 0 := by
  unfold Device.laneFlush
  refine Device.agrees_rewind hp hq ?_
  refine (Device.samePools_bumpBy (o := O.lostItems q) (by simp) (by simp only [Obj.key]; omega) _ _).agrees ?_
  refine (Device.samePools_bumpBy (o := O.flushed q) (by simp) (by simp only [Obj.key]; omega) _ _).agrees ?_
  have hemptied := Device.poolAgreesWith_modLane (f := fun l => { l with items := [] })
    (m := ((d.lane q).items.map (Item.cellsIn p)).sum) hq h
    (by simp only [Lane.heldIn, Lane.packetCells, List.map_nil, List.sum_nil]; omega)
  rw [Nat.zero_add] at hemptied
  exact Device.agrees_freeItems hp _ hemptied

/-- An item that is lost leaves the claim of its lane. -/
theorem Device.claim_overwrite {d : Device} {q : Nat} (hq : q < d.mem.lanes.length) :
    ((d.overwrite q).lane q).claim = (d.lane q).claim := by
  unfold Device.overwrite
  split
  · rfl
  · rw [Device.lane, (Device.samePools_loseItem _ q _).mem]
    change ((d.modLane q _).lane q).claim = _
    rw [Device.lane_modLane_same hq]

/-- The damaged items at the head of a lane that claims nothing (18 R465). -/
theorem Device.agrees_dropDamaged {d : Device} {p q : Nat} (hp : p < 2) (hq : q < 128) (h : d.poolAgreesWith p 0)
    (hclaim : (d.lane q).claim = none) : (d.dropDamaged q).poolAgreesWith p 0 ∧ ((d.dropDamaged q).lane q).claim = none := by
  unfold Device.dropDamaged
  generalize (d.lane q).items.takeWhile Item.damaged = bad
  dsimp only
  induction bad generalizing d with
  | nil => exact ⟨h, hclaim⟩
  | cons i bad ih =>
    refine ih (Device.agrees_overwrite hp hq h) ?_
    rwa [Device.claim_overwrite (by rw [h.1.1]; exact hq)]

/-- The claimed item keeps its cells, in flight instead of allocated (18 R465). -/
theorem Device.agrees_claimNow {d : Device} {p q : Nat} (hp : p < 2) (hq : q < 128) (h : d.poolAgreesWith p 0)
    (hclaim : (d.lane q).claim = none) (path : Nat) : (d.claimNow q path).poolAgreesWith p 0 := by
  obtain ⟨hdropped, hnone⟩ := Device.agrees_dropDamaged hp hq h hclaim
  have hready : ((d.dropDamaged q).setFlag (O.laneIdle q) false).poolAgreesWith p 0 :=
    (Device.samePools_set (o := O.laneIdle q) (by simp) (by simp only [Obj.key]; omega) _ 0).agrees hdropped
  unfold Device.claimNow
  dsimp only
  split
  · exact hready
  · next i rest hitems =>
    refine Device.poolAgreesWith_modLane (m := 0) hq hready ?_
    simp only [Lane.heldIn, hitems, Lane.packetCells, List.map_cons, List.sum_cons]
    rw [show (((d.dropDamaged q).setFlag (O.laneIdle q) false).lane q).claim = none from hnone]
    dsimp only
    omega

end Sys2Proof.Machine
end

section
open Sys2Proof Sys2Proof.Machine

/-- Settles O14: each operation takes from a lane what it puts into the free list of the pool that the cells lie in. -/
theorem poolCellsStayInTheirThreePlaces : Obligations.PoolCellsStayInTheirThreePlaces := by
  unfold Obligations.PoolCellsStayInTheirThreePlaces
  intro d p q path hp hq hlanes hfree _ hagrees
  have h := (Device.poolAgreesWith_zero hlanes hfree).mpr hagrees
  exact ⟨Device.poolAgrees_of_with (Device.agrees_overwrite hp hq h), Device.poolAgrees_of_with (Device.agrees_rewind hp hq h),
    Device.poolAgrees_of_with (Device.agrees_releaseNow hp hq h), Device.poolAgrees_of_with (Device.agrees_laneFlush hp hq h),
    fun hclaim => Device.poolAgrees_of_with (Device.agrees_claimNow hp hq h hclaim path)⟩
end

section
/-! SUPPORT. A staged write: what it changes, and that nothing follows it (16 R417). -/

namespace Sys2Proof.Machine

/-- The addresses of the two objects that show the staging set. -/
def stagingKeys : List Nat := [O.stagingOwner.key, O.stagedCount.key]

/-- From `a` to `b` no value in force has changed but those of the two objects that show the staging set, and nothing that the
routed edges and the rails rest on. -/
structure Device.OnlyStages (a b : Device) : Prop where
  objects : a.keeps b stagingKeys
  sys : b.sys = a.sys
  router : b.router = a.router
  seq : b.seq = a.seq

theorem Device.OnlyStages.trans {a b c : Device} (h : Device.OnlyStages a b) (g : Device.OnlyStages b c) :
    Device.OnlyStages a c :=
  ⟨Device.keeps_trans h.objects g.objects, g.sys.trans h.sys, g.router.trans h.router, g.seq.trans h.seq⟩

/-- An answer to the window changes the window at most (17 R444). -/
theorem Device.answer_window (d : Device) (index sub status disp : Nat) (value : List Byte) :
    Device.OnlyStages d (d.answer 16 index sub status disp value) ∧
      (d.answer 16 index sub status disp value).dict = d.dict := by
  rw [Device.answer, if_pos rfl]
  refine Device.when_keeps (P := fun e => Device.OnlyStages d e ∧ e.dict = d.dict) (fun e he => ?_) ?_ _
  · obtain ⟨hstages, hdict⟩ := he
    exact ⟨⟨hstages.objects, hstages.sys, hstages.router, hstages.seq⟩, hdict⟩
  · exact ⟨⟨fun _ _ => rfl, rfl, rfl, rfl⟩, rfl⟩

theorem Device.onlyStages_setStaged (d : Device) (path : Nat) (l : List Pending) :
    Device.OnlyStages d (d.setStaged (some (path, l))) := by
  refine ⟨?_, rfl, rfl, rfl⟩
  have hset : d.keeps { d with dict := { d.dict with staged := some (path, l) } } stagingKeys := fun _ _ => rfl
  exact Device.keeps_trans (Device.keeps_trans hset (Device.keeps_set (o := O.stagingOwner) (by decide) _ _))
    (Device.keeps_set (o := O.stagedCount) (by decide) _ _)

/-- A staged write of the management port, accepted or refused. -/
theorem Device.onlyStages_stageWrite (d : Device) (o : Obj) (k : Nat) (bs : List Byte) (l : List Pending) :
    Device.OnlyStages d (d.stageWrite 16 o k bs l) := by
  have hfail := fun st => (d.answer_window o.index o.sub st 0 []).1
  unfold Device.stageWrite
  dsimp only
  split_ifs
  · exact hfail _
  · exact hfail _
  · exact hfail _
  · exact hfail _
  · exact (d.onlyStages_setStaged 16 _).trans (Device.answer_window _ _ _ _ _ _).1

/-- The set of the management port after a staged write that passes its own checks (16 R417). -/
theorem Device.stagedOf_stageWrite {d : Device} {o : Obj} {k : Nat} {bs : List Byte} {l l' : List Pending}
    (hlength : o.ty.lengthOk bs.length = true) (hA : d.flag O.controllerClassA = false)
    (hown : o.ownBad k (o.kept (o.ty.decode bs)) = false) (hl' : putPending l ⟨16, o.key, o.kept (o.ty.decode bs)⟩ = l')
    (hcount : l'.length ≤ 256) (hsize : (l'.map fun p => keySize p.key).sum ≤ 16384) :
    (d.stageWrite 16 o k bs l).stagedOf 16 = some l' := by
  have hroom : ¬ (256 < l'.length ∨ 16384 < (l'.map fun p => keySize p.key).sum) := by omega
  have hwrite : d.stageWrite 16 o k bs l = (d.setStaged (some (16, l'))).answer 16 o.index o.sub 0 2 [] := by
    simp only [Device.stageWrite, hl', hlength, hA, hown, if_neg hroom]
    rfl
  rw [hwrite, Device.stagedOf, ((d.setStaged (some (16, l'))).answer_window _ _ _ _ _).2]
  rfl

/-- What follows a command rests on no object that shows the staging set (12 R327, 13 R350). -/
theorem Device.OnlyStages.quiet {d e : Device} (h : Device.OnlyStages d e) : e.quiet = d.quiet := by
  have hget : ∀ o : Obj, 0x1F12 * 256 ≤ o.key → e.get o = d.get o := by
    intro o ho
    refine h.objects o ?_
    simp only [stagingKeys, List.mem_cons, List.not_mem_nil, or_false, Obj.key] at ho ⊢
    omega
  have hfeed : ∀ r, e.railFeed r = d.railFeed r := fun r => by
    rw [Device.railFeed, Device.getN, hget (O.railKind r) (by simp only [Obj.key]; omega),
      hget (O.feedNumber r) (by simp only [Obj.key]; omega)]
    rfl
  have hfeedSt : ∀ k, e.feedSt k = d.feedSt k := fun k =>
    congrArg Int.toNat (hget (O.feedState k) (by simp only [Obj.key]; omega))
  have hrailSt : ∀ r, e.railSt r = d.railSt r := fun r =>
    congrArg Int.toNat (hget (O.railState r) (by simp only [Obj.key]; omega))
  have hlatched : ∀ r, e.srcLatched r = d.srcLatched r := fun r => by simp only [Device.srcLatched, hfeed, hfeedSt]
  have hdown : e.inPowerDown = d.inPowerDown := by
    simp only [Device.inPowerDown, Device.getN, hget O.seqState (by decide)]
  have hdue : ∀ r, e.railDue r = d.railDue r := fun r => by
    simp only [Device.railDue, hfeed, hrailSt, hlatched, hdown, hfeedSt, Device.rail, h.seq]
  have hactive : e.scActive = d.scActive := by
    simp only [Device.scActive, Device.live, Device.flag, Device.runs, Device.getN, h.sys,
      hget O.controllerClassA (by decide), hget O.activeShelfCore (by decide)]
    rw [hget (O.engineState _) (by simp only [Obj.key]; omega)]
  simp only [Device.quiet, h.router, hactive, funext hdue]

end Sys2Proof.Machine
end

section
open Sys2Proof Sys2Proof.Machine

/-- Settles O15: the write goes to the staging set, which shows in two objects, and nothing that is due to follow rests on them. -/
theorem stagedWriteLeavesTheValuesInForce : Obligations.StagedWriteLeavesTheValuesInForce := by
  unfold Obligations.StagedWriteLeavesTheValuesInForce
  intro index sub data stored o k l d w hl hmay hrws hL hst hquiet
  have hstages := d.onlyStages_stageWrite o k data l
  have hexec : exec (.objectWrite 16 index sub data stored) ⟨d, w⟩ =
      .next ⟨Device.linesFollow (Device.settle (d.stageWrite 16 o k data l)), w⟩ :=
    exec_objectWrite (Device.hostWrite_staged hl hmay hrws hL hst)
  rw [Device.settle_of_quiet _ (hstages.quiet.trans hquiet)] at hexec
  exact ⟨_, hexec, Device.keeps_linesFollow hstages.objects, fun hlength hA hown hcount hsize =>
    Device.stagedOf_stageWrite hlength hA hown rfl hcount hsize⟩
end

section
/-! SUPPORT. The stamp while the feeds, links and gates of the controller stop: nothing that a stop does moves it (03 R60, 05 R146,
06 R160, 10 R284, 14 R366). -/

namespace Sys2Proof.Machine

theorem Device.tb_of_reports {d e : Device} (h : d.onlyReports e) : e.tb = d.tb := by
  have hparts := congrArg Prod.fst h
  exact congrArg (fun parts => parts.2.2.1) hparts

theorem Device.tb_when {f : Device → Device} (h : ∀ e, (f e).tb = e.tb) (d : Device) (b : Bool) : (d.when b f).tb = d.tb :=
  Device.when_keeps (P := fun e => e.tb = d.tb) (fun e he => (h e).trans he) rfl b

theorem Device.tb_forAll {f : Nat → Device → Device} (h : ∀ n e, (f n e).tb = e.tb) (d : Device) (l : List Nat) :
    (d.forAll l f).tb = d.tb :=
  Device.forAll_keeps (P := fun e => e.tb = d.tb) (fun n _ e he => (h n e).trans he) rfl

theorem Device.tb_bump (d : Device) (o : Obj) : (d.bump o).tb = d.tb := Device.tb_of_reports (d.bump_reports o)

theorem Device.tb_bumpBy (d : Device) (o : Obj) (i : Int) : (d.bumpBy o i).tb = d.tb := by
  obtain ⟨v, n, hbump⟩ := d.bumpBy_spec o i
  rw [hbump]
  rfl

theorem Device.tb_autostartFail (d : Device) (cause : Int) : (d.autostartFail cause).tb = d.tb := by
  refine Device.tb_when (fun e => ?_) d _
  exact (Device.tb_of_reports (Device.raiseC_reports _ _ _ _ _)).trans rfl

theorem Device.tb_holdLost (d : Device) : d.holdLost.tb = d.tb := congrArg Prod.fst (d.slotBasis_holdFalse d.now)

theorem Device.MovesPulses.tb {k : Nat} {d e : Device} (h : Device.MovesPulses k d e) : e.tb = d.tb := by
  rw [h.rest]

theorem Device.tb_stepFalse (d : Device) (k : Nat) : (d.stepFalse k).tb = d.tb := by
  unfold Device.stepFalse
  split
  · rfl
  · dsimp only
    refine (Device.tb_of_reports (Device.takeEvent_reports _ _ _ _ _ _ _)).trans ((Device.tb_bump _ _).trans ?_)
    split <;> rfl

theorem Device.tb_cutPulse (d : Device) (k n : Nat) : (d.cutPulse k n).tb = d.tb := by
  unfold Device.cutPulse
  dsimp only
  split
  · exact Device.tb_when (fun e => (e.movesPulses_pulseOver k _).tb) d _
  · rfl

theorem Device.tb_endRound (d : Device) (k : Nat) : (d.endRound k).tb = d.tb := (Device.movesPulses_settleRounds _ k).tb

theorem Device.tb_feedSafe (d : Device) (k : Nat) : (d.feedSafe k).tb = d.tb := by
  unfold Device.feedSafe
  refine (Device.tb_endRound _ k).trans ((Device.tb_forAll (fun n e => ?_) _ _).trans (d.tb_stepFalse k))
  dsimp only
  split <;> exact e.tb_cutPulse k n

theorem Device.tb_endHiccup (d : Device) (k : Nat) : (d.endHiccup k).tb = d.tb := by
  refine Device.tb_when (fun e => ?_) d _
  rfl

theorem Device.tb_linkDown (d : Device) (k : Nat) : (d.linkDown k).tb = d.tb := rfl

theorem Device.tb_tgDriveOff (d : Device) (k : Nat) : (d.tgDriveOff k).tb = d.tb := by
  refine Device.tb_when (fun e => ?_) d _
  rfl

/-- A feed, its link and its gate stop (14 R366). -/
def Device.classAStop (d : Device) (k : Nat) : Device :=
  let d := ((d.feedSafe k).endHiccup k).linkDown k
  let d := d.when (d.feedSt k != 8) fun d => d.set (O.feedState k) 7
  d.tgDriveOff k

theorem Device.tb_classAStop (d : Device) (k : Nat) : (d.classAStop k).tb = d.tb := by
  have hlatched : ∀ (b : Bool) (e : Device), (Device.when e b fun d => d.set (O.feedState k) 7).tb = e.tb := fun b e =>
    Device.tb_when (f := fun d => d.set (O.feedState k) 7) (fun d => d.set_tb _ _) e b
  unfold Device.classAStop
  dsimp only
  rw [Device.tb_tgDriveOff, hlatched, Device.tb_linkDown, Device.tb_endHiccup, Device.tb_feedSafe]

/-- All of them stop, an early start and an autostart are lost: the first part of the entry to the class-A safe state (14 R366). -/
def Device.classAHalt (d : Device) : Device :=
  ((d.autostartFail 4).holdLost).forAll (List.range 16) fun k d => d.classAStop k

theorem Device.tb_classAHalt (d : Device) : d.classAHalt.tb = d.tb := by
  rw [Device.classAHalt, Device.tb_forAll fun k e => e.tb_classAStop k, Device.tb_holdLost, Device.tb_autostartFail]

end Sys2Proof.Machine
end

section
/-! SUPPORT. The outputs and the cause once the controller's class-A safe state is latched, and what telling of it leaves of them (14
R366, R367, R368, 17 R441). -/

namespace Sys2Proof.Machine

/-- The outputs and the stamp. -/
def Device.outputs (d : Device) : Pins × Timebase := (d.pins, d.tb)

theorem Device.pins_of_outputs {d : Device} {p : Pins} {t : Timebase} (h : d.outputs = (p, t)) : d.pins = p :=
  congrArg Prod.fst h

theorem Device.now_of_outputs {d : Device} {p : Pins} {t : Timebase} (h : d.outputs = (p, t)) : d.now = t.stamp :=
  congrArg (fun out => out.2.stamp) h

theorem Device.outputs_when {f : Device → Device} (h : ∀ e, (f e).outputs = e.outputs) (d : Device) (b : Bool) :
    (d.when b f).outputs = d.outputs :=
  Device.when_keeps (P := fun e => e.outputs = d.outputs) (fun e he => (h e).trans he) rfl b

theorem Device.outputs_forAll {f : Nat → Device → Device} (h : ∀ n e, (f n e).outputs = e.outputs) (d : Device) (l : List Nat) :
    (d.forAll l f).outputs = d.outputs :=
  Device.forAll_keeps (P := fun e => e.outputs = d.outputs) (fun n _ e he => (h n e).trans he) rfl

theorem Device.outputs_bump (d : Device) (o : Obj) : (d.bump o).outputs = d.outputs := by
  obtain ⟨v, n, hbump⟩ := d.bump_spec o
  rw [hbump]
  rfl

theorem Device.outputs_bumpBy (d : Device) (o : Obj) (i : Int) : (d.bumpBy o i).outputs = d.outputs := by
  obtain ⟨v, n, hbump⟩ := d.bumpBy_spec o i
  rw [hbump]
  rfl

theorem Device.outputs_set (d : Device) (o : Obj) (v : Int) : (d.set o v).outputs = d.outputs := rfl

theorem Device.outputs_setFlag (d : Device) (o : Obj) (b : Bool) : (d.setFlag o b).outputs = d.outputs := rfl

theorem Device.outputs_dict (d : Device) (x : Dict) : { d with dict := x }.outputs = d.outputs := rfl

theorem Device.outputs_eng (d : Device) (x : Engines) : { d with eng := x }.outputs = d.outputs := rfl

theorem Device.outputs_modLane (d : Device) (q : Nat) (f : Lane → Lane) : (d.modLane q f).outputs = d.outputs := rfl

theorem Device.outputs_modFree (d : Device) (p : Nat) (f : Nat → Nat) : (d.modFree p f).outputs = d.outputs := rfl

theorem Device.outputs_dropPending (d : Device) : d.dropPending.outputs = d.outputs := by
  unfold Device.dropPending
  dsimp only
  rw [Device.outputs_set, Device.outputs_set, Device.outputs_set, Device.outputs_dict,
    Device.outputs_when fun e => e.outputs_bump O.stagingDiscarded, Device.outputs_bumpBy]

theorem Device.outputs_rewind (d : Device) (q : Nat) : (d.rewind q).outputs = d.outputs := by
  unfold Device.rewind
  split
  · rfl
  · rw [Device.outputs_bumpBy, Device.outputs_bump, Device.outputs_modFree, Device.outputs_modLane]

theorem Device.outputs_lanesClassA (d : Device) : d.lanesClassA.outputs = d.outputs :=
  Device.outputs_forAll (fun q e => e.outputs_rewind q) d _

theorem Device.outputs_stopEngines (d : Device) : d.stopEngines.outputs = d.outputs := by
  unfold Device.stopEngines
  dsimp only
  rw [Device.outputs_forAll fun n e => e.outputs_setFlag (O.socValid n) false, Device.outputs_set,
    Device.outputs_forAll fun n e => Device.outputs_when (fun e => e.outputs_set (O.engineState n) 0) e _, Device.outputs_eng]

/-- Every output takes its safe level, and what is pending goes (14 R366): the second part of the entry. -/
def Device.classASafe (d : Device) : Device :=
  let d := d.modPins Pins.classA
  let d := d.forAll (List.range 8) fun i d => d.setFlag (O.rstAsserted i) true
  { d.dropPending.lanesClassA.stopEngines with recorder := { d.recorder with challenge := none } }

theorem Device.outputs_classASafe (d : Device) : d.classASafe.outputs = (d.pins.classA, d.tb) := by
  have hrecorder : ∀ (e : Device) (x : Rec), { e with recorder := x }.outputs = e.outputs := fun _ _ => rfl
  unfold Device.classASafe
  dsimp only
  rw [hrecorder, Device.outputs_stopEngines, Device.outputs_lanesClassA, Device.outputs_dropPending,
    Device.outputs_forAll fun i e => e.outputs_setFlag (O.rstAsserted i) true]
  rfl

/-- The cause is latched with its stamp (14 R367): the third part of the entry. -/
def Device.classALatch (d : Device) (block source code : Nat) : Device :=
  let d := d.setFlag O.controllerClassA true
  let cause : ClassACause := ⟨block, source, code, d.now⟩
  let d := { d with aon := { d.aon with classA := some cause } }
  (((d.set O.classABlock block).set O.classASource source).set O.classACode code).stampAt O.classAStamp

theorem Device.outputs_classALatch (d : Device) (block source code : Nat) :
    (d.classALatch block source code).outputs = d.outputs := rfl

theorem Device.aon_classALatch (d : Device) (block source code : Nat) :
    (d.classALatch block source code).aon.classA = some ⟨block, source, code, d.now⟩ := rfl

theorem Device.flag_classALatch (d : Device) (block source code : Nat) :
    (d.classALatch block source code).flag O.controllerClassA = true := by
  unfold Device.classALatch Device.stampAt Device.flag
  dsimp only
  rw [Device.get_set_other (by decide), Device.get_set_other (by decide), Device.get_set_other (by decide),
    Device.get_set_other (by decide)]
  exact beq_iff_eq.mpr (Device.get_set_same d O.controllerClassA 1)

/-- The event, the alert and the notifications of the safe state, and the lines (14 R363, R368, 15 R403, 17 R441): the last part of
the entry. -/
def Device.classATold (d : Device) (block source code : Nat) : Device :=
  let d := d.when (code != 0x0902) fun d => d.offer ⟨0x0902, source, block, 3, d.now, leBytes 2 code, false⟩
  let d := ((d.alert 8).notify 4 (notifyBody 4 block code 0 d.now 0 [])).waitsFail 0x0814
  d.updateFaultN.updateSeqFlt.updateAlert

theorem Device.enterClassA_eq {d : Device} (h : d.flag O.controllerClassA = false) (block source code : Nat) :
    d.enterClassA block source code = (d.classAHalt.classASafe.classALatch block source code).classATold block source code := by
  rw [Device.enterClassA, if_neg (by simp [h])]
  unfold Device.classATold Device.classALatch Device.classASafe Device.classAHalt Device.classAStop
  rfl

theorem Device.tells_respond (d : Device) (s seq rstatus : Nat) (results : List (Nat × List Byte)) :
    Device.Tells d (d.respond s seq rstatus results) :=
  (d.tells_sendNew s 0x11 _).trans (Device.tells_modSession _ s _)

theorem Device.tells_finish (d : Device) (s : Nat) : Device.Tells d (d.finish s) := by
  unfold Device.finish
  dsimp only
  refine Device.Tells.trans (d.tells_modSession s fun x =>
    { x with requests := x.requests.filter fun r => !(r.ops.all fun o => o.result.isSome) }) ?_
  generalize (d.session s).requests.filter _ = done
  generalize d.modSession s _ = e
  induction done generalizing e with
  | nil => exact .refl e
  | cons r done ih => exact (e.tells_respond s r.seq 0 _).trans (ih _)

theorem Device.tells_waitsFail (d : Device) (status : Nat) : Device.Tells d (d.waitsFail status) :=
  .forAll fun s e => (e.tells_modSession s _).trans (Device.tells_finish _ s)

theorem Device.tells_updateSeqFlt (d : Device) : Device.Tells d d.updateSeqFlt :=
  (Device.tells_modPins (f := fun p => { p with seqFltN := !d.seqFltNow }) (fun _ => rfl) d).trans
    (Device.tells_set (o := O.seqFltDriving) (by decide) _ _)

theorem Device.tells_updateAlert (d : Device) : Device.Tells d d.updateAlert :=
  Device.tells_modPins (f := fun p => { p with alertN := !d.alertNow }) (fun _ => rfl) d

theorem Device.Tells.classAFlag {d e : Device} (h : Device.Tells d e) : e.flag O.controllerClassA = d.flag O.controllerClassA := by
  rw [Device.flag, h.classA, Device.flag]

/-- FAULT_N and ALERT_N are low once the lines follow the safe state (14 R368, 17 R441). -/
theorem Device.lines_of_classA {d : Device} (h : d.flag O.controllerClassA = true) :
    d.updateFaultN.updateSeqFlt.updateAlert.pins.faultN = false ∧
      d.updateFaultN.updateSeqFlt.updateAlert.pins.alertN = false := by
  have hlast : d.updateFaultN.updateSeqFlt.flag O.controllerClassA = true :=
    ((d.tells_updateFaultN).trans (Device.tells_updateSeqFlt _)).classAFlag.trans h
  refine ⟨?_, ?_⟩
  · change (!d.faultNow) = false
    simp [Device.faultNow, h]
  · change (!d.updateFaultN.updateSeqFlt.alertNow) = false
    simp [Device.alertNow, hlast]

theorem Device.tells_classATold (d : Device) (block source code : Nat) : Device.Tells d (d.classATold block source code) :=
  (((((Device.Tells.when (fun e => e.tells_offer _) _).trans (Device.tells_alert _ 8)).trans
    (Device.tells_notify _ 4 _)).trans (Device.tells_waitsFail _ _)).trans (Device.tells_updateFaultN _)).trans
      ((Device.tells_updateSeqFlt _).trans (Device.tells_updateAlert _))

theorem Device.lines_classATold {d : Device} (h : d.flag O.controllerClassA = true) (block source code : Nat) :
    (d.classATold block source code).pins.faultN = false ∧ (d.classATold block source code).pins.alertN = false := by
  refine Device.lines_of_classA ?_
  exact ((((Device.Tells.when (fun e => e.tells_offer _) _).trans (Device.tells_alert _ 8)).trans
    (Device.tells_notify _ 4 _)).trans (Device.tells_waitsFail _ _)).classAFlag.trans h

theorem Device.aon_of_reports {d e : Device} (h : d.onlyReports e) : e.aon = d.aon := by
  have hparts := congrArg Prod.fst h
  exact congrArg (fun parts => parts.2.1) hparts

/-- The outputs of the safe state: every one but the lines at its class-A level (14 R366). -/
theorem Device.butLines_enterClassA {d : Device} (h : d.flag O.controllerClassA = false) (block source code : Nat) :
    (d.enterClassA block source code).pins.butLines = d.classAHalt.pins.classA.butLines := by
  have houtputs := (d.classAHalt.classASafe.outputs_classALatch block source code).trans d.classAHalt.outputs_classASafe
  rw [Device.enterClassA_eq h, (Device.tells_classATold _ block source code).pins, Device.pins_of_outputs houtputs]

/-- The cause is latched at the stamp at which it came (14 R367). -/
theorem Device.aon_enterClassA {d : Device} (h : d.flag O.controllerClassA = false) (block source code : Nat) :
    (d.enterClassA block source code).aon.classA = some ⟨block, source, code, d.now⟩ := by
  rw [Device.enterClassA_eq h, Device.aon_of_reports (Device.tells_classATold _ block source code).reports,
    Device.aon_classALatch, Device.now_of_outputs d.classAHalt.outputs_classASafe, Device.tb_classAHalt]
  rfl

end Sys2Proof.Machine
end

section
open Sys2Proof Sys2Proof.Machine

/-- Settles O17: the entry moves every output to its safe level, latches the cause at the stamp at which it came, and what tells of it
moves none of them; a later cause is counted. -/
theorem classASafeStateHoldsTheOutputs : Obligations.ClassASafeStateHoldsTheOutputs := by
  unfold Obligations.ClassASafeStateHoldsTheOutputs
  refine ⟨fun d b source code h => ?_, fun d b source code h => if_pos h⟩
  have hpins := Device.butLines_enterClassA h b source code
  have hlatched := d.classAHalt.classASafe.flag_classALatch b source code
  have htold := (d.classAHalt.classASafe.classALatch b source code).tells_classATold b source code
  obtain ⟨hfault, halert⟩ := Device.lines_classATold hlatched b source code
  rw [← Device.enterClassA_eq h] at htold hfault halert
  have hlevel : ∀ {α : Type} (part : Pins → List α) (x : α), (∀ p, part p.butLines = part p) →
      (∀ p : Pins, ∀ y ∈ part p.classA, y = x) → ∀ y ∈ part (d.enterClassA b source code).pins, y = x := by
    intro α part x hlines hsafe y hy
    rw [← hlines, hpins, hlines] at hy
    exact hsafe _ y hy
  exact ⟨hlevel Pins.pwm .mid (fun _ => rfl) (by simp [Pins.classA]), hlevel Pins.chPwm .mid (fun _ => rfl) (by simp [Pins.classA]),
    hlevel Pins.drven false (fun _ => rfl) (by simp [Pins.classA]), hlevel Pins.chDrven false (fun _ => rfl) (by simp [Pins.classA]),
    hlevel Pins.tgg false (fun _ => rfl) (by simp [Pins.classA]), hlevel Pins.seqEn false (fun _ => rfl) (by simp [Pins.classA]),
    hlevel Pins.zclkRun false (fun _ => rfl) (by simp [Pins.classA]), hlevel Pins.rstOut true (fun _ => rfl) (by simp [Pins.classA]),
    hfault, halert, htold.classAFlag.trans hlatched, Device.aon_enterClassA h b source code⟩
end
